-- ==== Sys2Proof/Word.lean ====
section
/-!
DEFINITION. The plain index types of the part (spec/00_scope.md, 2.1) and the two small operand types of the
commands. Every index is a `Fin` counted from 0: position P1 is `0 : Pos`, antenna A1 is `0 : Ant`, band number 1 is
`0 : Band`; coils, groups, line codes and lines count from 0 in the manual already. The numbers the manual writes on
the links are made from these in Machine/Bytes.lean.
-/
namespace Sys2Proof

/-- One byte on a position link. -/
abbrev Byte := BitVec 8

/-- A position P1 to P6, and with it its link LPn, key request KRn, permit TPn and lines Ln.0 to Ln.3. -/
abbrev Pos := Fin 6
/-- An antenna A1 to A16. -/
abbrev Ant := Fin 16
/-- A coil C0 to C63. -/
abbrev Coil := Fin 64
/-- A coil group G0 to G7. -/
abbrev Group := Fin 8
/-- A band number 1 to 12. -/
abbrev Band := Fin 12
/-- A Band Plan index 1 to 24. -/
abbrev PlanIx := Fin 24
/-- A preference list number 1 to 16. -/
abbrev ListIx := Fin 16
/-- One of the four lines Ln.0 to Ln.3 of a position. -/
abbrev LineNo := Fin 4
/-- A line code 0 to 15. -/
abbrev LineCode := Fin 16
/-- A lockout entry 1 to 16. -/
abbrev LockIx := Fin 16

/-- The six positions in ascending order. -/
abbrev positions : List Pos := List.finRange 6
/-- The sixteen antennas in ascending order. -/
abbrev antennas : List Ant := List.finRange 16
/-- The sixty-four coils in ascending order. -/
abbrev coils : List Coil := List.finRange 64
/-- The eight groups in ascending order. -/
abbrev groups : List Group := List.finRange 8

/-- The levels of the link rate straps RATE1 and RATE0 (R182); true is high. -/
structure Straps where
  rate1 : Bool
  rate0 : Bool
  deriving DecidableEq, Repr

/-- The two fail-safe selector lines (R102). -/
inductive Selector where
  | sa
  | sb
  deriving DecidableEq, Repr

end Sys2Proof
end

