-- ==== Sys2Proof/Syntax.lean ====
section
/-!
DEFINITION. The commands of the part: one constructor per row of spec/opcode_table.json. A command is one event the part
takes (spec/00_scope.md, 2.5), with what comes from outside at that event as its operands: the link or position, the
byte, the level, the measured value. A request row is the Request Handler's take of a frame of its class (R186); its
operands are the link served and the body of the frame taken.
-/
namespace Sys2Proof

inductive Instr where
  /-- BYTE_RECEIVED (R183): a byte received on RXD of link `lp`. -/
  | byteReceived (lp : Pos) (data : Byte)
  /-- GAP_TIMER_EXPIRY (R183). -/
  | gapTimerExpiry (lp : Pos)
  /-- TRANSMIT_START (R187). -/
  | transmitStart (lp : Pos)
  /-- TRANSMIT_COMPLETION (R187, R179): `straps` are the rate strap levels at this moment, sampled when the completion
  makes a due restart. -/
  | transmitCompletion (lp : Pos) (straps : Straps)
  /-- UNKNOWN_CLASS (R194): the take of a frame whose class `cls` is no request class. -/
  | unknownClass (lp : Pos) (cls : Byte) (body : List Byte)
  /-- BAND_REPORT (R21): the take of a frame of class 0x01. -/
  | bandReport (lp : Pos) (body : List Byte)
  /-- ROUTE (R40): the take of a frame of class 0x02. -/
  | route (lp : Pos) (body : List Byte)
  /-- REVERT (R47): the take of a frame of class 0x03. -/
  | revert (lp : Pos) (body : List Byte)
  /-- RELEASE (R48): the take of a frame of class 0x04. -/
  | release (lp : Pos) (body : List Byte)
  /-- MODE_FOLLOW (R38): the take of a frame of class 0x05 whose body begins with 0. -/
  | modeFollow (lp : Pos) (body : List Byte)
  /-- MODE_MANUAL (R38): the take of any other frame of class 0x05. -/
  | modeManual (lp : Pos) (body : List Byte)
  /-- SELECT (R197): the take of a frame of class 0x07. -/
  | select (lp : Pos) (body : List Byte)
  /-- WRITE (R198): the take of a frame of class 0x08. -/
  | write (lp : Pos) (body : List Byte)
  /-- READ (R199): the take of a frame of class 0x09. -/
  | read (lp : Pos) (body : List Byte)
  /-- QUERY_POSITION (R63): the take of a frame of class 0x06 whose target is 1, or is none of the six. -/
  | queryPosition (lp : Pos) (body : List Byte)
  /-- QUERY_ANTENNA (R63): the take of a frame of class 0x06 whose target is 2. -/
  | queryAntenna (lp : Pos) (body : List Byte)
  /-- QUERY_STATION (R200): the take of a frame of class 0x06 whose target is 3. -/
  | queryStation (lp : Pos) (body : List Byte)
  /-- QUERY_LINK (R201): the take of a frame of class 0x06 whose target is 4. -/
  | queryLink (lp : Pos) (body : List Byte)
  /-- QUERY_LINES (R34): the take of a frame of class 0x06 whose target is 5. -/
  | queryLines (lp : Pos) (body : List Byte)
  /-- QUERY_COIL (R109): the take of a frame of class 0x06 whose target is 6. -/
  | queryCoil (lp : Pos) (body : List Byte)
  /-- COMMIT (R156): the take of a frame of class 0x0A. -/
  | commit (lp : Pos) (body : List Byte)
  /-- DISCARD (R155): the take of a frame of class 0x0B. -/
  | discard (lp : Pos) (body : List Byte)
  /-- STORE (R176): the take of a frame of class 0x0C. -/
  | store (lp : Pos) (body : List Byte)
  /-- CLEAR_FAULT (R118): the take of a frame of class 0x0D whose body is not the one byte 255. -/
  | clearFault (lp : Pos) (body : List Byte)
  /-- CLEAR_FAULT_ALL (R118): the take of a frame of class 0x0D whose body is the one byte 255. -/
  | clearFaultAll (lp : Pos) (body : List Byte)
  /-- RESUME (R174): the take of a frame of class 0x0E. -/
  | resume (lp : Pos) (body : List Byte)
  /-- FORCE_SAFE (R172): the take of a frame of class 0x0F. -/
  | forceSafe (lp : Pos) (body : List Byte)
  /-- RESTART (R179): the take of a frame of class 0x10. -/
  | restart (lp : Pos) (body : List Byte)
  /-- LINE_SET (R33): the take of a frame of class 0x11. -/
  | lineSet (lp : Pos) (body : List Byte)
  /-- KEY_DOWN (R135): a rise of KR of position `p`. -/
  | keyDown (p : Pos)
  /-- KEY_UP (R141): a fall of KR of position `p`. -/
  | keyUp (p : Pos)
  /-- POSITION_LINE_CHANGE (R23): the level applied from outside to line `k` of position `p` becomes `level`. -/
  | positionLineChange (p : Pos) (k : LineNo) (level : Bool)
  /-- SELECTOR_LINE_CHANGE (R102): the level of SA or SB becomes `level`. -/
  | selectorLineChange (line : Selector) (level : Bool)
  /-- SENSE_EVENT (R111): the converted current of coil `c` becomes `current` mA. -/
  | senseEvent (c : Coil) (current : Nat)
  /-- SUPPLY_EVENT (R124): the converted coil supply becomes `tenths` tenths of a volt. -/
  | supplyEvent (tenths : Nat)
  /-- POWER_ON (R178): the part's supply rises and becomes stable; `resetLow` says that RESET is held low through it,
  and `straps` are the rate strap levels as start-up begins. -/
  | powerOn (resetLow : Bool) (straps : Straps)
  /-- RESET_LINE_LOW (R178): RESET is driven low. -/
  | resetLineLow
  /-- RESET_LINE_HIGH (R178): RESET returns high, with the rate strap levels at this moment. -/
  | resetLineHigh (straps : Straps)
  /-- LOAD_COMPLETION (R181). -/
  | loadCompletion
  /-- SETTLE_EXPIRY (R24). -/
  | settleExpiry (p : Pos)
  /-- QUIET_WAIT_EXPIRY (R73). -/
  | quietWaitExpiry (p : Pos)
  /-- DEPARTURE (R72). -/
  | departure (p : Pos)
  /-- BREAK_EXPIRY (R77). -/
  | breakExpiry (p : Pos)
  /-- MAKE_EXPIRY (R79). -/
  | makeExpiry (p : Pos)
  /-- BLANK_EXPIRY (R106). -/
  | blankExpiry (c : Coil)
  /-- TAIL_EXPIRY (R129). -/
  | tailExpiry (p : Pos)
  /-- KEY_WAIT_EXPIRY (R140). -/
  | keyWaitExpiry (p : Pos)
  /-- COMMIT_TIMER_EXPIRY (R159). -/
  | commitTimerExpiry
  /-- STORE_COMPLETION (R176): `verified` says whether contents and check word read back equal to those written;
  `straps` are the rate strap levels at this moment, sampled when the completion makes a due restart. -/
  | storeCompletion (verified : Bool) (straps : Straps)
  /-- COMMIT_APPLY (R160). -/
  | commitApply
  /-- APPLY_SUPPLY_FAIL_ENTRY (R165). -/
  | applySupplyFailEntry
  deriving DecidableEq, Repr

end Sys2Proof
end

