-- ==== Sys2Proof/Decode.lean ====
section
/-!
DEFINITION. The decoder of the table's words. No row of spec/opcode_table.json gives any bits (every row's "fields" is
empty and none has "fixed"): the part takes events, not instruction words, so no word spells a command. The frames on
the links, which do have a byte layout, are decoded by the framer and the Request Handler (Machine/Links.lean,
Machine/Handler.lean), not here. Beside it stand the four functions that say which row of the table a frame belongs to.
-/
namespace Sys2Proof

/-- The command a word spells by the table's bits: none, since the table gives no row any bits. -/
def decodeTableWord (_nbits _w : Nat) : Option Instr := none

/-- The classes 0x01 to 0x11 are the request classes (R194). -/
def isRequestClass (cls : Byte) : Bool := decide (1 ≤ cls.toNat) && decide (cls.toNat ≤ 0x11)

/-- The row of the table a QUERY body belongs to, by its target byte (R200): 2 to 6 name a row of their own, and every
other body, the malformed ones among them, belongs to QUERY_POSITION (notes/assumptions/4.md). -/
def queryRow (body : List Byte) : Nat :=
  match body with
  | [] => 1
  | t :: _ => if 2 ≤ t.toNat ∧ t.toNat ≤ 6 then t.toNat else 1

/-- A MODE body belongs to MODE_FOLLOW when it begins with 0, else to MODE_MANUAL (notes/assumptions/4.md). -/
def modeRowIsFollow (body : List Byte) : Bool := body.head? == some 0

/-- A CLEAR FAULT body belongs to CLEAR_FAULT_ALL when it is the one byte 255 (notes/assumptions/4.md). -/
def clearRowIsAll (body : List Byte) : Bool := body == [255]

end Sys2Proof
end

