-- ==== Sys2Proof/Machine/Bytes.lean ====
section
/-!
DEFINITION. Bytes and numbers: the one place where the byte order of two-byte quantities (R189), the bit sets, the numbers
that the links carry for indices, and the check word of a frame (R184) are decided.
-/
namespace Sys2Proof.Machine

/-- The table `v` with the entry at `i` replaced. -/
def put {α : Type} {n : Nat} (v : Vector α n) (i : Fin n) (x : α) : Vector α n := v.set i.val x i.isLt

/-- The number the manual writes for an index that counts from 1. -/
def num {n : Nat} (i : Fin n) : Nat := i.val + 1

/-- An index that counts from 1, from its number. -/
def ofNum (n k : Nat) : Option (Fin n) := if h : 1 ≤ k ∧ k ≤ n then some ⟨k - 1, by omega⟩ else none

/-- An index that counts from 0, from its number. -/
def ofIndex (n k : Nat) : Option (Fin n) := if h : k < n then some ⟨k, h⟩ else none

/-- The byte of a number below 256. -/
def byte (n : Nat) : Byte := BitVec.ofNat 8 n

/-- A two-byte quantity, high byte first (R189). -/
def twoBytes (n : Nat) : List Byte := [byte (n / 256), byte n]

/-- The quantity two bytes carry, high byte first (R189). -/
def ofTwoBytes (hi lo : Byte) : Nat := hi.toNat * 256 + lo.toNat

/-- Yes and no are 1 and 0 (R192). -/
def flag (b : Bool) : Nat := if b then 1 else 0

/-- A field that takes 1 or 0. -/
def ofFlag (b : Byte) : Option Bool := if b = 1 then some true else if b = 0 then some false else none

/-- An optional index that counts from 1: 0 for none (R189). -/
def numOr0 {n : Nat} (i : Option (Fin n)) : Nat :=
  match i with
  | some i => num i
  | none => 0

/-- The number whose bit i is the i-th flag of the list. -/
def bitsOf (l : List Bool) : Nat := l.foldr (fun b n => flag b + 2 * n) 0

/-- A position set: bit p − 1 for position p (R189). -/
def posSetByte (s : Vector Bool 6) : Byte := byte (bitsOf s.toList)

/-- A coil set: eight bytes, of which byte b holds coils 8b to 8b + 7, lowest in bit 0 (R189). -/
def coilSetBytes (s : Coil → Bool) : List Byte :=
  groups.map fun g => byte (bitsOf ((List.finRange 8).map fun k : Fin 8 =>
    s ⟨8 * g.val + k.val, by have := g.isLt; have := k.isLt; omega⟩))

/-- `l` in a field of `n` bytes, the unused bytes 0 (R189). -/
def padded (n : Nat) (l : List Byte) : List Byte := (l ++ List.replicate n 0).take n

/-- One data bit into the check register (R184). -/
def crcBit (reg : BitVec 16) (bit : Bool) : BitVec 16 :=
  if reg.msb = bit then reg <<< 1 else (reg <<< 1) ^^^ 0x1021

/-- One byte into the check register, most significant bit first (R184). -/
def crcByte (reg : BitVec 16) (b : Byte) : BitVec 16 :=
  [7, 6, 5, 4, 3, 2, 1, 0].foldl (fun r i => crcBit r (b.getLsbD i)) reg

/-- The check word over a list of bytes in the order sent (R184). -/
def crc (l : List Byte) : BitVec 16 := l.foldl crcByte 0xFFFF

/-- The check word as its two bytes, high byte first (R184). -/
def crcBytes (l : List Byte) : List Byte := twoBytes (crc l).toNat

/-- A whole frame as sent (R189). -/
def frameBytes (cls : Byte) (body : List Byte) : List Byte :=
  let covered := byte (body.length + 1) :: cls :: body
  0xC3 :: covered ++ crcBytes covered

end Sys2Proof.Machine
end

