-- ==== Sys2Proof/Config.lean ====
section
/-!
DEFINITION. What the manual leaves open and the part fixes: the free values. A free value is an opaque constant, so that
no proof can rest on what it is.
-/
namespace Sys2Proof

/-- The 32-bit check word the Configuration Store computes over the table contents of an image (R175). The manual gives
its width and when it is computed and compared, not how: a free value (notes/assumptions/1.md). The argument is the
twelve tables as the records of R192, in table and index order. -/
opaque Config.imageCheckWord : List Byte → BitVec 32

end Sys2Proof
end

