-- ==== Sys2Proof/Machine/Tables.lean ====
section
/-!
DEFINITION. The station tables (spec/01_station_tables.md): the twelve tables of one bank as typed entries, and the empty
contents. Their byte records (R192) are in Machine/Operands.lean.
-/
namespace Sys2Proof.Machine

/-- Where a position's band comes from (R4, R20). -/
inductive BandSource where
  | link
  | lines
  deriving DecidableEq, Repr

/-- The mode of a position (R38). -/
inductive Mode where
  | follow
  | manual
  deriving DecidableEq, Repr

/-- Table 1, the Position Table (R4). -/
structure PositionEntry where
  enabled     : Bool
  source      : BandSource
  defaultMode : Mode
  deriving DecidableEq, Repr

/-- Table 2, the Band Plan (R5); limits in kHz. -/
structure PlanEntry where
  valid : Bool
  low   : Nat
  high  : Nat
  band  : Band
  list  : ListIx
  deriving DecidableEq, Repr

/-- How many positions an antenna serves (R10). -/
inductive ShareClass where
  | exclusive
  | split
  deriving DecidableEq, Repr

/-- Table 5, the Antenna Table (R10). Bit b of `coverage` stands for band number b + 1. -/
structure AntennaEntry where
  enabled     : Bool
  coverage    : BitVec 12
  share       : ShareClass
  branchLimit : Nat
  deriving DecidableEq, Repr

/-- A claim: a coil and the value a path requires of it (R12); true is ON. -/
structure Claim where
  coil : Coil
  on   : Bool
  deriving DecidableEq, Repr

/-- Table 6, the Path Table (R12). -/
structure PathEntry where
  defined : Bool
  claims  : List Claim
  deriving DecidableEq, Repr

/-- Table 7, the Lockout Table (R16). -/
structure LockoutEntry where
  valid : Bool
  bandA : Band
  bandB : Band
  deriving DecidableEq, Repr

/-- The mode of a coil group (R14). -/
inductive GroupMode where
  | shared
  | exclusive
  deriving DecidableEq, Repr

/-- Which of the two Diagnostic Setup thresholds a coil uses (R15). -/
inductive ShortThreshold where
  | t0
  | t1
  deriving DecidableEq, Repr

/-- The value a coil takes under the SAFE source (R15). -/
inductive FailSafeValue where
  | off
  | on
  | sa
  | sb
  deriving DecidableEq, Repr

/-- Table 10, the Coil Table (R15); a rest value of true is ON. -/
structure CoilEntry where
  rest        : Bool
  diagnostics : Bool
  threshold   : ShortThreshold
  failSafe    : FailSafeValue
  deriving DecidableEq, Repr

/-- Table 11, the Timing Set (R17), each field in the unit the table gives it. -/
structure TimingSet where
  breakMs     : Nat
  makeMs      : Nat
  blankMs     : Nat
  tailMs      : Nat
  keyWaitMs   : Nat
  quietWaitS  : Nat
  commitWaitS : Nat
  settleMs    : Nat
  deriving DecidableEq, Repr

/-- The suppress flags of the Diagnostic Setup (R18). -/
structure NoticeMask where
  openCoil   : Bool
  short      : Bool
  supplyLow  : Bool
  supplyFail : Bool
  store      : Bool
  deriving DecidableEq, Repr

/-- Table 12, the Diagnostic Setup (R18): currents in mA, voltages in tenths of a volt. -/
structure DiagnosticSetup where
  openLimit  : Nat
  t0         : Nat
  t1         : Nat
  supplyLow  : Nat
  supplyFail : Nat
  mask       : NoticeMask
  deriving DecidableEq, Repr

/-- One bank: the twelve tables (R1). The Preference Lists hold the counted slots as written, 0 to 255 (R9); the Line
Code Map holds none or an entry number 1 to 255 (R8); the Band Attributes hold the single-signal flag (R7). -/
structure Bank where
  positions   : Vector PositionEntry 6
  plan        : Vector PlanEntry 24
  attributes  : Vector Bool 12
  preferences : Vector (List Nat) 16
  antennas    : Vector AntennaEntry 16
  paths       : Vector PathEntry 96
  lockouts    : Vector LockoutEntry 16
  lineCodes   : Vector (Option Nat) 16
  groups      : Vector GroupMode 8
  coils       : Vector CoilEntry 64
  timing      : TimingSet
  diagnostics : DiagnosticSetup
  deriving DecidableEq, Repr

/-- The empty contents: the value under "Empty" of every field of the tables of chapter 1. -/
def Bank.empty : Bank where
  positions   := Vector.replicate 6 ⟨false, .link, .follow⟩
  plan        := Vector.replicate 24 ⟨false, 0, 0, 0, 0⟩
  attributes  := Vector.replicate 12 false
  preferences := Vector.replicate 16 []
  antennas    := Vector.replicate 16 ⟨false, 0, .exclusive, 2⟩
  paths       := Vector.replicate 96 ⟨false, []⟩
  lockouts    := Vector.replicate 16 ⟨false, 0, 0⟩
  lineCodes   := Vector.replicate 16 none
  groups      := Vector.replicate 8 .shared
  coils       := Vector.replicate 64 ⟨false, true, .t0, .off⟩
  timing      := ⟨10, 20, 10, 50, 0, 10, 30, 50⟩
  diagnostics := ⟨20, 400, 800, 110, 95, ⟨false, false, false, false, false⟩⟩

/-- The twelve tables by their ids 1 to 12 (Table 1-1). -/
inductive TableId where
  | positionTable
  | bandPlan
  | bandAttributes
  | preferenceLists
  | antennaTable
  | pathTable
  | lockoutTable
  | lineCodeMap
  | coilGroups
  | coilTable
  | timingSet
  | diagnosticSetup
  deriving DecidableEq, Repr

/-- The two banks (R1). -/
inductive BankName where
  | active
  | staging
  deriving DecidableEq, Repr

end Sys2Proof.Machine
end

