-- ==== Sys2Proof/Machine/State.lean ====
section
/-!
DEFINITION. The state of the part, block by block, as plain data, and its value right after a power-on reset. The rule
that gives each piece and its reset value is cited at the field. Pieces that hold nothing of their own (a line's
function, mismatch, liveness, the coil part of the fault summary, the holder and reservation lists as views of
one ordered list, ROOMn) are functions of this state in Machine/Flags.lean and Machine/Ops.lean.
-/
namespace Sys2Proof.Machine

/-- A timer: stopped, or running with the duration in ms it was started with (R2). No clock runs in the model: a running
timer's expiry is a command (notes/assumptions/3.md). -/
abbrev Timer := Option Nat

/-- A set of positions, as one flag per position. -/
abbrev PosSet := Vector Bool 6

/-! ### Band Classifier and Position Lines (chapter 2) -/

/-- Table 2-1: the classifier record of one position (R20). -/
structure ClassRecord where
  /-- band source in force; LINK after a reset. -/
  source      : BandSource
  /-- last frequency in kHz; absent after a reset. -/
  frequency   : Option Nat
  /-- settled code; absent after a reset. -/
  settled     : Option LineCode
  /-- settle timer; stopped after a reset. -/
  settleTimer : Timer
  /-- band entry; absent after a reset. -/
  entry       : Option PlanIx
  deriving DecidableEq, Repr

/-- One position line (R31): after a reset IN with latch 0. -/
structure LineRecord where
  /-- direction; true is OUT. -/
  out   : Bool
  /-- latch. -/
  latch : Bool
  deriving DecidableEq, Repr

/-! ### Route Engine (chapters 3 and 4) -/

/-- R36. -/
inductive RouteState where
  | disabled
  | idle
  | switching
  | routed
  | faulted
  deriving DecidableEq, Repr

/-- The cause of a transition or pending request (R35). -/
inductive Cause where
  | request
  | follow
  | commit
  | fault
  deriving DecidableEq, Repr

/-- The phases of a transition (R65); `brk` is BREAK. -/
inductive Phase where
  | wait
  | brk
  | make
  | check
  deriving DecidableEq, Repr

/-- The kind of a request (R40). -/
inductive RequestKind where
  | byPreference
  | antenna (a : Ant)
  | release
  deriving DecidableEq, Repr

/-- A transition record (R35, R66, R72). -/
structure Transition where
  /-- the old antenna, or none. -/
  old        : Option Ant
  /-- the target antenna, or none. -/
  target     : Option Ant
  /-- the kind of the request that set the target, which R160 keeps for re-selection. -/
  kind       : RequestKind
  cause      : Cause
  phase      : Phase
  /-- runs in BREAK and MAKE (R66). -/
  phaseTimer : Timer
  /-- runs in WAIT (R66). -/
  quietTimer : Timer
  /-- the route state the position had when the transition started. -/
  start      : RouteState
  /-- marked due by an examination (R72). -/
  due        : Bool
  /-- the claims BREAK removed, whose groups break expiry settles once more (R77); empty before BREAK. -/
  broken     : List Claim
  deriving DecidableEq, Repr

/-- The status of a pending request (R35). -/
inductive PendingStatus where
  | latched
  | held
  deriving DecidableEq, Repr

/-- A pending request (R35). -/
structure PendingRequest where
  kind   : RequestKind
  status : PendingStatus
  cause  : Cause
  deriving DecidableEq, Repr

/-- Table 3-1: the context of one position (R35). -/
structure Context where
  /-- route state; IDLE after a reset. -/
  state      : RouteState
  /-- current antenna; none after a reset. -/
  antenna    : Option Ant
  /-- transition; none after a reset. -/
  transition : Option Transition
  /-- pending slot; empty after a reset. -/
  slot       : Option PendingRequest
  /-- mode; FOLLOW after a reset. -/
  mode       : Mode
  /-- route history, most recent first, at most 8 (R56); empty after a reset. -/
  history    : List Ant
  /-- forced-release mark; clear after a reset. -/
  mark       : Bool
  deriving DecidableEq, Repr

/-- How a position stands on an antenna (R39). -/
inductive Role where
  | reserving
  | holding
  deriving DecidableEq, Repr

/-- A place on an antenna. -/
structure Occupant where
  pos  : Pos
  role : Role
  deriving DecidableEq, Repr

/-- The record of one antenna (R39); both parts are empty after a reset. The holder list and the reservation list are
both ordered by the moment of reservation and are held as one list in that order: MAKE turns a place from reserving to
holding where it stands, and the two lists are its two filters. -/
structure AntennaRecord where
  occupants : List Occupant
  /-- switch hold set. -/
  holds     : PosSet
  deriving DecidableEq, Repr

/-- The Route Engine: contexts (R35), antenna records (R39) and the held list (R52), oldest first. -/
structure Routes where
  contexts : Vector Context 6
  antennas : Vector AntennaRecord 16
  held     : List Pos
  deriving DecidableEq, Repr

/-! ### Coil Composer and Driver Bank (chapter 5) -/

/-- The two claim lists of one position (R92); empty after a reset. -/
structure ClaimLists where
  effective : List Claim
  reserved  : List Claim
  deriving DecidableEq, Repr

/-- The mode in force of one group and its exclusive-awaited flag (R92); SHARED and no after a reset. -/
structure GroupRecord where
  inForce : GroupMode
  awaited : Bool
  deriving DecidableEq, Repr

/-- The output source (R99); none after a reset. -/
inductive OutputSource where
  | none
  | routing
  | frozen
  | safe
  deriving DecidableEq, Repr

/-- Table 5-1, per coil (R92): after a reset OFF, OFF, clear, stopped and off. -/
structure CoilRecord where
  frozen    : Bool
  commanded : Bool
  trip      : Bool
  blank     : Timer
  /-- drive energized. -/
  drive     : Bool
  deriving DecidableEq, Repr

/-- The coil image (R92). -/
structure CoilImage where
  claims : Vector ClaimLists 6
  groups : Vector GroupRecord 8
  source : OutputSource
  coils  : Vector CoilRecord 64
  deriving DecidableEq, Repr

/-! ### Coil Monitor and Supply Monitor (chapter 6) -/

/-- The class of a coil's current (R111). -/
inductive Sense where
  | low
  | normal
  | high
  deriving DecidableEq, Repr

/-- The fault latch of a coil (R110). -/
inductive Latch where
  | none
  | open
  | short
  deriving DecidableEq, Repr

/-- Table 6-1 (R110): NORMAL and NONE after a reset. `current` is the coil's converted current in mA, an input that no
reset changes; 0 at power-on (notes/assumptions/2.md). -/
structure SenseRecord where
  current : Nat
  sense   : Sense
  latch   : Latch
  deriving DecidableEq, Repr

/-- The level of the coil supply (R123). -/
inductive SupplyLevel where
  | good
  | low
  | fail
  deriving DecidableEq, Repr

/-- The Supply Monitor (R123): measured voltage in tenths of a volt, and the level. `converted` says whether a conversion
has been taken since the reset, the first of which sets the level without hysteresis. -/
structure Supply where
  measured  : Nat
  level     : SupplyLevel
  converted : Bool
  deriving DecidableEq, Repr

/-! ### Keying Gate (chapter 7) -/

/-- The obstacles of Table 7-2 and the barred reasons of Table 7-3, in the order of their codes (R191). -/
inductive Reason where
  | failsafe
  | notRouted
  | switching
  | noBand
  | mismatch
  | supplyLow
  | switchHold
  | holderLive
  | singleSignal
  | lockout
  | waitLimit
  | fault
  | commit
  deriving DecidableEq, Repr

/-- The key state (R128), with the waiting obstacle present exactly in WAITING and the barred reason exactly in BARRED. -/
inductive KeyState where
  | up
  | waiting (obstacle : Reason)
  | on
  | tail
  | barred (reason : Reason)
  deriving DecidableEq, Repr

/-- Table 7-1: the key record of one position (R128): UP, stopped, stopped and de-asserted after a reset. -/
structure KeyRecord where
  state   : KeyState
  tail    : Timer
  keyWait : Timer
  /-- TPn asserted. -/
  permit  : Bool
  deriving DecidableEq, Repr

/-- The key records and the waiting list, oldest first (R128); the list is empty after a reset. -/
structure Gate where
  keys    : Vector KeyRecord 6
  waiting : List Pos
  deriving DecidableEq, Repr

/-- The operating blocks: everything a route, key, band or coil event can change. -/
structure Blocks where
  classifier : Vector ClassRecord 6
  routes     : Routes
  image      : CoilImage
  monitor    : Vector SenseRecord 64
  gate       : Gate
  deriving DecidableEq, Repr

/-! ### Bank Memory, Configuration Store and Station Control (chapters 8 and 9) -/

/-- Table 8-1 (R154). The commit state is PENDING exactly while `pending`. In STARTING both banks hold the empty
contents, against which the monitors then classify (R111, R123; notes/assumptions/5.md). -/
structure Banks where
  active      : Bank
  staging     : Bank
  /-- bank-valid flag; clear after a reset. -/
  valid       : Bool
  /-- commit state PENDING; IDLE after a reset. -/
  pending     : Bool
  /-- issuing link; absent after a reset. -/
  issuer      : Option Pos
  /-- commit timer; stopped after a reset. -/
  timer       : Timer
  /-- apply due; no after a reset. -/
  due         : Bool
  deriving DecidableEq, Repr

/-- The stored image (R175, R176): written whole with its check word, or left not checking by a store that is running,
failed or was cut off. -/
inductive StoredImage where
  | written (contents : Bank) (checkWord : BitVec 32)
  | torn
  deriving DecidableEq, Repr

/-- The store state (R175): while WRITING, the bank it took and the store issuing link. -/
inductive StoreState where
  | idle
  | writing (taken : Bank) (issuer : Pos)
  deriving DecidableEq, Repr

/-- The Configuration Store (R175). -/
structure Store where
  image : StoredImage
  state : StoreState
  deriving DecidableEq, Repr

/-- R168. -/
inductive StationMode where
  | starting
  | normal
  | failsafe
  deriving DecidableEq, Repr

/-- A fail-safe cause (R170). -/
inductive SafeCause where
  | store
  | supplyFail
  | forced
  deriving DecidableEq, Repr

/-- The set of fail-safe causes (R168). -/
structure CauseSet where
  store      : Bool
  supplyFail : Bool
  forced     : Bool
  deriving DecidableEq, Repr

/-- The kind of the last reset (R168, R178). -/
inductive StartCause where
  | power
  | line
  | command
  deriving DecidableEq, Repr

/-- Table 9-1 (R168), the store flag of the fault summary (R122), and the two events of Station Control that are due. -/
structure Station where
  /-- STARTING after a reset. -/
  mode         : StationMode
  /-- empty after a reset. -/
  causes       : CauseSet
  startCause   : StartCause
  /-- restart-due set; empty after a reset. -/
  restartDue   : PosSet
  /-- a restart whose reply has gone out waits for the running store (R179). -/
  restartWaits : Bool
  /-- store part of the fault summary; clear until load completion. -/
  storeFlag    : Bool
  /-- a change of supply level to FAIL at an apply has made a fail-safe entry due (R165). -/
  failEntryDue : Bool
  deriving DecidableEq, Repr

/-! ### Link Ports and Request Handler (chapter 10) -/

/-- A complete frame (R189). -/
structure Frame where
  cls  : Byte
  body : List Byte
  deriving DecidableEq, Repr

/-- The receive framer (R183), with the bytes of the frame in progress: `got` are LEN and the bytes after it. -/
inductive Framer where
  | hunt
  | length
  | body (left : Nat) (got : List Byte)
  | check (got : List Byte) (first : Option Byte)
  deriving DecidableEq, Repr

/-- The disposition of a route request (R190). -/
inductive Disposition where
  | unchanged
  | started
  | latched
  | held
  deriving DecidableEq, Repr

/-- The reasons of a REFUSED reply (R190). -/
inductive RefuseReason where
  | failsafe
  | disabled
  | noBand
  | noCandidate
  | noPath
  | empty
  | state
  deriving DecidableEq, Repr

/-- The answer of the Route Engine to a request (R41, R48 to R50). -/
inductive Answer where
  | accepted (d : Disposition)
  | refused (r : RefuseReason)
  deriving DecidableEq, Repr

/-- The result of a request with its further bytes (R190). -/
inductive Result where
  | done (further : List Byte)
  | accepted (d : Option Disposition)
  | refused (r : RefuseReason)
  | busy
  | badArg
  | unknown
  | noCursor
  | inconsistent (table : TableId) (index : Nat)
  deriving DecidableEq, Repr

/-- A reply: the class of the request it answers, and the result (R190). -/
structure Reply where
  cls    : Byte
  result : Result
  deriving DecidableEq, Repr

/-- The cause of a ROUTE NOTICE (R62). -/
inductive RouteCause where
  | routed
  | released
  | fault
  | quietTimeout
  | commit
  | heldSelected
  | follow
  | refused
  deriving DecidableEq, Repr

/-- The event of a KEY NOTICE (R152). -/
inductive KeyEvent where
  | waiting
  | granted
  | barred
  | withdrawn
  deriving DecidableEq, Repr

/-- The event of a STATION NOTICE (Table 9-2). -/
inductive StationEvent where
  | started
  | entered
  | causeAdded
  | safe
  | resumed
  deriving DecidableEq, Repr

/-- A notice with the contents of its body (R191). -/
inductive Notice where
  | route (pos : Pos) (state : RouteState) (antenna : Option Ant) (phase : Option Phase) (target : Option Ant)
      (slot : Option PendingRequest) (cause : RouteCause) (answer : Option Answer)
  | key (pos : Pos) (event : KeyEvent) (state : KeyState) (tail : Bool) (band : Option Band) (conflict : Option Pos)
  | coilFault (kind : Latch) (coil : Coil) (before after : Latch) (opens shorts : Nat)
  | supplyFault (failKind : Bool) (before : Option SupplyLevel) (after : SupplyLevel) (measured : Nat)
  | bank (applied : Bool) (issuer : Option Pos) (released : Nat)
  | store (ok : Bool) (issuer : Option Pos)
  | station (event : StationEvent) (mode : StationMode) (causes : CauseSet) (source : OutputSource) (datum : Nat)
      (valid : Bool)
  deriving DecidableEq, Repr

/-- What a link's transmitter is doing (R187). -/
inductive Transmitter where
  | idle
  | sendingReply
  | sendingNotice
  deriving DecidableEq, Repr

/-- A table cursor that is set (R197). -/
structure Cursor where
  bank  : BankName
  table : TableId
  index : Nat
  deriving DecidableEq, Repr

/-- Table 10-1: one link port (R182); after a reset HUNT, stopped, empty, empty, empty, IDLE, 0, clear and unset. ROOMn is
`State.room`. -/
structure Port where
  framer      : Framer
  gapTimer    : Timer
  inbound     : List Frame
  reply       : Option Reply
  notices     : List Notice
  transmitter : Transmitter
  discarded   : Nat
  dropped     : Bool
  cursor      : Option Cursor
  deriving DecidableEq, Repr

/-! ### Pins and resets -/

/-- The levels present at the input pins, which no reset changes; all low at power-on (notes/assumptions/2.md). -/
structure Pins where
  /-- KRn (R127). -/
  keys  : Vector Bool 6
  /-- the level applied from outside to line Ln.k (R23). -/
  lines : Vector (Vector Bool 4) 6
  /-- SA and SB (R102). -/
  sa    : Bool
  sb    : Bool
  /-- RESET is held low (R178). -/
  resetLow : Bool
  deriving DecidableEq, Repr

/-- The state of the part. -/
structure State where
  /-- the commands that are waiting, first in first out. -/
  pending  : List Instr
  pins     : Pins
  /-- start-up has begun since the last reset (R178, R180). -/
  startUp  : Bool
  /-- the straps as sampled when start-up began (R182). -/
  rate     : Straps
  station  : Station
  supply   : Supply
  banks    : Banks
  store    : Store
  /-- the position lines Ln.k (R31). -/
  lines    : Vector (Vector LineRecord 4) 6
  blocks   : Blocks
  ports    : Vector Port 6
  /-- the round-robin pointer of the Request Handler; LP1 after a reset (R186). -/
  pointer  : Pos
  deriving DecidableEq, Repr

/-- Why a command stops the machine: never. The manual describes no event at which the part stops, and every command has
an effect in every state, so there is no constructor (safe: nothing of the part is cut off). -/
inductive Fault where
  deriving DecidableEq, Repr

/-- Why a command is refused. -/
inductive Refusal where
  /-- The command has no meaning in the model yet; raised by `exec` alone, in the arm of that command. Safe: no false
  claim follows from a stop. No arm raises it. -/
  | notModelled (mnemonic : String)
  deriving DecidableEq, Repr

/-! ### Reset values -/

/-- Table 2-1. -/
def ClassRecord.reset : ClassRecord := ⟨.link, none, none, none, none⟩
/-- R31. -/
def LineRecord.reset : LineRecord := ⟨false, false⟩
/-- Table 3-1. -/
def Context.reset : Context := ⟨.idle, none, none, none, .follow, [], false⟩
/-- The empty set of positions. -/
def PosSet.empty : PosSet := Vector.replicate 6 false
/-- R39. -/
def AntennaRecord.reset : AntennaRecord := ⟨[], PosSet.empty⟩
/-- R35, R39, R52. -/
def Routes.reset : Routes := ⟨Vector.replicate 6 Context.reset, Vector.replicate 16 AntennaRecord.reset, []⟩
/-- Table 5-1, per coil. -/
def CoilRecord.reset : CoilRecord := ⟨false, false, false, none, false⟩
/-- Table 5-1. -/
def CoilImage.reset : CoilImage :=
  ⟨Vector.replicate 6 ⟨[], []⟩, Vector.replicate 8 ⟨.shared, false⟩, .none, Vector.replicate 64 CoilRecord.reset⟩
/-- Table 7-1. -/
def KeyRecord.reset : KeyRecord := ⟨.up, none, none, false⟩
/-- R128. -/
def Gate.reset : Gate := ⟨Vector.replicate 6 KeyRecord.reset, []⟩
/-- The operating blocks after a reset, with the sense inputs at `currents` mA. -/
def Blocks.reset (currents : Coil → Nat) : Blocks :=
  ⟨Vector.replicate 6 ClassRecord.reset, Routes.reset, CoilImage.reset,
    Vector.ofFn fun c => ⟨currents c, .normal, .none⟩, Gate.reset⟩
/-- Table 8-1. -/
def Banks.reset : Banks := ⟨Bank.empty, Bank.empty, false, false, none, none, false⟩
/-- The empty cause set. -/
def CauseSet.empty : CauseSet := ⟨false, false, false⟩
/-- Table 9-1, with the kind of the reset. -/
def Station.reset (cause : StartCause) : Station :=
  ⟨.starting, CauseSet.empty, cause, PosSet.empty, false, false, false⟩
/-- Table 10-1. -/
def Port.reset : Port := ⟨.hunt, none, [], none, [], .idle, 0, false, none⟩

/-- The part right after a power-on reset with RESET high, start-up begun (R178): every block at its reset value, the
inputs, the strap samples, the measured voltage and the stored image at the values notes/assumptions/2.md names. -/
def State.reset : State where
  pending  := []
  pins     := ⟨Vector.replicate 6 false, Vector.replicate 6 (Vector.replicate 4 false), false, false, false⟩
  startUp  := true
  rate     := ⟨false, false⟩
  station  := Station.reset .power
  supply   := ⟨0, .fail, false⟩
  banks    := Banks.reset
  store    := ⟨.torn, .idle⟩
  lines    := Vector.replicate 6 (Vector.replicate 4 LineRecord.reset)
  blocks   := Blocks.reset fun _ => 0
  ports    := Vector.replicate 6 Port.reset
  pointer  := 0

end Sys2Proof.Machine
end

