-- ==== Sys2Proof/Machine/Operands.lean ====
section
/-!
DEFINITION. The operand forms of the requests: the entry records of the twelve tables (R192) with their write-time checks
(R3 to R18), both directions; the consistency checks of a bank (R19); and the codes of the links (R189 to R193).
-/
namespace Sys2Proof.Machine

/-! ### Table ids, index ranges and record lengths (Table 1-1, R192) -/

/-- The table with id k. -/
def TableId.ofNum : Nat → Option TableId
  | 1 => some .positionTable
  | 2 => some .bandPlan
  | 3 => some .bandAttributes
  | 4 => some .preferenceLists
  | 5 => some .antennaTable
  | 6 => some .pathTable
  | 7 => some .lockoutTable
  | 8 => some .lineCodeMap
  | 9 => some .coilGroups
  | 10 => some .coilTable
  | 11 => some .timingSet
  | 12 => some .diagnosticSetup
  | _ => none

/-- The id of a table. -/
def TableId.num : TableId → Nat
  | .positionTable => 1
  | .bandPlan => 2
  | .bandAttributes => 3
  | .preferenceLists => 4
  | .antennaTable => 5
  | .pathTable => 6
  | .lockoutTable => 7
  | .lineCodeMap => 8
  | .coilGroups => 9
  | .coilTable => 10
  | .timingSet => 11
  | .diagnosticSetup => 12

/-- The number of entries of a table. -/
def TableId.entries : TableId → Nat
  | .positionTable => 6
  | .bandPlan => 24
  | .bandAttributes => 12
  | .preferenceLists => 16
  | .antennaTable => 16
  | .pathTable => 96
  | .lockoutTable => 16
  | .lineCodeMap => 16
  | .coilGroups => 8
  | .coilTable => 64
  | .timingSet => 1
  | .diagnosticSetup => 1

/-- The first index of a table: line codes, groups and coils count from 0, every other table from 1. -/
def TableId.first : TableId → Nat
  | .lineCodeMap => 0
  | .coilGroups => 0
  | .coilTable => 0
  | .positionTable | .bandPlan | .bandAttributes | .preferenceLists | .antennaTable | .pathTable | .lockoutTable
  | .timingSet | .diagnosticSetup => 1

/-- One past the last index of a table: its end (R197). -/
def TableId.endIndex (t : TableId) : Nat := t.first + t.entries

/-- The record length of a table in bytes (R192). -/
def TableId.recordLength : TableId → Nat
  | .positionTable => 3
  | .bandPlan => 7
  | .bandAttributes => 1
  | .preferenceLists => 5
  | .antennaTable => 5
  | .pathTable => 8
  | .lockoutTable => 3
  | .lineCodeMap => 1
  | .coilGroups => 1
  | .coilTable => 4
  | .timingSet => 10
  | .diagnosticSetup => 10

/-! ### Records of one entry, read back (R192, R199) -/

def BandSource.code : BandSource → Nat
  | .link => 0
  | .lines => 1
def Mode.code : Mode → Nat
  | .follow => 0
  | .manual => 1
def ShareClass.code : ShareClass → Nat
  | .exclusive => 0
  | .split => 1
def GroupMode.code : GroupMode → Nat
  | .shared => 0
  | .exclusive => 1
def ShortThreshold.code : ShortThreshold → Nat
  | .t0 => 0
  | .t1 => 1
def FailSafeValue.code : FailSafeValue → Nat
  | .off => 0
  | .on => 1
  | .sa => 2
  | .sb => 3

def PositionEntry.record (e : PositionEntry) : List Byte :=
  [byte (flag e.enabled), byte e.source.code, byte e.defaultMode.code]

def PlanEntry.record (e : PlanEntry) : List Byte :=
  byte (flag e.valid) :: twoBytes e.low ++ twoBytes e.high ++ [byte (num e.band), byte (num e.list)]

/-- A preference list: its count and its slots, with uncounted slots 0. -/
def preferenceRecord (l : List Nat) : List Byte := byte l.length :: padded 4 (l.map byte)

def AntennaEntry.record (e : AntennaEntry) : List Byte :=
  byte (flag e.enabled) :: twoBytes e.coverage.toNat ++ [byte e.share.code, byte e.branchLimit]

/-- A claim byte: the coil in bits 0 to 5, 0 in bit 6 and the value in bit 7. -/
def Claim.record (c : Claim) : Byte := byte (c.coil.val + 128 * flag c.on)

def PathEntry.record (e : PathEntry) : List Byte :=
  byte (flag e.defined) :: byte e.claims.length :: padded 6 (e.claims.map Claim.record)

def LockoutEntry.record (e : LockoutEntry) : List Byte :=
  [byte (flag e.valid), byte (num e.bandA), byte (num e.bandB)]

/-- A line code entry: 0 for none. -/
def lineCodeRecord (e : Option Nat) : List Byte := [byte (e.getD 0)]

def CoilEntry.record (e : CoilEntry) : List Byte :=
  [byte (flag e.rest), byte (flag e.diagnostics), byte e.threshold.code, byte e.failSafe.code]

def TimingSet.record (t : TimingSet) : List Byte :=
  [byte t.breakMs, byte t.makeMs, byte t.blankMs] ++ twoBytes t.tailMs ++ twoBytes t.keyWaitMs
    ++ [byte t.quietWaitS, byte t.commitWaitS, byte t.settleMs]

def NoticeMask.code (m : NoticeMask) : Nat := bitsOf [m.openCoil, m.short, m.supplyLow, m.supplyFail, m.store]

def DiagnosticSetup.record (d : DiagnosticSetup) : List Byte :=
  byte d.openLimit :: twoBytes d.t0 ++ twoBytes d.t1 ++ twoBytes d.supplyLow ++ twoBytes d.supplyFail
    ++ [byte d.mask.code]

/-- The record of the entry with index `i` of table `t`; no bytes for an index outside the table. -/
def Bank.record (b : Bank) (t : TableId) (i : Nat) : List Byte :=
  match t with
  | .positionTable => ((ofNum 6 i).map fun k => (b.positions.get k).record).getD []
  | .bandPlan => ((ofNum 24 i).map fun k => (b.plan.get k).record).getD []
  | .bandAttributes => ((ofNum 12 i).map fun k => [byte (flag (b.attributes.get k))]).getD []
  | .preferenceLists => ((ofNum 16 i).map fun k => preferenceRecord (b.preferences.get k)).getD []
  | .antennaTable => ((ofNum 16 i).map fun k => (b.antennas.get k).record).getD []
  | .pathTable => ((ofNum 96 i).map fun k => (b.paths.get k).record).getD []
  | .lockoutTable => ((ofNum 16 i).map fun k => (b.lockouts.get k).record).getD []
  | .lineCodeMap => ((ofIndex 16 i).map fun k => lineCodeRecord (b.lineCodes.get k)).getD []
  | .coilGroups => ((ofIndex 8 i).map fun k => [byte (b.groups.get k).code]).getD []
  | .coilTable => ((ofIndex 64 i).map fun k => (b.coils.get k).record).getD []
  | .timingSet => if i = 1 then b.timing.record else []
  | .diagnosticSetup => if i = 1 then b.diagnostics.record else []

/-- The records of `count` entries from index `i` onward, back to back (R199). -/
def Bank.records (b : Bank) (t : TableId) (i count : Nat) : List Byte :=
  (List.range count).flatMap fun k => b.record t (i + k)

/-- Every record of a bank, in table and index order: the contents the Configuration Store's check word covers (R175). -/
def Bank.bytes (b : Bank) : List Byte :=
  [TableId.positionTable, .bandPlan, .bandAttributes, .preferenceLists, .antennaTable, .pathTable, .lockoutTable,
    .lineCodeMap, .coilGroups, .coilTable, .timingSet, .diagnosticSetup].flatMap fun t => b.records t t.first t.entries

/-! ### Write-time checks (R3): a record that passes them, as an entry -/

def BandSource.ofByte (b : Byte) : Option BandSource :=
  if b = 0 then some .link else if b = 1 then some .lines else none
def Mode.ofByte (b : Byte) : Option Mode :=
  if b = 0 then some .follow else if b = 1 then some .manual else none
def ShareClass.ofByte (b : Byte) : Option ShareClass :=
  if b = 0 then some .exclusive else if b = 1 then some .split else none
def GroupMode.ofByte (b : Byte) : Option GroupMode :=
  if b = 0 then some .shared else if b = 1 then some .exclusive else none
def ShortThreshold.ofByte (b : Byte) : Option ShortThreshold :=
  if b = 0 then some .t0 else if b = 1 then some .t1 else none
def FailSafeValue.ofByte (b : Byte) : Option FailSafeValue :=
  if b = 0 then some .off else if b = 1 then some .on else if b = 2 then some .sa else if b = 3 then some .sb else none

/-- R4. -/
def PositionEntry.ofRecord : List Byte → Option PositionEntry
  | [en, src, mode] => do
    let enabled ← ofFlag en
    let source ← BandSource.ofByte src
    let defaultMode ← Mode.ofByte mode
    some ⟨enabled, source, defaultMode⟩
  | _ => none

/-- R5. -/
def PlanEntry.ofRecord : List Byte → Option PlanEntry
  | [v, lowHi, lowLo, highHi, highLo, bandNo, listNo] => do
    let valid ← ofFlag v
    let low := ofTwoBytes lowHi lowLo
    let high := ofTwoBytes highHi highLo
    let band ← ofNum 12 bandNo.toNat
    let list ← ofNum 16 listNo.toNat
    if low ≤ high then some ⟨valid, low, high, band, list⟩ else none
  | _ => none

/-- R9: the counted slots are the list, the others are neither checked nor stored. -/
def preferenceOfRecord : List Byte → Option (List Nat)
  | count :: slots =>
    let counted := (slots.take count.toNat).map BitVec.toNat
    if slots.length = 4 ∧ count.toNat ≤ 4 ∧ counted.Nodup then some counted else none
  | [] => none

/-- R10: coverage bits 12 to 15 name a band outside 1 to 12 (R192). -/
def AntennaEntry.ofRecord : List Byte → Option AntennaEntry
  | [en, covHi, covLo, cls, limit] => do
    let enabled ← ofFlag en
    let share ← ShareClass.ofByte cls
    let cov := ofTwoBytes covHi covLo
    if cov < 4096 ∧ limit.toNat ≤ 4 then some ⟨enabled, BitVec.ofNat 12 cov, share, limit.toNat⟩ else none
  | _ => none

/-- A claim byte; bit 6 set names no coil (R12, R192). -/
def Claim.ofByte (b : Byte) : Option Claim :=
  if b.getLsbD 6 then none else some ⟨⟨b.toNat % 64, Nat.mod_lt _ (by decide)⟩, b.getLsbD 7⟩

/-- R12: an undefined entry has an empty claim list, whatever claims and count the record carries (notes/assumptions/15.md).
DESIGN CHOICE (notes/assumptions/23.md): of a defined entry the counted claim bytes alone are checked and kept; the spec
leaves open whether a byte beyond the count, with bit 6 set, fails the write. -/
def PathEntry.ofRecord : List Byte → Option PathEntry
  | dfn :: count :: claimBytes => do
    let defined ← ofFlag dfn
    if claimBytes.length = 6 then
      if defined then
        if 1 ≤ count.toNat ∧ count.toNat ≤ 6 then do
          let claims ← (claimBytes.take count.toNat).mapM Claim.ofByte
          some ⟨true, claims⟩
        else none
      else some ⟨false, []⟩
    else none
  | _ => none

/-- R16. -/
def LockoutEntry.ofRecord : List Byte → Option LockoutEntry
  | [v, a, b] => do
    let valid ← ofFlag v
    let bandA ← ofNum 12 a.toNat
    let bandB ← ofNum 12 b.toNat
    some ⟨valid, bandA, bandB⟩
  | _ => none

/-- R8: none or any entry number 1 to 255. -/
def lineCodeOfRecord : List Byte → Option (Option Nat)
  | [e] => some (if e.toNat = 0 then none else some e.toNat)
  | _ => none

/-- R14. -/
def groupModeOfRecord : List Byte → Option GroupMode
  | [m] => GroupMode.ofByte m
  | _ => none

/-- R7. -/
def attributeOfRecord : List Byte → Option Bool
  | [f] => ofFlag f
  | _ => none

/-- R15. -/
def CoilEntry.ofRecord : List Byte → Option CoilEntry
  | [rest, diag, thr, fs] => do
    let rest ← ofFlag rest
    let diagnostics ← ofFlag diag
    let threshold ← ShortThreshold.ofByte thr
    let failSafe ← FailSafeValue.ofByte fs
    some ⟨rest, diagnostics, threshold, failSafe⟩
  | _ => none

/-- The range and step of every field of the Timing Set (R17). -/
def TimingSet.inRange (t : TimingSet) : Bool :=
  decide (1 ≤ t.breakMs ∧ t.breakMs ≤ 100) && decide (1 ≤ t.makeMs ∧ t.makeMs ≤ 100)
    && [2, 4, 6, 8, 10, 15, 20, 30].contains t.blankMs
    && decide (t.tailMs ≤ 2000 ∧ t.tailMs % 10 = 0)
    && decide (t.keyWaitMs = 0 ∨ 100 ≤ t.keyWaitMs ∧ t.keyWaitMs ≤ 25500 ∧ t.keyWaitMs % 100 = 0)
    && decide (1 ≤ t.quietWaitS ∧ t.quietWaitS ≤ 60) && decide (1 ≤ t.commitWaitS ∧ t.commitWaitS ≤ 120)
    && decide (5 ≤ t.settleMs ∧ t.settleMs ≤ 250 ∧ t.settleMs % 5 = 0)

/-- R17. -/
def TimingSet.ofRecord : List Byte → Option TimingSet
  | [breakB, makeB, blankB, tailHi, tailLo, kwHi, kwLo, quiet, commit, settle] =>
    let t : TimingSet := ⟨breakB.toNat, makeB.toNat, blankB.toNat, ofTwoBytes tailHi tailLo, ofTwoBytes kwHi kwLo,
      quiet.toNat, commit.toNat, settle.toNat⟩
    if t.inRange then some t else none
  | _ => none

/-- The range and step of every threshold of the Diagnostic Setup (R18). -/
def DiagnosticSetup.inRange (d : DiagnosticSetup) : Bool :=
  decide (5 ≤ d.openLimit ∧ d.openLimit ≤ 100 ∧ d.openLimit % 5 = 0)
    && decide (50 ≤ d.t0 ∧ d.t0 ≤ 1000 ∧ d.t0 % 10 = 0) && decide (50 ≤ d.t1 ∧ d.t1 ≤ 1000 ∧ d.t1 % 10 = 0)
    && decide (100 ≤ d.supplyLow ∧ d.supplyLow ≤ 260) && decide (90 ≤ d.supplyFail ∧ d.supplyFail ≤ 250)

/-- R18; mask bits 5 to 7 set fail the write (R192). -/
def DiagnosticSetup.ofRecord : List Byte → Option DiagnosticSetup
  | [openLimit, t0Hi, t0Lo, t1Hi, t1Lo, lowHi, lowLo, failHi, failLo, mask] =>
    let d : DiagnosticSetup := ⟨openLimit.toNat, ofTwoBytes t0Hi t0Lo, ofTwoBytes t1Hi t1Lo, ofTwoBytes lowHi lowLo,
      ofTwoBytes failHi failLo,
      ⟨mask.getLsbD 0, mask.getLsbD 1, mask.getLsbD 2, mask.getLsbD 3, mask.getLsbD 4⟩⟩
    if d.inRange ∧ mask.toNat < 32 then some d else none
  | _ => none

/-- The bank with the entry at index `i` of table `t` replaced by the entry of `record`, when every field of the record
passes the write-time checks of the table (R3) and the index lies in the table. -/
def Bank.write (b : Bank) (t : TableId) (i : Nat) (record : List Byte) : Option Bank :=
  match t with
  | .positionTable => do
    let k ← ofNum 6 i
    let e ← PositionEntry.ofRecord record
    some { b with positions := put b.positions k e }
  | .bandPlan => do
    let k ← ofNum 24 i
    let e ← PlanEntry.ofRecord record
    some { b with plan := put b.plan k e }
  | .bandAttributes => do
    let k ← ofNum 12 i
    let e ← attributeOfRecord record
    some { b with attributes := put b.attributes k e }
  | .preferenceLists => do
    let k ← ofNum 16 i
    let e ← preferenceOfRecord record
    some { b with preferences := put b.preferences k e }
  | .antennaTable => do
    let k ← ofNum 16 i
    let e ← AntennaEntry.ofRecord record
    some { b with antennas := put b.antennas k e }
  | .pathTable => do
    let k ← ofNum 96 i
    let e ← PathEntry.ofRecord record
    some { b with paths := put b.paths k e }
  | .lockoutTable => do
    let k ← ofNum 16 i
    let e ← LockoutEntry.ofRecord record
    some { b with lockouts := put b.lockouts k e }
  | .lineCodeMap => do
    let k ← ofIndex 16 i
    let e ← lineCodeOfRecord record
    some { b with lineCodes := put b.lineCodes k e }
  | .coilGroups => do
    let k ← ofIndex 8 i
    let e ← groupModeOfRecord record
    some { b with groups := put b.groups k e }
  | .coilTable => do
    let k ← ofIndex 64 i
    let e ← CoilEntry.ofRecord record
    some { b with coils := put b.coils k e }
  | .timingSet => do
    let e ← TimingSet.ofRecord record
    if i = 1 then some { b with timing := e } else none
  | .diagnosticSetup => do
    let e ← DiagnosticSetup.ofRecord record
    if i = 1 then some { b with diagnostics := e } else none

/-! ### Consistency of a bank (R19) -/

/-- Check 1: every number in the list lies in 1 to 16. -/
def preferenceConsistent (l : List Nat) : Bool := l.all fun n => decide (1 ≤ n ∧ n ≤ 16)

/-- Check 2: a SPLIT antenna has a branch limit of 2 to 4. -/
def AntennaEntry.consistent (e : AntennaEntry) : Bool :=
  match e.share with
  | .exclusive => true
  | .split => decide (2 ≤ e.branchLimit ∧ e.branchLimit ≤ 4)

/-- Check 3: the claims of a defined path name distinct coils. -/
def PathEntry.consistent (e : PathEntry) : Bool := !e.defined || decide (e.claims.map Claim.coil).Nodup

/-- Check 6: a line code entry other than none names an index 1 to 24. -/
def lineCodeConsistent (e : Option Nat) : Bool :=
  match e with
  | none => true
  | some n => decide (1 ≤ n ∧ n ≤ 24)

/-- The first index of a table whose entry fails, as the offender. -/
def offender {n : Nat} (t : TableId) (ok : Fin n → Bool) : Option (TableId × Nat) :=
  ((List.finRange n).find? fun i => !ok i).map fun i => (t, t.first + i.val)

/-- The offender of the first of the six checks that fails, or none for a consistent bank. -/
def Bank.inconsistency (b : Bank) : Option (TableId × Nat) :=
  (offender .preferenceLists fun i => preferenceConsistent (b.preferences.get i)) <|>
  (offender .antennaTable fun i => (b.antennas.get i).consistent) <|>
  (offender .pathTable fun i => (b.paths.get i).consistent) <|>
  (offender .diagnosticSetup fun _ : Fin 1 => decide (b.diagnostics.supplyFail < b.diagnostics.supplyLow)) <|>
  (offender .diagnosticSetup fun _ : Fin 1 =>
    decide (b.diagnostics.openLimit < b.diagnostics.t0 ∧ b.diagnostics.openLimit < b.diagnostics.t1)) <|>
  (offender .lineCodeMap fun i => lineCodeConsistent (b.lineCodes.get i))

/-! ### Codes of the links (R190, R191, R193) -/

def RouteState.code : RouteState → Nat
  | .disabled => 0
  | .idle => 1
  | .switching => 2
  | .routed => 3
  | .faulted => 4

/-- 0 with no transition. -/
def phaseCode : Option Phase → Nat
  | none => 0
  | some .wait => 1
  | some .brk => 2
  | some .make => 3
  | some .check => 4

/-- 0 for none. -/
def causeCode : Option Cause → Nat
  | none => 0
  | some .request => 1
  | some .follow => 2
  | some .commit => 3
  | some .fault => 4

def RequestKind.code : RequestKind → Nat
  | .byPreference => 1
  | .antenna _ => 2
  | .release => 3

/-- The pending antenna: the antenna of ANTENNA n, else 0. -/
def RequestKind.antennaCode : RequestKind → Nat
  | .byPreference => 0
  | .antenna a => num a
  | .release => 0

def PendingStatus.code : PendingStatus → Nat
  | .latched => 1
  | .held => 2

/-- Pending kind, antenna and status; zeros for an empty slot. -/
def slotCodes : Option PendingRequest → List Byte
  | none => [0, 0, 0]
  | some r => [byte r.kind.code, byte r.kind.antennaCode, byte r.status.code]

def KeyState.code : KeyState → Nat
  | .up => 0
  | .waiting _ => 1
  | .on => 2
  | .tail => 3
  | .barred _ => 4

def Reason.code : Reason → Nat
  | .failsafe => 1
  | .notRouted => 2
  | .switching => 3
  | .noBand => 4
  | .mismatch => 5
  | .supplyLow => 6
  | .switchHold => 7
  | .holderLive => 8
  | .singleSignal => 9
  | .lockout => 10
  | .waitLimit => 11
  | .fault => 12
  | .commit => 13

/-- The waiting obstacle or barred reason of a key state; 0 for none. -/
def KeyState.reasonCode : KeyState → Nat
  | .up => 0
  | .waiting r => r.code
  | .on => 0
  | .tail => 0
  | .barred r => r.code

def Latch.code : Latch → Nat
  | .none => 0
  | .open => 1
  | .short => 2

def Sense.code : Sense → Nat
  | .low => 0
  | .normal => 1
  | .high => 2

def SupplyLevel.code : SupplyLevel → Nat
  | .good => 0
  | .low => 1
  | .fail => 2

def StationMode.code : StationMode → Nat
  | .starting => 0
  | .normal => 1
  | .failsafe => 2

def CauseSet.code (c : CauseSet) : Nat := bitsOf [c.store, c.supplyFail, c.forced]

def SafeCause.code : SafeCause → Nat
  | .store => 1
  | .supplyFail => 2
  | .forced => 3

def OutputSource.code : OutputSource → Nat
  | .none => 0
  | .routing => 1
  | .frozen => 2
  | .safe => 3

def StartCause.code : StartCause → Nat
  | .power => 1
  | .line => 2
  | .command => 3

def Disposition.code : Disposition → Nat
  | .unchanged => 0
  | .started => 1
  | .latched => 2
  | .held => 3

def RefuseReason.code : RefuseReason → Nat
  | .failsafe => 1
  | .disabled => 2
  | .noBand => 3
  | .noCandidate => 4
  | .noPath => 5
  | .empty => 6
  | .state => 7

def RouteCause.code : RouteCause → Nat
  | .routed => 1
  | .released => 2
  | .fault => 3
  | .quietTimeout => 4
  | .commit => 5
  | .heldSelected => 6
  | .follow => 7
  | .refused => 8

def KeyEvent.code : KeyEvent → Nat
  | .waiting => 1
  | .granted => 2
  | .barred => 3
  | .withdrawn => 4

def StationEvent.code : StationEvent → Nat
  | .started => 1
  | .entered => 2
  | .causeAdded => 3
  | .safe => 4
  | .resumed => 5

/-- The last byte of a ROUTE NOTICE: the disposition, or the refusal reason plus 16, or 255 (R191). -/
def answerCode : Option Answer → Nat
  | none => 255
  | some (.accepted d) => d.code
  | some (.refused r) => r.code + 16

/-- The class of a notice (R189). -/
def Notice.cls : Notice → Byte
  | .route .. => 0x81
  | .key .. => 0x82
  | .coilFault .. => 0x83
  | .supplyFault .. => 0x83
  | .bank .. => 0x84
  | .store .. => 0x85
  | .station .. => 0x86

/-- The body of a notice (R191). -/
def Notice.body : Notice → List Byte
  | .route pos state antenna phase target slot cause answer =>
    [byte (num pos), byte state.code, byte (numOr0 antenna), byte (phaseCode phase), byte (numOr0 target)]
      ++ slotCodes slot ++ [byte cause.code, byte (answerCode answer)]
  | .key pos event state tail band conflict =>
    [byte (num pos), byte event.code, byte state.code, byte state.reasonCode, byte (flag tail), byte (numOr0 band),
      byte (numOr0 conflict)]
  | .coilFault kind coil before after opens shorts =>
    [byte kind.code, byte coil.val, byte before.code, byte after.code, byte opens, byte shorts]
  | .supplyFault failKind before after measured =>
    [byte (if failKind then 4 else 3), byte (before.elim 255 SupplyLevel.code), byte after.code] ++ twoBytes measured
  | .bank applied issuer released => [byte (if applied then 1 else 2), byte (numOr0 issuer), byte released]
  | .store ok issuer => [byte (if ok then 1 else 2), byte (numOr0 issuer)]
  | .station event mode causes source datum valid =>
    [byte event.code, byte mode.code, byte causes.code, byte source.code, byte datum, byte (flag valid)]

/-- The result code and the further bytes of a reply (R190). -/
def Result.bytes : Result → List Byte
  | .done further => 0 :: further
  | .accepted d => 1 :: (d.elim [] fun d => [byte d.code])
  | .refused r => [2, byte r.code]
  | .busy => [3]
  | .badArg => [4]
  | .unknown => [5]
  | .noCursor => [6]
  | .inconsistent t i => [7, byte t.num, byte i]

/-- The body of a reply (R190). -/
def Reply.body (r : Reply) : List Byte := r.cls :: r.result.bytes

end Sys2Proof.Machine
end

