-- ==== Sys2Proof/Machine/Work.lean ====
section
/-!
DEFINITION. One event under way: what the operating blocks read of the rest of the part (`View`), the blocks together with
what the event has still to do at its close (`Work`), and the accessors through which every block is read and written.

Within an event the rules defer four things to its end, and `Work` holds them until then: notices, whose contents are
those the event leaves (R62, R152); the held walk and the waiting walk, one of each at most (R54, R139); and the
examinations of quiet conditions, which read the state once the event's other effects are done (R71).
-/
namespace Sys2Proof.Machine

/-- What the operating blocks read and no route, key, band or coil event changes. -/
structure View where
  /-- the Active bank. -/
  bank          : Bank
  mode          : StationMode
  supply        : SupplyLevel
  commitPending : Bool
  sa            : Bool
  sb            : Bool
  deriving DecidableEq, Repr

/-- A notice raised in the event under way. A ROUTE or KEY NOTICE reports the context or key record as the event leaves it,
so its body is made at the event's end; the other kinds carry their contents from the moment they are raised. -/
inductive Raised where
  | route (p : Pos) (cause : RouteCause) (answer : Option Answer)
  | key (p : Pos) (event : KeyEvent) (conflict : Option Pos)
  | all (n : Notice)
  deriving DecidableEq, Repr

/-- The operating blocks within an event, with what is left to do at its close. -/
structure Work extends Blocks where
  /-- notices raised so far, in order. -/
  raised        : List Raised
  /-- a held walk is owed (R54). -/
  heldWalk      : Bool
  /-- a waiting walk is owed (R139). -/
  waitingWalk   : Bool
  /-- every WAIT transition is to be examined (R71). -/
  examineAll    : Bool
  /-- positions whose own WAIT transition is to be examined (R71). -/
  examine       : List Pos
  /-- positions whose liveness has ended (R130). -/
  ended         : List Pos
  /-- positions whose abandonment went on into R58, whose FAULT notice follows the abandoning event's own (R59). -/
  abandonFaults : List Pos
  /-- the Commit Unit is to test the apply condition (R158). -/
  commitTold    : Bool
  deriving DecidableEq, Repr

/-- The start of an event. -/
def Work.start (b : Blocks) : Work := { b with
  raised := [], heldWalk := false, waitingWalk := false, examineAll := false, examine := [], ended := [],
  abandonFaults := [], commitTold := false }

/-- What the operating blocks read of a state. -/
def State.view (s : State) : View :=
  ⟨s.banks.active, s.station.mode, s.supply.level, s.banks.pending, s.pins.sa, s.pins.sb⟩

namespace Work

def raise (n : Raised) (w : Work) : Work := { w with raised := w.raised ++ [n] }

def record (w : Work) (p : Pos) : ClassRecord := w.classifier.get p
def setRecord (p : Pos) (r : ClassRecord) (w : Work) : Work := { w with classifier := put w.classifier p r }

def context (w : Work) (p : Pos) : Context := w.routes.contexts.get p
def setContext (p : Pos) (c : Context) (w : Work) : Work :=
  { w with routes := { w.routes with contexts := put w.routes.contexts p c } }

def antenna (w : Work) (a : Ant) : AntennaRecord := w.routes.antennas.get a
def setAntenna (a : Ant) (r : AntennaRecord) (w : Work) : Work :=
  { w with routes := { w.routes with antennas := put w.routes.antennas a r } }

def setHeld (l : List Pos) (w : Work) : Work := { w with routes := { w.routes with held := l } }

def claims (w : Work) (p : Pos) : ClaimLists := w.image.claims.get p
def setClaims (p : Pos) (c : ClaimLists) (w : Work) : Work :=
  { w with image := { w.image with claims := put w.image.claims p c } }

def group (w : Work) (g : Group) : GroupRecord := w.image.groups.get g
def setGroup (g : Group) (r : GroupRecord) (w : Work) : Work :=
  { w with image := { w.image with groups := put w.image.groups g r } }

def coil (w : Work) (c : Coil) : CoilRecord := w.image.coils.get c
def setCoil (c : Coil) (r : CoilRecord) (w : Work) : Work :=
  { w with image := { w.image with coils := put w.image.coils c r } }

def setSource (o : OutputSource) (w : Work) : Work := { w with image := { w.image with source := o } }

def senseOf (w : Work) (c : Coil) : SenseRecord := w.monitor.get c
def setSense (c : Coil) (r : SenseRecord) (w : Work) : Work := { w with monitor := put w.monitor c r }

def key (w : Work) (p : Pos) : KeyRecord := w.gate.keys.get p
def setKey (p : Pos) (k : KeyRecord) (w : Work) : Work := { w with gate := { w.gate with keys := put w.gate.keys p k } }
def setWaiting (l : List Pos) (w : Work) : Work := { w with gate := { w.gate with waiting := l } }

end Work

end Sys2Proof.Machine
end

