-- ==== Sys2Proof/Machine/Flags.lean ====
section
/-!
DEFINITION. The conditions and values the part derives whenever they are read and stores nowhere: bands and mismatch, the
holder and reservation lists, liveness, the quiet condition, occupancy and claim compatibility, the grant test, composed
and commanded values, judgement of a coil, supply levels, line functions and pin levels, and ROOMn.
-/
namespace Sys2Proof.Machine

/-! ### Bands (R20, R22, R24, R37) -/

/-- The Band Plan search for a frequency (R22): the first valid entry that contains it. -/
def planSearch (b : Bank) (f : Nat) : Option PlanIx :=
  (List.finRange 24).find? fun i => (b.plan.get i).valid && decide ((b.plan.get i).low ≤ f ∧ f ≤ (b.plan.get i).high)

/-- The band entry a line code gives (R24). -/
def lineSearch (b : Bank) (code : LineCode) : Option PlanIx :=
  match b.lineCodes.get code with
  | none => none
  | some n =>
    match ofNum 24 n with
    | none => none
    | some i => if (b.plan.get i).valid then some i else none

/-- The band entry a classifier record gives under its source in force (R20). -/
def deriveEntry (b : Bank) (r : ClassRecord) : Option PlanIx :=
  match r.source with
  | .link => r.frequency.bind (planSearch b)
  | .lines => r.settled.bind (lineSearch b)

/-- The follow key of a band entry: band number and preference list number (R26). -/
def followKey (b : Bank) (e : PlanIx) : Band × ListIx := ((b.plan.get e).band, (b.plan.get e).list)

/-- The band number of a position, or none when it has no band (R20). -/
def bandOf (b : Bank) (w : Blocks) (p : Pos) : Option Band :=
  (w.classifier.get p).entry.map fun e => (b.plan.get e).band

/-- The coverage of antenna `a` contains band number `n` (R10). -/
def covers (b : Bank) (a : Ant) (n : Band) : Bool := (b.antennas.get a).coverage.getLsbD n.val

/-- Mismatch (R37): no band, or a current antenna that does not cover the band. -/
def mismatch (b : Bank) (w : Blocks) (p : Pos) : Bool :=
  match bandOf b w p with
  | none => true
  | some n =>
    match (w.routes.contexts.get p).antenna with
    | none => false
    | some a => !covers b a n

/-! ### Tables as the Route Engine reads them -/

/-- The position is enabled in the bank (R4). -/
def enabled (b : Bank) (p : Pos) : Bool := (b.positions.get p).enabled

/-- The Path Table index of (position, antenna) (R12). -/
def pathIndex (p : Pos) (a : Ant) : Fin 96 := ⟨p.val * 16 + a.val, by have := p.isLt; have := a.isLt; omega⟩

/-- The path (position, antenna). -/
def path (b : Bank) (p : Pos) (a : Ant) : PathEntry := b.paths.get (pathIndex p a)

/-- The group of a coil (R14). -/
def groupOf (c : Coil) : Group := ⟨c.val / 8, by have := c.isLt; omega⟩

/-! ### Antenna records (R39) -/

/-- The holder list, earliest reserved first. -/
def AntennaRecord.holders (r : AntennaRecord) : List Pos :=
  (r.occupants.filter fun o => decide (o.role = .holding)).map Occupant.pos

/-- The reservation list, earliest first. -/
def AntennaRecord.reservations (r : AntennaRecord) : List Pos :=
  (r.occupants.filter fun o => decide (o.role = .reserving)).map Occupant.pos

/-- Position p holds antenna a. -/
def isHolder (w : Blocks) (a : Ant) (p : Pos) : Bool := (w.routes.antennas.get a).holders.contains p

/-! ### Claims (R92, R94) -/

/-- The position has a claim, effective or reserved, that names the coil. -/
def ClaimLists.names (l : ClaimLists) (c : Coil) : Bool :=
  l.effective.any (fun k => decide (k.coil = c)) || l.reserved.any (fun k => decide (k.coil = c))

/-- The coil carries claims of more than one position (R95). -/
def claimedByMany (w : Blocks) (c : Coil) : Bool :=
  decide (1 < (positions.filter fun p => (w.image.claims.get p).names c).length)

/-- No coil of the group carries claims of more than one position (R95). -/
def groupFree (w : Blocks) (g : Group) : Bool := coils.all fun c => !(decide (groupOf c = g) && claimedByMany w c)

/-- The claimed value of a coil: the value of the effective claims on it, or none when it is unclaimed (R92, R94). -/
def claimedValue (w : Blocks) (c : Coil) : Option Bool :=
  positions.findSome? fun p => ((w.image.claims.get p).effective.find? fun k => decide (k.coil = c)).map Claim.on

/-- The level of the line a fail-safe value names, or its constant (R96). -/
def FailSafeValue.level (f : FailSafeValue) (sa sb : Bool) : Bool :=
  match f with
  | .off => false
  | .on => true
  | .sa => sa
  | .sb => sb

/-- The composed value of a coil (R96). -/
def composedValue (v : View) (w : Blocks) (c : Coil) : Bool :=
  match w.image.source with
  | .none => false
  | .routing => (claimedValue w c).getD (v.bank.coils.get c).rest
  | .frozen => (w.image.coils.get c).frozen
  | .safe => (v.bank.coils.get c).failSafe.level v.sa v.sb

/-- The commanded value R96 derives for a coil: OFF while tripped, else the composed value. -/
def derivedValue (v : View) (w : Blocks) (c : Coil) : Bool :=
  !(w.image.coils.get c).trip && composedValue v w c

/-! ### Availability (R45, R46) -/

/-- Occupancy: antenna `a` is open to position `p` (R45). A position that holds and reserves counts once. -/
def openTo (b : Bank) (w : Blocks) (a : Ant) (p : Pos) : Bool :=
  let others := (positions.filter fun q =>
    decide (q ≠ p) && (w.routes.antennas.get a).occupants.any fun o => decide (o.pos = q)).length
  match (b.antennas.get a).share with
  | .exclusive => decide (others = 0)
  | .split => decide (others < (b.antennas.get a).branchLimit)

/-- The group of the coil is judged by the EXCLUSIVE rule: EXCLUSIVE in force, or waiting to become so (R14, R46). -/
def judgedExclusive (w : Blocks) (c : Coil) : Bool :=
  decide ((w.image.groups.get (groupOf c)).inForce = .exclusive) || (w.image.groups.get (groupOf c)).awaited

/-- One claim is compatible with the claims of the positions other than `p` (R14, R46). -/
def claimCompatible (w : Blocks) (p : Pos) (k : Claim) : Bool :=
  positions.all fun q => decide (q = p) ||
    ((w.image.claims.get q).effective ++ (w.image.claims.get q).reserved).all fun o =>
      !(decide (o.coil = k.coil) && (judgedExclusive w k.coil || o.on != k.on))

/-- Claim compatibility of antenna `a` for position `p` (R46). -/
def compatible (b : Bank) (w : Blocks) (a : Ant) (p : Pos) : Bool :=
  (path b p a).claims.all fun k => claimCompatible w p k

/-- Antenna `a` is available to position `p` (R45). -/
def available (b : Bank) (w : Blocks) (a : Ant) (p : Pos) : Bool := openTo b w a p && compatible b w a p

/-! ### Liveness and the quiet condition (R70, R129) -/

/-- Live: TPn asserted, or the tail timer running (R129). -/
def live (w : Blocks) (p : Pos) : Bool := (w.gate.keys.get p).permit || (w.gate.keys.get p).tail.isSome

/-- Some tail timer runs (R100, R101). -/
def anyTail (w : Blocks) : Bool := positions.any fun p => (w.gate.keys.get p).tail.isSome

/-- No holder of the antenna, when there is one, is live. -/
def holdersQuiet (w : Blocks) (a : Option Ant) : Bool :=
  match a with
  | none => true
  | some a => (w.routes.antennas.get a).holders.all fun q => !live w q

/-- The quiet condition of position p's transition t (R70). -/
def quiet (v : View) (w : Blocks) (p : Pos) (t : Transition) : Bool :=
  !live w p && holdersQuiet w t.old && holdersQuiet w t.target && decide (v.supply = .good) && !v.commitPending

/-- A forced release: cause COMMIT or FAULT (R57). -/
def Cause.forced : Cause → Bool
  | .request => false
  | .follow => false
  | .commit => true
  | .fault => true

/-- Some transition is in BREAK, MAKE or CHECK (R158). -/
def anyRunning (w : Blocks) : Bool :=
  positions.any fun p =>
    match (w.routes.contexts.get p).transition with
    | none => false
    | some t => decide (t.phase ≠ .wait)

/-! ### The grant test (R131) -/

/-- The position's key state is ON. -/
def isOn (w : Blocks) (p : Pos) : Bool := decide ((w.gate.keys.get p).state = .on)

/-- Two positions conflict on single-signal (R133). -/
def singleSignalConflict (b : Bank) (w : Blocks) (p q : Pos) : Bool :=
  match bandOf b w p, bandOf b w q with
  | some x, some y => decide (x = y) && b.attributes.get x
  | _, _ => false

/-- Two positions form a lockout pair (R16). -/
def lockoutConflict (b : Bank) (w : Blocks) (p q : Pos) : Bool :=
  match bandOf b w p, bandOf b w q with
  | some x, some y => (List.finRange 16).any fun i : LockIx =>
      let e := b.lockouts.get i
      e.valid && (decide (e.bandA = x ∧ e.bandB = y) || decide (e.bandA = y ∧ e.bandB = x))
  | _, _ => false

/-- The lowest-numbered ON position other than p that meets `f`. -/
def conflicting (w : Blocks) (p : Pos) (f : Pos → Bool) : Option Pos :=
  positions.find? fun q => decide (q ≠ p) && isOn w q && f q

/-- The lowest-numbered live holder of antenna `a` other than p. -/
def liveHolder (w : Blocks) (p : Pos) (a : Ant) : Option Pos :=
  positions.find? fun q => decide (q ≠ p) && isHolder w a q && live w q

/-- Which band conflict position p has with another ON position: conditions 9 and 10 of Table 7-2, with the conflicting
position of R152. -/
def bandConflict (b : Bank) (w : Blocks) (p : Pos) : Option (Reason × Option Pos) :=
  match conflicting w p (singleSignalConflict b w p) with
  | some q => some (.singleSignal, some q)
  | none =>
    match conflicting w p (lockoutConflict b w p) with
    | some q => some (.lockout, some q)
    | none => none

/-- The grant test of position p (Table 7-2): the first obstacle, with the conflicting position of R152, or none when the
test is passed. -/
def grantTest (v : View) (w : Blocks) (p : Pos) : Option (Reason × Option Pos) :=
  let c := w.routes.contexts.get p
  if v.mode ≠ .normal then some (.failsafe, none)
  else if enabled v.bank p = false ∨ (c.state ≠ .routed ∧ c.state ≠ .switching) then some (.notRouted, none)
  else if c.state ≠ .routed then some (.switching, none)
  else if (bandOf v.bank w p).isNone then some (.noBand, none)
  else if mismatch v.bank w p then some (.mismatch, none)
  else if v.supply ≠ .good then some (.supplyLow, none)
  else
    match c.antenna with
    | none => bandConflict v.bank w p
    | some a =>
      if (w.routes.antennas.get a).holds ≠ PosSet.empty then some (.switchHold, none)
      else
        match liveHolder w p a with
        | some q => some (.holderLive, some q)
        | none => bandConflict v.bank w p

/-- Transient obstacles (R134, Table 7-2). -/
def Reason.transient : Reason → Bool
  | .failsafe => false
  | .notRouted => false
  | .switching => true
  | .noBand => false
  | .mismatch => false
  | .supplyLow => true
  | .switchHold => true
  | .holderLive => true
  | .singleSignal => true
  | .lockout => true
  | .waitLimit => false
  | .fault => false
  | .commit => false

/-- The first failing test of an ON position at a re-check (R146, R147): NO_BAND, MISMATCH, SINGLE_SIGNAL, LOCKOUT. -/
def recheckFailure (b : Bank) (w : Blocks) (p : Pos) : Option (Reason × Option Pos) :=
  if (bandOf b w p).isNone then some (.noBand, none)
  else if mismatch b w p then some (.mismatch, none)
  else bandConflict b w p

/-! ### Coil Monitor (R111, R112) -/

/-- The short threshold selected for a coil (R111). -/
def shortLimit (b : Bank) (c : Coil) : Nat :=
  match (b.coils.get c).threshold with
  | .t0 => b.diagnostics.t0
  | .t1 => b.diagnostics.t1

/-- The class of a current (R111). -/
def senseClass (b : Bank) (c : Coil) (current : Nat) : Sense :=
  if current < b.diagnostics.openLimit then .low else if shortLimit b c < current then .high else .normal

/-- The coil is under judgement (R112). -/
def underJudgement (b : Bank) (w : Blocks) (c : Coil) : Bool :=
  (w.image.coils.get c).drive && (b.coils.get c).diagnostics && (w.image.coils.get c).blank.isNone

/-- The latch an examination of the coil makes (R113, R114), or none. -/
def latchFound (b : Bank) (w : Blocks) (c : Coil) : Option Latch :=
  if underJudgement b w c then
    match (w.monitor.get c).sense, (w.monitor.get c).latch with
    | .low, .none => some .open
    | .high, .none => some .short
    | .high, .open => some .short
    | _, _ => none
  else none

/-- The number of coils whose latch is `l` (R122). -/
def latchCount (w : Blocks) (l : Latch) : Nat := (coils.filter fun c => decide ((w.monitor.get c).latch = l)).length

/-! ### Supply Monitor (R123, R124) -/

/-- The level set without hysteresis (R123). -/
def freshLevel (d : DiagnosticSetup) (v : Nat) : SupplyLevel :=
  if d.supplyLow ≤ v then .good else if d.supplyFail ≤ v then .low else .fail

/-- The move of the level with hysteresis (R124); 0.5 V is 5 tenths. -/
def nextLevel (d : DiagnosticSetup) (level : SupplyLevel) (v : Nat) : SupplyLevel :=
  match level with
  | .good => if v < d.supplyFail then .fail else if v < d.supplyLow then .low else .good
  | .low => if v < d.supplyFail then .fail else if d.supplyLow + 5 ≤ v then .good else .low
  | .fail => if d.supplyLow + 5 ≤ v then .good else if d.supplyFail + 5 ≤ v then .low else .fail

/-! ### Position lines (R31, R32) and link ports (R185) -/

/-- The line is driven by the part: GENERAL and OUT (R32). -/
def State.lineDriven (s : State) (p : Pos) (k : LineNo) : Bool :=
  decide ((s.blocks.classifier.get p).source = .link) && ((s.lines.get p).get k).out

/-- The level of the pin: the latch when the part drives it, else the level applied from outside (R32). -/
def State.pinLevel (s : State) (p : Pos) (k : LineNo) : Bool :=
  if s.lineDriven p k then ((s.lines.get p).get k).latch else (s.pins.lines.get p).get k

/-- The read value of a line (R32): the latch on a GENERAL OUT line, the pin level on every other. -/
def State.readValue (s : State) (p : Pos) (k : LineNo) : Bool := s.pinLevel p k

/-- The code on a position's four lines (R23): Ln.3 weighs 8, Ln.0 weighs 1. -/
def State.lineCode (s : State) (p : Pos) : LineCode :=
  ⟨(flag (s.pinLevel p 0) + 2 * flag (s.pinLevel p 1) + 4 * flag (s.pinLevel p 2) + 8 * flag (s.pinLevel p 3)) % 16,
    Nat.mod_lt _ (by decide)⟩

/-- ROOMn (R185): asserted while start-up has begun and the inbound queue holds fewer than 4 frames. -/
def State.room (s : State) (lp : Pos) : Bool := s.startUp && decide ((s.ports.get lp).inbound.length < 4)

/-- No store is running (R175). -/
def StoreState.isIdle : StoreState → Bool
  | .idle => true
  | .writing _ _ => false

/-- The apply condition (R158). -/
def State.applyCondition (s : State) : Bool := s.banks.pending && !anyRunning s.blocks && s.store.state.isIdle

/-- The stored image, when it checks: its contents, with the check word recomputed from them (R175). -/
def StoredImage.loaded : StoredImage → Option Bank
  | .torn => none
  | .written contents word => if Config.imageCheckWord contents.bytes = word then some contents else none

end Sys2Proof.Machine
end

