-- ==== Sys2Proof/Machine/Ops.lean ====
section
/-!
DEFINITION. The named operations over the blocks that the meanings share: driving and recomputing coils, blanks and trips,
recording and removing claims, settling groups, places on antennas and switch holds, permits, and delivering notices.
The part takes no exceptions; what a fault of a coil or of the supply raises is a notice and a change of state here.
-/
namespace Sys2Proof.Machine

/-! ### Driver Bank and Coil Composer (R96, R97, R104 to R106) -/

/-- The blank timer starts, or restarts, with the blank time (R106). -/
def startBlank (v : View) (c : Coil) (w : Work) : Work :=
  w.setCoil c { w.coil c with blank := some v.bank.timing.blankMs }

/-- The commanded value becomes `x`, the drive follows (R104), and the blank starts (R106). -/
def driveCoil (v : View) (c : Coil) (x : Bool) (w : Work) : Work :=
  w.setCoil c { w.coil c with commanded := x, drive := x, blank := some v.bank.timing.blankMs }

/-- A recompute of coil c (R97): nothing moves when the derived value is the commanded value. -/
def recompute (v : View) (w : Work) (c : Coil) : Work :=
  if derivedValue v w.toBlocks c = (w.coil c).commanded then w else driveCoil v c (derivedValue v w.toBlocks c) w

/-- The recompute of each coil of a list. -/
def recomputeAll (v : View) (cs : List Coil) (w : Work) : Work := cs.foldl (recompute v) w

/-- The trip of a shorted coil (R104): set, OFF, off, and blanked. -/
def tripCoil (v : View) (c : Coil) (w : Work) : Work :=
  w.setCoil c { w.coil c with trip := true, commanded := false, drive := false, blank := some v.bank.timing.blankMs }

/-- The release of a trip (R105): the composed value becomes commanded, and the blank starts whether or not the commanded
value changed. -/
def releaseTrip (v : View) (c : Coil) (w : Work) : Work :=
  let x := composedValue v w.toBlocks c
  w.setCoil c { w.coil c with trip := false, commanded := x, drive := x, blank := some v.bank.timing.blankMs }

/-- A group is settled (R95). -/
def settleGroup (w : Work) (g : Group) : Work :=
  if (w.group g).awaited && groupFree w.toBlocks g then w.setGroup g ⟨.exclusive, false⟩ else w

/-- Each group named by the claims is settled (R95). -/
def settleGroups (cs : List Claim) (w : Work) : Work := (cs.map fun k => groupOf k.coil).foldl settleGroup w

/-- The claims of the Active path become the position's reserved claims (R93). -/
def reserveClaims (p : Pos) (cs : List Claim) (w : Work) : Work := w.setClaims p { w.claims p with reserved := cs }

/-- The position's reserved claims are emptied and their groups settled (R93, R95). -/
def dropReserved (p : Pos) (w : Work) : Work :=
  settleGroups (w.claims p).reserved (w.setClaims p { w.claims p with reserved := [] })

/-- The position's effective claims are emptied, their coils recomputed and their groups settled (R76, R80, R93, R97). -/
def dropEffective (v : View) (p : Pos) (w : Work) : Work :=
  let cs := (w.claims p).effective
  let w := w.setClaims p { w.claims p with effective := [] }
  settleGroups cs (recomputeAll v (cs.map Claim.coil) w)

/-- The position's reserved claims become its effective claims and their coils are recomputed (R78, R93, R97). -/
def effectClaims (v : View) (p : Pos) (w : Work) : Work :=
  let cs := (w.claims p).reserved
  let w := w.setClaims p ⟨cs, []⟩
  recomputeAll v (cs.map Claim.coil) w

/-! ### Antenna records (R39, R69) -/

/-- The position reserves antenna a: it joins the end of the reservation list. -/
def addReservation (p : Pos) (a : Ant) (w : Work) : Work :=
  w.setAntenna a { w.antenna a with occupants := (w.antenna a).occupants ++ [⟨p, .reserving⟩] }

/-- The position leaves the reservation list of antenna a. -/
def dropReservation (p : Pos) (a : Ant) (w : Work) : Work :=
  w.setAntenna a { w.antenna a with occupants := (w.antenna a).occupants.filter fun o =>
    !(decide (o.pos = p) && decide (o.role = .reserving)) }

/-- The position leaves the holder list of antenna a. -/
def dropHolder (p : Pos) (a : Ant) (w : Work) : Work :=
  w.setAntenna a { w.antenna a with occupants := (w.antenna a).occupants.filter fun o =>
    !(decide (o.pos = p) && decide (o.role = .holding)) }

/-- The position's reservation of antenna a becomes its holding, at the place the reservation gives (R39, R78). -/
def reservationToHolder (p : Pos) (a : Ant) (w : Work) : Work :=
  w.setAntenna a { w.antenna a with occupants := (w.antenna a).occupants.map fun o =>
    if o.pos = p then ⟨p, .holding⟩ else o }

/-- The position joins the switch hold set of the antenna, when there is one. -/
def addHold (p : Pos) (a : Option Ant) (w : Work) : Work :=
  match a with
  | none => w
  | some a => w.setAntenna a { w.antenna a with holds := put (w.antenna a).holds p true }

/-- The position leaves the switch hold set of the antenna, when there is one. -/
def dropHold (p : Pos) (a : Option Ant) (w : Work) : Work :=
  match a with
  | none => w
  | some a => w.setAntenna a { w.antenna a with holds := put (w.antenna a).holds p false }

/-! ### The held list (R52, R53) -/

/-- A HELD request of the position leaves the slot and the held list, and a held walk is owed (R48, R54). -/
def dropHeld (p : Pos) (w : Work) : Work :=
  match (w.context p).slot with
  | none => w
  | some r =>
    match r.status with
    | .latched => w
    | .held =>
      { (w.setContext p { w.context p with slot := none }).setHeld (w.routes.held.filter (· ≠ p)) with heldWalk := true }

/-- A HELD request of the position becomes LATCHED and leaves the held list, and a held walk is owed (R53, R58, R61). -/
def heldToLatched (p : Pos) (w : Work) : Work :=
  match (w.context p).slot with
  | none => w
  | some r =>
    match r.status with
    | .latched => w
    | .held =>
      { (w.setContext p { w.context p with slot := some { r with status := .latched } }).setHeld
          (w.routes.held.filter (· ≠ p)) with heldWalk := true }

/-- The request is placed in the slot with status HELD and joins the end of the held list (R48). -/
def placeHeld (p : Pos) (kind : RequestKind) (cause : Cause) (w : Work) : Work :=
  (w.setContext p { w.context p with slot := some ⟨kind, .held, cause⟩ }).setHeld (w.routes.held ++ [p])

/-- The request is placed in the slot unselected, with status LATCHED, in place of any request there (R50). -/
def placeLatched (p : Pos) (kind : RequestKind) (cause : Cause) (w : Work) : Work :=
  w.setContext p { w.context p with slot := some ⟨kind, .latched, cause⟩ }

/-! ### Permits and the waiting list (R129, R135, R137, R143) -/

/-- TPn is de-asserted and the tail starts; with tail time 0 liveness ends at once (R129, R130). The key state becomes
`next`. -/
def endPermit (v : View) (p : Pos) (next : KeyState) (w : Work) : Work :=
  if v.bank.timing.tailMs = 0 then
    { w.setKey p { w.key p with permit := false, state := next } with ended := p :: w.ended }
  else w.setKey p { w.key p with permit := false, state := next, tail := some v.bank.timing.tailMs }

/-- A withdrawal outside fail-safe entry (R143): of a position in key state ON, and of no other. -/
def withdraw (v : View) (p : Pos) (reason : Reason) (conflict : Option Pos) (w : Work) : Work :=
  if isOn w.toBlocks p then
    ({ endPermit v p (.barred reason) w with waitingWalk := true }).raise (.key p .withdrawn conflict)
  else w

/-- A grant (R135): ON, TPn asserted, a running tail cancelled, the key wait timer stopped. -/
def grant (p : Pos) (w : Work) : Work := w.setKey p { state := .on, tail := none, keyWait := none, permit := true }

/-- The position leaves the waiting list. -/
def leaveWaiting (p : Pos) (w : Work) : Work := w.setWaiting (w.gate.waiting.filter (· ≠ p))

/-- The position becomes BARRED with the reason; its key wait timer is stopped, its tail runs on (R142). -/
def bar (p : Pos) (reason : Reason) (w : Work) : Work :=
  w.setKey p { w.key p with state := .barred reason, keyWait := none }

/-- The key wait timer of an entry: none under limit 0 (R137). -/
def keyWaitTimer (v : View) : Timer := if v.bank.timing.keyWaitMs = 0 then none else some v.bank.timing.keyWaitMs

/-- The position enters the waiting list at the end, with the obstacle found (R137). -/
def enterWaiting (v : View) (p : Pos) (obstacle : Reason) (w : Work) : Work :=
  (w.setKey p { w.key p with state := .waiting obstacle, keyWait := keyWaitTimer v }).setWaiting (w.gate.waiting ++ [p])

/-! ### Notices (R188) -/

/-- Notices of one kind, ROUTE or KEY, replace one another on a link (R188). -/
def Notice.replaces (new old : Notice) : Bool :=
  match new, old with
  | .route .., .route .. => true
  | .key .., .key .. => true
  | _, _ => false

/-- The first notice of the list that `n` replaces is replaced in its place; none when there is no such notice. -/
def replaceFirst (n : Notice) : List Notice → Option (List Notice)
  | [] => none
  | m :: rest => if n.replaces m then some (n :: rest) else (replaceFirst n rest).map (m :: ·)

/-- The unsent notices of a queue: all but the head while the transmitter sends it (R188). -/
def Port.replaceUnsent (pt : Port) (n : Notice) : Option (List Notice) :=
  match pt.transmitter, pt.notices with
  | .sendingNotice, head :: rest => (replaceFirst n rest).map (head :: ·)
  | _, l => replaceFirst n l

/-- Delivery of a notice to a link's queue (R188): it replaces an unsent notice of its kind, joins the end of a queue of
fewer than 8, or is dropped with the notices-dropped flag set. -/
def Port.deliver (pt : Port) (n : Notice) : Port :=
  match pt.replaceUnsent n with
  | some l => { pt with notices := l }
  | none =>
    if pt.notices.length < 8 then { pt with notices := pt.notices ++ [n] } else { pt with dropped := true }

/-- The body of a ROUTE NOTICE from the context as the event leaves it (R62). -/
def routeNotice (w : Blocks) (p : Pos) (cause : RouteCause) (answer : Option Answer) : Notice :=
  let c := w.routes.contexts.get p
  .route p c.state c.antenna (c.transition.map Transition.phase) (c.transition.bind Transition.target) c.slot cause answer

/-- The body of a KEY NOTICE from the key record as the event leaves it (R152). -/
def keyNotice (b : Bank) (w : Blocks) (p : Pos) (event : KeyEvent) (conflict : Option Pos) : Notice :=
  .key p event (w.gate.keys.get p).state (w.gate.keys.get p).tail.isSome (bandOf b w p) conflict

/-- Delivery of one raised notice to the queues R188 gives. -/
def deliverOne (b : Bank) (w : Blocks) (ports : Vector Port 6) (n : Raised) : Vector Port 6 :=
  match n with
  | .route p cause answer => put ports p ((ports.get p).deliver (routeNotice w p cause answer))
  | .key p event conflict => put ports p ((ports.get p).deliver (keyNotice b w p event conflict))
  | .all n => Vector.ofFn fun lp => (ports.get lp).deliver n

/-- The end of an event: the blocks take the values the event leaves, the notices raised in it are delivered in order, and
the Commit Unit tests the apply condition when it was told to (R158). -/
def State.finish (s : State) (w : Work) : State :=
  let s := { s with
    blocks := w.toBlocks
    ports := w.raised.foldl (deliverOne s.banks.active w.toBlocks) s.ports }
  if w.commitTold && s.applyCondition then { s with banks := { s.banks with due := true } } else s

/-- An event of the operating blocks. -/
def State.event (s : State) (f : View → Work → Work) : State := s.finish (f s.view (Work.start s.blocks))

end Sys2Proof.Machine
end

