-- ==== Sys2Proof/Machine/Gate.lean ====
section
/-!
DEFINITION. The operations of the Keying Gate that several commands share: the waiting walk, the key-down and key-up of a
position, the re-checks, and the gate's part in fail-safe entry (chapter 7).
-/
namespace Sys2Proof.Machine

/-- One entry of a waiting walk (R138): granted, kept with the obstacle now found (R137), or barred. -/
def walkEntry (v : View) (w : Work) (p : Pos) : Work :=
  match (w.key p).state with
  | .waiting _ =>
    match grantTest v w.toBlocks p with
    | none => (leaveWaiting p (grant p w)).raise (.key p .granted none)
    | some (r, _) =>
      if r.transient then w.setKey p { w.key p with state := .waiting r }
      else (leaveWaiting p (bar p r w)).raise (.key p .barred none)
  | .up => w
  | .on => w
  | .tail => w
  | .barred _ => w

/-- The waiting walk (R138): every entry, oldest first, each against the state the entries before it left. -/
def waitingWalk (v : View) (w : Work) : Work := { w.gate.waiting.foldl (walkEntry v) w with waitingWalk := false }

/-- A key-down put to the grant test (R135). -/
def keyDown (v : View) (p : Pos) (w : Work) : Work :=
  match grantTest v w.toBlocks p with
  | none => grant p w
  | some (r, q) =>
    if r.transient then (enterWaiting v p r w).raise (.key p .waiting q)
    else (bar p r w).raise (.key p .barred none)

/-- A key-up (R141). -/
def keyUp (v : View) (p : Pos) (w : Work) : Work :=
  match (w.key p).state with
  | .on => { endPermit v p (if v.bank.timing.tailMs = 0 then .up else .tail) w with waitingWalk := true }
  | .waiting _ => leaveWaiting p (w.setKey p { w.key p with state := .up, keyWait := none })
  | .barred _ => w.setKey p { w.key p with state := .up }
  | .up => w
  | .tail => w

/-- A tail expiry (R129): TAIL goes to UP, and the end of liveness is reported (R130). -/
def tailEnd (p : Pos) (w : Work) : Work :=
  let k := w.key p
  { w.setKey p { k with tail := none, state := if k.state = .tail then .up else k.state } with
    ended := p :: w.ended, waitingWalk := true }

/-- A key wait expiry (R140). -/
def keyWaitEnd (p : Pos) (w : Work) : Work := (leaveWaiting p (bar p .waitLimit w)).raise (.key p .barred none)

/-- The withdrawal of a band-change re-check (R146), with no walk of its own. -/
def recheck (v : View) (p : Pos) (w : Work) : Work :=
  if isOn w.toBlocks p then
    match recheckFailure v.bank w.toBlocks p with
    | none => w
    | some (r, q) => withdraw v p r q w
  else w

/-- The re-check of every ON position at commit apply (R2, R147): every failure is found before any withdrawal is made. -/
def recheckAll (v : View) (w : Work) : Work :=
  let failures := positions.filterMap fun p =>
    if isOn w.toBlocks p then (recheckFailure v.bank w.toBlocks p).map fun f => (p, f) else none
  failures.foldl (fun w f => withdraw v f.1 f.2.1 f.2.2 w) w

/-- The gate's part for one position at fail-safe entry (R148). -/
def gateFailSafe (v : View) (w : Work) (p : Pos) : Work :=
  match (w.key p).state with
  | .on => endPermit v p (.barred .failsafe) w
  | .waiting _ => bar p .failsafe w
  | .tail => w
  | .up => w
  | .barred _ => w

end Sys2Proof.Machine
end

