-- ==== Sys2Proof/Machine/Engine.lean ====
section
/-!
DEFINITION. The operations of the Route Engine that several commands share (chapters 3 and 4): selection, the start,
replacement and abandonment of a transition, the taking of a request, the held walk, forced releases, the examination of
quiet conditions, the phases, the end of a transition, and the close of an event.
-/
namespace Sys2Proof.Machine

/-! ### Selection (R42 to R44) -/

/-- The outcome of selection (R42). -/
inductive Selection where
  | refused (r : RefuseReason)
  | current
  | target (a : Option Ant)
  | held
  deriving DecidableEq, Repr

/-- The static tests of a BY_PREFERENCE candidate for band number n (R43). -/
def passesStatic (b : Bank) (p : Pos) (n : Band) (a : Ant) : Bool :=
  (b.antennas.get a).enabled && (path b p a).defined && covers b a n

/-- The walk of a preference list (R43); `passed` says that an antenna before has passed the static tests. -/
def preferenceWalk (v : View) (w : Blocks) (p : Pos) (n : Band) : Bool → List Nat → Selection
  | passed, [] => if passed then .held else .refused .noCandidate
  | passed, k :: rest =>
    match ofNum 16 k with
    | none => preferenceWalk v w p n passed rest
    | some a =>
      if passesStatic v.bank p n a then
        if (w.routes.contexts.get p).antenna = some a then .current
        else if available v.bank w a p then .target (some a)
        else preferenceWalk v w p n true rest
      else preferenceWalk v w p n passed rest

/-- Selection of a request's target (R42). -/
def selection (v : View) (w : Blocks) (p : Pos) (kind : RequestKind) : Selection :=
  match kind with
  | .byPreference =>
    match (w.classifier.get p).entry with
    | none => .refused .noBand
    | some e => preferenceWalk v w p (v.bank.plan.get e).band false (v.bank.preferences.get (v.bank.plan.get e).list)
  | .antenna a =>
    if (v.bank.antennas.get a).enabled && (path v.bank p a).defined then
      if (w.routes.contexts.get p).antenna = some a then .current
      else if available v.bank w a p then .target (some a)
      else .held
    else .refused .noPath
  | .release => if (w.routes.contexts.get p).antenna = none then .current else .target none

/-! ### Start, replacement and abandonment in WAIT (R67, R74, R75) -/

/-- The quiet wait timer's duration in ms. -/
def quietWait (v : View) : Timer := some (v.bank.timing.quietWaitS * 1000)

/-- The position reserves its target, when that is an antenna: reservation and reserved claims (R67, step 1). -/
def reserve (v : View) (p : Pos) (target : Option Ant) (w : Work) : Work :=
  match target with
  | none => w
  | some a => reserveClaims p (path v.bank p a).claims (addReservation p a w)

/-- The position's reservation of its target is freed, with its reserved claims (R74, step 2). -/
def unreserve (p : Pos) (target : Option Ant) (w : Work) : Work :=
  match target with
  | none => w
  | some a => dropReserved p (dropReservation p a w)

/-- The start of a transition (R67). Its examination is owed at the close of the event (R71). -/
def startTransition (v : View) (p : Pos) (kind : RequestKind) (cause : Cause) (target : Option Ant) (start : RouteState)
    (w : Work) : Work :=
  let c := w.context p
  let t : Transition :=
    { old := c.antenna, target := target, kind := kind, cause := cause, phase := .wait, phaseTimer := none
      quietTimer := quietWait v, start := start, due := false, broken := [] }
  let w := w.setContext p { c with
    transition := some t
    state := if cause = .fault then c.state else .switching
    mark := c.mark || cause.forced }
  let w := addHold p target (addHold p c.antenna (reserve v p target w))
  let w := withdraw v p .switching none w
  { w with examine := p :: w.examine }

/-- A ROUTED route becomes FAULTED (R58), but for its notice. A waiting walk is owed (R145). -/
def faultRoute (v : View) (p : Pos) (w : Work) : Work :=
  let w := w.setContext p { w.context p with state := .faulted }
  let w := heldToLatched p (withdraw v p .fault none w)
  { startTransition v p .release .fault none .routed w with waitingWalk := true }

/-- A coil of the position's effective claims holds a fault latch (R74, R80). -/
def latchedRoute (w : Blocks) (p : Pos) : Bool :=
  (w.image.claims.get p).effective.any fun k => decide ((w.monitor.get k.coil).latch ≠ .none)

/-- Abandonment in WAIT, steps 1 to 5 of R74; the walks of its steps 6 and 7 are owed at the close. -/
def abandon (v : View) (p : Pos) (w : Work) : Work :=
  match (w.context p).transition with
  | none => w
  | some t =>
    let w := w.setContext p { w.context p with transition := none }
    let w := unreserve p t.target w
    let w := dropHold p t.target (dropHold p t.old w)
    let w := w.setContext p { w.context p with state := t.start }
    let w := { w with heldWalk := true, waitingWalk := true }
    if t.start = .routed ∧ latchedRoute w.toBlocks p then
      { faultRoute v p w with abandonFaults := w.abandonFaults ++ [p] }
    else w

/-- The replacement of the target in WAIT (R75), with the new request's kind and cause. -/
def replaceTarget (v : View) (p : Pos) (t : Transition) (kind : RequestKind) (cause : Cause) (target : Option Ant)
    (w : Work) : Work :=
  let w := unreserve p t.target w
  let w := if t.target = t.old then w else dropHold p t.target w
  let w := addHold p target (reserve v p target w)
  let w := w.setContext p { w.context p with
    transition := some { t with target := target, kind := kind, cause := cause, quietTimer := quietWait v, due := false } }
  { w with examine := p :: w.examine, heldWalk := true, waitingWalk := true }

/-! ### Taking a request (R41, R47 to R50) -/

/-- The tests of the station and the position (R41). -/
def admission (v : View) (p : Pos) : Option RefuseReason :=
  if v.mode ≠ .normal then some .failsafe else if enabled v.bank p then none else some .disabled

/-- The outcome of a selection for a position with no transition (R48). -/
def actOnSelection (v : View) (p : Pos) (kind : RequestKind) (cause : Cause) (w : Work) : Work × Answer :=
  match selection v w.toBlocks p kind with
  | .refused r => (w, .refused r)
  | .current =>
    let c := w.context p
    if kind = .release ∧ c.state = .faulted then (w.setContext p { c with state := .idle }, .accepted .unchanged)
    else (w, .accepted .unchanged)
  | .target a => (startTransition v p kind cause a (w.context p).state w, .accepted .started)
  | .held => (placeHeld p kind cause w, .accepted .held)

/-- A request taken in WAIT of a REQUEST or FOLLOW transition (R49). -/
def takeInWait (v : View) (p : Pos) (t : Transition) (kind : RequestKind) (cause : Cause) (w : Work) : Work × Answer :=
  match selection v w.toBlocks p kind with
  | .refused r => (w, .refused r)
  | .target a =>
    if a = t.target then
      (w.setContext p { w.context p with transition := some { t with cause := cause } }, .accepted .started)
    else (replaceTarget v p t kind cause a w, .accepted .started)
  | .current => (abandon v p w, .accepted .unchanged)
  | .held =>
    let w := abandon v p w
    if (w.context p).transition = none then (placeHeld p kind cause w, .accepted .held)
    else (placeLatched p kind cause w, .accepted .held)

/-- The Route Engine takes a request that passed R41's tests. -/
def takeRequest (v : View) (p : Pos) (kind : RequestKind) (cause : Cause) (w : Work) : Work × Answer :=
  match (w.context p).transition with
  | none => actOnSelection v p kind cause (dropHeld p w)
  | some t =>
    if t.phase = .wait ∧ t.cause.forced = false then takeInWait v p t kind cause w
    else (placeLatched p kind cause w, .accepted .latched)

/-- A request with the tests of R41. -/
def request (v : View) (p : Pos) (kind : RequestKind) (cause : Cause) (w : Work) : Work × Answer :=
  match admission v p with
  | some r => (w, .refused r)
  | none => takeRequest v p kind cause w

/-- A REVERT (R47): the pop comes after the tests of R41 and before any latching. -/
def revertRequest (v : View) (p : Pos) (w : Work) : Work × Answer :=
  match admission v p with
  | some r => (w, .refused r)
  | none =>
    match (w.context p).history with
    | [] => (w, .refused .empty)
    | a :: rest => takeRequest v p (.antenna a) .request (w.setContext p { w.context p with history := rest })

/-! ### The held walk (R54, R55) -/

/-- The held request of a position leaves the slot and the held list within a walk. -/
def leaveHeld (p : Pos) (w : Work) : Work :=
  (w.setContext p { w.context p with slot := none }).setHeld (w.routes.held.filter (· ≠ p))

/-- One request of a held walk (R55). -/
def heldEntry (v : View) (w : Work) (p : Pos) : Work :=
  match (w.context p).slot with
  | none => w
  | some r =>
    match r.status with
    | .latched => w
    | .held =>
      match selection v w.toBlocks p r.kind with
      | .held => w
      | .target a =>
        (startTransition v p r.kind r.cause a (w.context p).state (leaveHeld p w)).raise
          (.route p .heldSelected (some (.accepted .started)))
      | .current => (leaveHeld p w).raise (.route p .heldSelected (some (.accepted .unchanged)))
      | .refused e => (leaveHeld p w).raise (.route p .refused (some (.refused e)))

/-- The held walk (R54): a single pass, oldest first. -/
def heldWalk (v : View) (w : Work) : Work := { w.routes.held.foldl (heldEntry v) w with heldWalk := false }

/-- The held walk, when it is owed. -/
def heldWalkIfOwed (v : View) (w : Work) : Work := if w.heldWalk then heldWalk v w else w

/-! ### Examinations and the close of an event (R71, R130, R139) -/

/-- The transition t of position p is one that the event examines (R71). -/
def toExamine (w : Work) (p : Pos) (t : Transition) : Bool :=
  w.examineAll || w.examine.contains p || w.ended.any fun q =>
    decide (q = p) || t.old.any (isHolder w.toBlocks · q) || t.target.any (isHolder w.toBlocks · q)

/-- The examination of one position's quiet condition: a WAIT transition whose condition holds becomes due (R72). -/
def examineOne (v : View) (w : Work) (p : Pos) : Work :=
  match (w.context p).transition with
  | none => w
  | some t =>
    if t.phase = .wait ∧ toExamine w p t ∧ quiet v w.toBlocks p t then
      w.setContext p { w.context p with transition := some { t with due := true } }
    else w

/-- The examinations the event owes (R71). -/
def examineOwed (v : View) (w : Work) : Work :=
  { positions.foldl (examineOne v) w with examineAll := false, examine := [], ended := [] }

/-- The waiting walk, when it is owed. -/
def waitingWalkIfOwed (v : View) (w : Work) : Work := if w.waitingWalk then waitingWalk v w else w

/-- The close of an event: the held walk, the examinations and the waiting walk that it owes, one of each (R54, R71,
R74 steps 6 and 7, R75 steps 4 to 6, R139). -/
def close (v : View) (w : Work) : Work := waitingWalkIfOwed v (examineOwed v (heldWalkIfOwed v w))

/-- The ROUTE NOTICEs with cause FAULT of abandonments that went on into R58: after the abandoning event's own (R59). -/
def raiseAbandonFaults (w : Work) : Work :=
  { w.abandonFaults.foldl (fun w p => w.raise (.route p .fault none)) w with abandonFaults := [] }

/-- A request of a frame, with its walks; its answer goes into the reply and raises no ROUTE NOTICE (R49, R62). -/
def closeRequest (v : View) (r : Work × Answer) : Work × Answer := (raiseAbandonFaults (close v r.1), r.2)

/-- The ROUTE NOTICE of a request the part raised (R62): FOLLOW when it is accepted, REFUSED when it is refused. -/
def raiseFollow (p : Pos) (answer : Answer) (w : Work) : Work :=
  match answer with
  | .accepted d => w.raise (.route p .follow (some (.accepted d)))
  | .refused r => w.raise (.route p .refused (some (.refused r)))

/-- A FOLLOW request the part raises, taken whole with its walks and reported by its notice (R40, R62). -/
def followRequest (v : View) (p : Pos) (w : Work) : Work :=
  let r := request v p .byPreference .follow w
  raiseAbandonFaults (raiseFollow p r.2 (close v r.1))

/-! ### Forced releases with cause COMMIT (R61, R161) -/

/-- A ROUTED position is force-released by a commit apply (R161): withdrawal, release transition, notice. -/
def forceRelease (v : View) (p : Pos) (w : Work) : Work :=
  let w := heldToLatched p (withdraw v p .commit none w)
  (startTransition v p .release .commit none .routed w).raise (.route p .commit none)

/-! ### Phases (R76 to R80) -/

/-- The start of BREAK (R76). -/
def beginBreak (v : View) (p : Pos) (t : Transition) (w : Work) : Work :=
  let t' := { t with
    phase := .brk, due := false, quietTimer := none, phaseTimer := some v.bank.timing.breakMs
    broken := (w.claims p).effective }
  { dropEffective v p (w.setContext p { w.context p with transition := some t' }) with heldWalk := true }

/-- MAKE begins on antenna a (R78). -/
def beginMake (v : View) (p : Pos) (t : Transition) (a : Ant) (w : Work) : Work :=
  let t' := { t with phase := .make, due := false, quietTimer := none, phaseTimer := some v.bank.timing.makeMs }
  let w := w.setContext p { w.context p with transition := some t', antenna := some a }
  { effectClaims v p (reservationToHolder p a w) with heldWalk := true }

/-- A departure from WAIT (R72): the quiet condition is tested again. -/
def depart (v : View) (p : Pos) (t : Transition) (w : Work) : Work :=
  if quiet v w.toBlocks p t then
    match t.old, t.target with
    | some _, _ => beginBreak v p t w
    | none, some a => beginMake v p t a w
    | none, none => w
  else w.setContext p { w.context p with transition := some { t with due := false } }

/-- A push onto a route history of at most 8 entries (R56). -/
def pushHistory (a : Ant) (h : List Ant) : List Ant := (a :: h).take 8

/-- The position leaves its old antenna at break expiry (R77). -/
def leaveOld (p : Pos) (t : Transition) (w : Work) : Work :=
  match t.old with
  | none => w
  | some a =>
    let w := dropHolder p a w
    let c := w.context p
    settleGroups t.broken (w.setContext p { c with antenna := none, history := pushHistory a c.history })

/-- The failure of a transition at CHECK (R80): the claims, the holder's place and the antenna go. -/
def failCheck (v : View) (p : Pos) (t : Transition) (w : Work) : Work :=
  let w := dropEffective v p w
  let w := match t.target with
    | none => w
    | some a => dropHolder p a w
  w.setContext p { w.context p with antenna := none }

/-! ### The end of a transition (R81, R82) -/

/-- How one transition ends. -/
structure Ending where
  pos   : Pos
  /-- the route state it leaves (R82). -/
  state : RouteState
  /-- the cause of its ROUTE NOTICE (R82). -/
  notice : RouteCause
  /-- it was a release with cause COMMIT (R61). -/
  commitRelease : Bool
  deriving DecidableEq, Repr

/-- Steps 1 to 3 of R81 for one transition. -/
def clearTransition (w : Work) (e : Ending) : Work :=
  match (w.context e.pos).transition with
  | none => w
  | some t =>
    let w := w.setContext e.pos { w.context e.pos with transition := none, mark := false }
    let w := dropHold e.pos t.target (dropHold e.pos t.old w)
    w.setContext e.pos { w.context e.pos with state := e.state }

/-- Step 6 of R81: the latched request of the position starts (R51), and its answer goes into the end's notice. -/
def startLatched (v : View) (p : Pos) (w : Work) : Work × Option Answer :=
  match (w.context p).slot with
  | none => (w, none)
  | some r =>
    let w := w.setContext p { w.context p with slot := none }
    match admission v p with
    | some e => (w, some (.refused e))
    | none =>
      let r' := actOnSelection v p r.kind r.cause w
      (r'.1, some r'.2)

/-- Step 7 of R81: at the end of a commit release, the FOLLOW request of R61. -/
def commitReleaseFollow (v : View) (w : Work) (e : Ending) : Work :=
  let c := w.context e.pos
  if e.commitRelease ∧ c.state = .idle ∧ c.mode = .follow ∧ (w.record e.pos).entry.isSome ∧ c.slot = none then
    let r := request v e.pos .byPreference .follow w
    raiseFollow e.pos r.2 r.1
  else w

/-- Step 6 of R81 for the transitions that end at one event, in ascending position order. -/
def startLatchedAll (v : View) : List Ending → Work → Work × List (Ending × Option Answer)
  | [], w => (w, [])
  | e :: rest, w =>
    let r := startLatched v e.pos w
    let rs := startLatchedAll v rest r.1
    (rs.1, (e, r.2) :: rs.2)

/-- The end of the transitions that one event ends, in the order of R81; `removed` says that the ends removed a holder or
claims, so that a held walk is owed (step 5). -/
def endTransitions (v : View) (ends : List Ending) (removed : Bool) (w : Work) : Work :=
  match ends with
  | [] => w
  | _ :: _ =>
    let w := ends.foldl clearTransition w
    let w := { w with commitTold := true }
    let w := heldWalkIfOwed v { w with heldWalk := w.heldWalk || removed }
    let r := startLatchedAll v ends w
    let w := ends.foldl (commitReleaseFollow v) r.1
    let w := close v { w with waitingWalk := true }
    r.2.foldl (fun w e => w.raise (.route e.1.pos e.1.notice e.2)) w

/-- The route state of an enabled or disabled position with no route (R36, R64, R82). -/
def restState (b : Bank) (p : Pos) : RouteState := if enabled b p then .idle else .disabled

/-- Break expiry (R77). -/
def breakEnd (v : View) (p : Pos) (t : Transition) (w : Work) : Work :=
  let w := leaveOld p t w
  match t.target with
  | some a => close v (beginMake v p t a w)
  | none =>
    endTransitions v
      [⟨p, if t.cause = .fault then .faulted else restState v.bank p, .released, decide (t.cause = .commit)⟩] true w

/-- The position is in CHECK and no coil of its effective claims is blanked: its CHECK ends (R79). -/
def checkEnds (w : Blocks) (p : Pos) : Bool :=
  match (w.routes.contexts.get p).transition with
  | none => false
  | some t => decide (t.phase = .check) &&
      (w.image.claims.get p).effective.all fun k => (w.image.coils.get k.coil).blank.isNone

/-- The phase's own changes at a CHECK end (R80): a failed transition sheds its route. -/
def checkOutcome (v : View) (r : Work × List Ending) (p : Pos) : Work × List Ending :=
  match (r.1.context p).transition with
  | none => r
  | some t =>
    if latchedRoute r.1.toBlocks p then (failCheck v p t r.1, r.2 ++ [⟨p, .faulted, .fault, false⟩])
    else (r.1, r.2 ++ [⟨p, .routed, .routed, false⟩])

/-- The CHECK ends of the given positions, each read and ended (R80, R81). -/
def endChecks (v : View) (ps : List Pos) (w : Work) : Work :=
  let r := ps.foldl (checkOutcome v) (w, [])
  endTransitions v r.2 (r.2.any fun e => decide (e.state = .faulted)) r.1

/-- Make expiry (R79): CHECK begins, and ends at once when no coil of the new path is blanked. -/
def makeEnd (v : View) (p : Pos) (t : Transition) (w : Work) : Work :=
  let w := w.setContext p { w.context p with transition := some { t with phase := .check, phaseTimer := none } }
  if checkEnds w.toBlocks p then endChecks v [p] w else w

/-! ### The faults of a latch (R58, R59) -/

/-- The fault of coil c as it reaches position p (R58, R59). -/
def takeFault (v : View) (c : Coil) (w : Work) (p : Pos) : Work :=
  if (w.claims p).effective.any fun k => decide (k.coil = c) then
    match (w.context p).transition with
    | none => if (w.context p).state = .routed then (faultRoute v p w).raise (.route p .fault none) else w
    | some t => if t.phase = .wait ∧ t.cause ≠ .fault then withdraw v p .fault none w else w
  else w

end Sys2Proof.Machine
end

