-- ==== Sys2Proof/Machine/Bands.lean ====
section
/-!
DEFINITION. The Band Classifier and the Position Lines (chapter 2): a change of band entry, the reports, the settle expiry,
and the lines.
-/
namespace Sys2Proof.Machine

/-- The follow key has changed: the old one was absent, or differs (R26, R29). -/
def keyChanged (old : Option (Band × ListIx)) (new : Band × ListIx) : Bool := decide (old ≠ some new)

/-- The position takes a FOLLOW request for a band entry when its follow key was `old` (R26). -/
def followOwed (v : View) (w : Blocks) (p : Pos) (old : Option (Band × ListIx)) : Bool :=
  match (w.classifier.get p).entry with
  | none => false
  | some e => decide (v.mode = .normal) && enabled v.bank p && decide ((w.routes.contexts.get p).mode = .follow)
      && keyChanged old (followKey v.bank e)

/-- The position's band entry becomes `e`. A change hands a re-check to the Keying Gate, which walks its waiting list, and
then, where R26 requires one, a FOLLOW request to the Route Engine (R25, R27, R146). -/
def changeEntry (v : View) (p : Pos) (e : Option PlanIx) (w : Work) : Work :=
  let old := (w.record p).entry
  if e = old then w
  else
    let w := w.setRecord p { w.record p with entry := e }
    let w := close v { recheck v p w with waitingWalk := true }
    if followOwed v w.toBlocks p (old.map (followKey v.bank)) then followRequest v p w else w

/-- A report of frequency f for the position (R21). -/
def takeReport (v : View) (p : Pos) (f : Nat) (w : Work) : Work :=
  let w := w.setRecord p { w.record p with frequency := some f }
  match (w.record p).source with
  | .link => changeEntry v p (planSearch v.bank f) w
  | .lines => w

/-- The further bytes of the reply to a BAND REPORT (R21, R190). -/
def reportBytes (b : Bank) (r : ClassRecord) : List Byte :=
  match r.source with
  | .lines => [0, 0, 0, 0]
  | .link =>
    match r.entry with
    | none => [1, 0, 0, 0]
    | some e => [1, byte (num e), byte (num (b.plan.get e).band), byte (num (b.plan.get e).list)]

/-- The settle expiry of the position with `code` on its lines (R24). -/
def settleEnd (v : View) (p : Pos) (code : LineCode) (w : Work) : Work :=
  let w := w.setRecord p { w.record p with settled := some code, settleTimer := none }
  changeEntry v p (lineSearch v.bank code) w

/-- The settle timer starts, or restarts (R23). -/
def startSettle (v : View) (p : Pos) (w : Work) : Work :=
  w.setRecord p { w.record p with settleTimer := some v.bank.timing.settleMs }

/-- Step 2 of R29: the position takes the band source of its new entry. -/
def takeSource (b : Bank) (p : Pos) (r : ClassRecord) : ClassRecord :=
  let source := (b.positions.get p).source
  if source = r.source then r
  else
    match source with
    | .link => { r with source := .link, settled := none, settleTimer := none }
    | .lines => { r with source := .lines, settled := none, settleTimer := some b.timing.settleMs }

/-- Steps 2 and 3 of R29 for one position. -/
def reclassify (v : View) (w : Work) (p : Pos) : Work :=
  let r := takeSource v.bank p (w.record p)
  w.setRecord p { r with entry := deriveEntry v.bank r }

/-! ### Position lines (R31 to R34) -/

/-- A line as QUERY LINES and LINE SET report it (R193): read value, latch, direction, function. -/
def State.lineByte (s : State) (p : Pos) (k : LineNo) : Byte :=
  byte (bitsOf [s.readValue p k, ((s.lines.get p).get k).latch, ((s.lines.get p).get k).out,
    decide ((s.blocks.classifier.get p).source = .lines)])

/-- The four lines of a position. -/
def State.lineBytes (s : State) (p : Pos) : List Byte := (List.finRange 4).map (s.lineByte p)

/-- What a LINE SET byte carries for one line (R189): nothing, or a direction and a latch. -/
inductive LineCommand where
  | keep
  | set (r : LineRecord)
  deriving DecidableEq, Repr

def LineCommand.ofByte (b : Byte) : Option LineCommand :=
  if b = 0x00 then some .keep
  else if b = 0x10 then some (.set ⟨false, false⟩)
  else if b = 0x11 then some (.set ⟨false, true⟩)
  else if b = 0x12 then some (.set ⟨true, false⟩)
  else if b = 0x13 then some (.set ⟨true, true⟩)
  else none

/-- A line after its command. -/
def LineCommand.apply (m : LineCommand) (r : LineRecord) : LineRecord :=
  match m with
  | .keep => r
  | .set r' => r'

/-- The four commands of a LINE SET on the lines of position p (R33). -/
def State.setLines (s : State) (p : Pos) (m : LineNo → LineCommand) : State :=
  { s with lines := put s.lines p (Vector.ofFn fun k => (m k).apply ((s.lines.get p).get k)) }

/-! ### Meanings -/

/-- SETTLE_EXPIRY (R24). -/
def State.settleExpiry (s : State) (p : Pos) : State :=
  match (s.blocks.classifier.get p).settleTimer with
  | none => s
  | some _ => s.event fun v w => settleEnd v p (s.lineCode p) w

def execSettleExpiry (p : Pos) (s : State) : Host.Outcome State Fault Refusal := .next (s.settleExpiry p)

/-- The pins with the level applied to one line replaced. -/
def Pins.withLine (pins : Pins) (p : Pos) (k : LineNo) (level : Bool) : Pins :=
  { pins with lines := put pins.lines p (put (pins.lines.get p) k level) }

/-- POSITION_LINE_CHANGE (R23): under the LINES source a change of level starts the settle timer. -/
def State.positionLineChange (s : State) (p : Pos) (k : LineNo) (level : Bool) : State :=
  if (s.pins.lines.get p).get k = level then s
  else
    let s := { s with pins := s.pins.withLine p k level }
    match (s.blocks.classifier.get p).source with
    | .link => s
    | .lines => s.event fun v w => startSettle v p w

def execPositionLineChange (p : Pos) (k : LineNo) (level : Bool) (s : State) : Host.Outcome State Fault Refusal :=
  .next (s.positionLineChange p k level)

end Sys2Proof.Machine
end

