-- ==== Sys2Proof/Machine/Keying.lean ====
section
/-!
DEFINITION. The events of the Keying Gate (chapter 7): the key lines, the tails and the key waits, and the end of the FROZEN
drain that the last tail brings (R101, R173).
-/
namespace Sys2Proof.Machine

/-- The pins with the level of one key line replaced. -/
def Pins.withKey (pins : Pins) (p : Pos) (level : Bool) : Pins := { pins with keys := put pins.keys p level }

/-- The gate takes key events: start-up has begun and the station is not STARTING (R127, R178). -/
def State.keyed (s : State) : Bool := s.startUp && decide (s.station.mode ≠ .starting)

/-- A key-down is taken in key state UP or TAIL (R135). -/
def KeyState.acceptsDown : KeyState → Bool
  | .up => true
  | .tail => true
  | .waiting _ => false
  | .on => false
  | .barred _ => false

/-- KEY_DOWN (R135). -/
def State.keyDown (s : State) (p : Pos) : State :=
  if s.pins.keys.get p then s
  else
    let s := { s with pins := s.pins.withKey p true }
    if s.keyed && (s.blocks.gate.keys.get p).state.acceptsDown then
      s.event fun v w => Sys2Proof.Machine.keyDown v p w
    else s

def execKeyDown (p : Pos) (s : State) : Host.Outcome State Fault Refusal := .next (s.keyDown p)

/-- KEY_UP (R141). -/
def State.keyUp (s : State) (p : Pos) : State :=
  if s.pins.keys.get p then
    let s := { s with pins := s.pins.withKey p false }
    if s.keyed then s.event fun v w => close v (Sys2Proof.Machine.keyUp v p w) else s
  else s

def execKeyUp (p : Pos) (s : State) : Host.Outcome State Fault Refusal := .next (s.keyUp p)

/-- A STATION NOTICE of Station Control (R191, Table 9-2). -/
def stationNotice (event : StationEvent) (st : Station) (source : OutputSource) (datum : Nat) (valid : Bool) : Notice :=
  .station event st.mode st.causes source datum valid

/-- The end of the FROZEN drain, when no tail runs any more (R101, R173). -/
def drainEnd (v : View) (st : Station) (w : Work) : Work :=
  if w.image.source = .frozen ∧ anyTail w.toBlocks = false then
    (recomputeAll v coils (w.setSource .safe)).raise (.all (stationNotice .safe st .safe 0 false))
  else w

/-- TAIL_EXPIRY (R129). -/
def State.tailExpiry (s : State) (p : Pos) : State :=
  match (s.blocks.gate.keys.get p).tail with
  | none => s
  | some _ => s.event fun v w => drainEnd v s.station (close v (tailEnd p w))

def execTailExpiry (p : Pos) (s : State) : Host.Outcome State Fault Refusal := .next (s.tailExpiry p)

/-- KEY_WAIT_EXPIRY (R140): of a position in WAITING, the one key state in which the timer runs (R128). -/
def State.keyWaitExpiry (s : State) (p : Pos) : State :=
  match (s.blocks.gate.keys.get p).keyWait, (s.blocks.gate.keys.get p).state with
  | some _, .waiting _ => s.event fun _ w => keyWaitEnd p w
  | _, _ => s

def execKeyWaitExpiry (p : Pos) (s : State) : Host.Outcome State Fault Refusal := .next (s.keyWaitExpiry p)

end Sys2Proof.Machine
end

