-- ==== Sys2Proof/Machine/Modes.lean ====
section
/-!
DEFINITION. Station Control and the Supply Monitor in operation (R122 to R126, chapter 9): fail-safe entry and the causes,
RESUME, and the supply events.
-/
namespace Sys2Proof.Machine

/-! ### The cause set (R168, R170) -/

/-- The set holds the cause. -/
def CauseSet.has (c : CauseSet) (k : SafeCause) : Bool :=
  match k with
  | .store => c.store
  | .supplyFail => c.supplyFail
  | .forced => c.forced

/-- The set with the cause added. -/
def CauseSet.add (c : CauseSet) (k : SafeCause) : CauseSet :=
  match k with
  | .store => { c with store := true }
  | .supplyFail => { c with supplyFail := true }
  | .forced => { c with forced := true }

/-! ### Fail-safe entry (R171) -/

/-- The context of a position after fail-safe entry (R64): history and mode are kept. -/
def Context.cleared (b : Bank) (p : Pos) (c : Context) : Context :=
  { state := restState b p, antenna := none, transition := none, slot := none, mode := c.mode, history := c.history,
    mark := false }

/-- The Route Engine's part of fail-safe entry (R64). -/
def clearRoutes (b : Bank) (r : Routes) : Routes :=
  { contexts := Vector.ofFn fun p => (r.contexts.get p).cleared b p
    antennas := Vector.replicate 16 AntennaRecord.reset
    held := [] }

/-- The coil with its commanded value recorded as its frozen value (R100). -/
def CoilRecord.freeze (c : CoilRecord) : CoilRecord := { c with frozen := c.commanded }

/-- The coil image frozen, with every claim list empty (R100, steps 1 to 3). -/
def CoilImage.freeze (i : CoilImage) : CoilImage :=
  { i with
    coils := Vector.ofFn fun c => (i.coils.get c).freeze
    source := .frozen
    claims := Vector.replicate 6 ⟨[], []⟩ }

/-- The blocks at fail-safe entry (R171, steps 2 to 5). -/
def entryBlocks (v : View) (w : Work) : Work :=
  let w := (positions.foldl (gateFailSafe v) w).setWaiting []
  let w := { w with routes := clearRoutes v.bank w.routes, image := w.image.freeze }
  let w := groups.foldl settleGroup w
  let w := if anyTail w.toBlocks then w else recomputeAll v coils (w.setSource .safe)
  { w with commitTold := true }

/-- Fail-safe entry with its one cause, within an event that has come to `w` (R171). -/
def State.failSafeEntry (s : State) (k : SafeCause) (w : Work) : State :=
  let st : Station := { s.station with mode := .failsafe, causes := CauseSet.empty.add k }
  let w := entryBlocks s.view w
  { s with station := st }.finish (w.raise (.all (stationNotice .entered st w.image.source k.code false)))

/-- A cause added in FAILSAFE (R170): one already in the set is left as it is. -/
def State.addCause (s : State) (k : SafeCause) (w : Work) : State :=
  if s.station.causes.has k then s.finish w
  else
    let st : Station := { s.station with causes := s.station.causes.add k }
    { s with station := st }.finish (w.raise (.all (stationNotice .causeAdded st w.image.source k.code false)))

/-- A fail-safe cause is raised (R170). -/
def State.raiseCause (s : State) (k : SafeCause) (w : Work) : State :=
  match s.station.mode with
  | .starting => s.finish w
  | .normal => s.failSafeEntry k w
  | .failsafe => s.addCause k w

/-! ### Resume (R174) -/

/-- RESUME is refused (R174). -/
def State.resumeRefused (s : State) : Bool :=
  decide (s.station.mode ≠ .failsafe) || decide (s.blocks.image.source = .frozen) || decide (s.supply.level ≠ .good)
    || !s.banks.valid

/-- The position takes the default mode of its entry (R38, R64). -/
def takeDefaultMode (b : Bank) (w : Work) (p : Pos) : Work :=
  w.setContext p { w.context p with mode := (b.positions.get p).defaultMode }

/-- The FOLLOW request of one position at RESUME (R30). -/
def resumeFollow (v : View) (w : Work) (p : Pos) : Work :=
  if enabled v.bank p ∧ (w.context p).mode = .follow ∧ (w.record p).entry.isSome then followRequest v p w else w

/-- The blocks at an accepted RESUME (R174, steps 2 to 5). -/
def resumeBlocks (v : View) (st : Station) (lp : Pos) (w : Work) : Work :=
  let w := positions.foldl (takeDefaultMode v.bank) w
  let w := recomputeAll v coils (w.setSource .routing)
  let w := w.raise (.all (stationNotice .resumed st .routing (num lp) false))
  positions.foldl (resumeFollow v) w

/-- An accepted RESUME of link lp (R174). -/
def State.resume (s : State) (lp : Pos) : State :=
  let st : Station := { s.station with mode := .normal, causes := CauseSet.empty }
  { s with station := st }.event fun v w => resumeBlocks v st lp w

/-! ### Supply events (R123 to R126) -/

/-- The kind of the notice of a change of level (R125): SUPPLY_FAIL when FAIL stands on either side. -/
def failKind (before after : SupplyLevel) : Bool := decide (before = .fail) || decide (after = .fail)

/-- The notice of a change of level is suppressed by the mask (R18, R121). -/
def supplySuppressed (m : NoticeMask) (isFail : Bool) : Bool := if isFail then m.supplyFail else m.supplyLow

/-- The FAULT NOTICE of a change of level (R121, R125). -/
def raiseSupply (b : Bank) (before after : SupplyLevel) (measured : Nat) (w : Work) : Work :=
  if supplySuppressed b.diagnostics.mask (failKind before after) then w
  else w.raise (.all (.supplyFault (failKind before after) (some before) after measured))

/-- The effects of a new level on the Route Engine and the Keying Gate (R126): at GOOD every WAIT transition is examined and
the waiting list is walked. -/
def levelEffects (v : View) (w : Work) : Work :=
  match v.supply with
  | .good => close v { w with examineAll := true, waitingWalk := true }
  | .low => w
  | .fail => w

/-- A change of level from `before` once the monitor has taken it (R125, R126). -/
def State.levelChanged (s : State) (before : SupplyLevel) : State :=
  let w := raiseSupply s.banks.active before s.supply.level s.supply.measured (Work.start s.blocks)
  match s.supply.level with
  | .fail => s.raiseCause .supplyFail w
  | .good => s.finish (levelEffects s.view w)
  | .low => s.finish (levelEffects s.view w)

/-- The Supply Monitor with a converted value and a level. -/
def State.withSupply (s : State) (measured : Nat) (level : SupplyLevel) (converted : Bool) : State :=
  { s with supply := ⟨measured, level, converted⟩ }

/-- SUPPLY_EVENT (R123, R124). While RESET is low the converted value is recorded alone (notes/assumptions/14.md). -/
def State.supplyEvent (s : State) (tenths : Nat) : State :=
  let d := s.banks.active.diagnostics
  if s.pins.resetLow then s.withSupply tenths (freshLevel d tenths) s.supply.converted
  else
    match s.station.mode with
    | .starting =>
      s.withSupply tenths (if s.supply.converted then nextLevel d s.supply.level tenths else freshLevel d tenths) true
    | .normal | .failsafe =>
      let level := nextLevel d s.supply.level tenths
      let s' := s.withSupply tenths level true
      if level = s.supply.level then s' else s'.levelChanged s.supply.level

def execSupplyEvent (tenths : Nat) (s : State) : Host.Outcome State Fault Refusal := .next (s.supplyEvent tenths)

/-- APPLY_SUPPLY_FAIL_ENTRY (R165): the entry that an apply's change to FAIL made due, whatever the level by then. -/
def State.applySupplyFailEntry (s : State) : State :=
  if s.station.failEntryDue then
    { s with station := { s.station with failEntryDue := false } }.raiseCause .supplyFail (Work.start s.blocks)
  else s

def execApplySupplyFailEntry (s : State) : Host.Outcome State Fault Refusal := .next s.applySupplyFailEntry

end Sys2Proof.Machine
end

