-- ==== Sys2Proof/Machine/Monitor.lean ====
section
/-!
DEFINITION. The Coil Monitor and the Driver Bank's own events (chapter 6, R102, R105, R106): a latch and its handing on,
examinations, blank expiry, the clearing of faults, and the selector lines.
-/
namespace Sys2Proof.Machine

/-! ### Latches (R113, R114, R116, R121) -/

/-- The notice of a latch of this kind is suppressed by the mask (R18, R121). -/
def Latch.suppressed (m : NoticeMask) (k : Latch) : Bool :=
  match k with
  | .none => true
  | .open => m.openCoil
  | .short => m.short

/-- The FAULT NOTICE of a latch, with the counts once the latch is written (R121). -/
def raiseLatch (v : View) (c : Coil) (before after : Latch) (w : Work) : Work :=
  if after.suppressed v.bank.diagnostics.mask then w
  else w.raise (.all (.coilFault after c before after (latchCount w.toBlocks .open) (latchCount w.toBlocks .short)))

/-- The latch of coil c takes the value k. -/
def setLatch (c : Coil) (k : Latch) (w : Work) : Work := w.setSense c { w.senseOf c with latch := k }

/-- A latch is handed on (R116); `walk` says whether the held walk of its step 3 is made here, or left to the event. -/
def handOn (v : View) (walk : Bool) (c : Coil) (k : Latch) (w : Work) : Work :=
  let before := (w.senseOf c).latch
  let w := setLatch c k w
  let w := if k = .short then tripCoil v c w else w
  let w := positions.foldl (takeFault v c) w
  let w := if walk then heldWalkIfOwed v w else w
  raiseLatch v c before k w

/-- An examination of coil c (R112 to R114). -/
def examineCoil (v : View) (walk : Bool) (c : Coil) (w : Work) : Work :=
  match latchFound v.bank w.toBlocks c with
  | none => w
  | some k => handOn v walk c k w

/-- The current of coil c is recorded, with its class as the latest sense (R111). -/
def recordSense (v : View) (c : Coil) (current : Nat) (w : Work) : Work :=
  w.setSense c { w.senseOf c with current := current, sense := senseClass v.bank c current }

/-- A coil's present current is classified against the limits of the view (R111, R120). -/
def reclassifyCoil (v : View) (w : Work) (c : Coil) : Work := recordSense v c (w.senseOf c).current w

/-- The event of a converted current (R111): a change of class is a sense event, recorded and then examined. -/
def senseChange (v : View) (c : Coil) (current : Nat) (w : Work) : Work :=
  let w' := recordSense v c current w
  if senseClass v.bank c current = (w.senseOf c).sense then w' else examineCoil v true c w'

/-! ### Blank expiry (R79, R106) -/

/-- The positions whose CHECK waits on coil c and ends now (R79). -/
def checksEnding (w : Blocks) (c : Coil) : List Pos :=
  positions.filter fun p => (w.image.claims.get p).effective.any (fun k => decide (k.coil = c)) && checkEnds w p

/-- The CHECKs over coil c that end now, ended; else the close of the event. -/
def endChecksOver (v : View) (c : Coil) (w : Work) : Work :=
  match checksEnding w.toBlocks c with
  | [] => close v w
  | p :: ps => endChecks v (p :: ps) w

/-- Blank expiry of coil c (R106): the examination, and then the test for the end of CHECK. A held walk that the latch
owes is made before the FAULT NOTICE when no CHECK ends here, and is the walk of the end when one does. -/
def blankEnd (v : View) (c : Coil) (w : Work) : Work :=
  let w := w.setCoil c { w.coil c with blank := none }
  let walk := decide (latchFound v.bank w.toBlocks c = some .short) || (checksEnding w.toBlocks c).isEmpty
  endChecksOver v c (examineCoil v walk c w)

/-! ### Clearing (R118, R119) -/

/-- The outcome of a clear of one coil (R118). -/
inductive ClearOutcome where
  | none
  | cleared
  | retained
  deriving DecidableEq, Repr

/-- Its code (R190). -/
def ClearOutcome.code : ClearOutcome → Nat
  | .none => 0
  | .cleared => 1
  | .retained => 2

/-- What a clear of coil c does (R118). -/
def clearOutcome (b : Bank) (w : Blocks) (c : Coil) : ClearOutcome :=
  match (w.monitor.get c).latch with
  | .none => .none
  | .open => if underJudgement b w c ∧ (w.monitor.get c).sense = .low then .retained else .cleared
  | .short => .cleared

/-- A clear of coil c: a cleared latch becomes NONE, and the clear of a SHORT releases the trip (R105, R118). -/
def clearCoil (v : View) (w : Work) (c : Coil) : Work :=
  if clearOutcome v.bank w.toBlocks c = .cleared then
    if (w.senseOf c).latch = .short then releaseTrip v c (setLatch c .none w) else setLatch c .none w
  else w

/-! ### The selector lines (R102) -/

/-- The fail-safe value that names the line. -/
def selectorValue : Selector → FailSafeValue
  | .sa => .sa
  | .sb => .sb

/-- A change of level of a selector line: under SAFE every coil whose fail-safe value names it is recomputed. -/
def selectorChange (v : View) (line : Selector) (w : Work) : Work :=
  if w.image.source = .safe then
    recomputeAll v (coils.filter fun c => decide ((v.bank.coils.get c).failSafe = selectorValue line)) w
  else w

/-- The level of a selector line. -/
def Pins.selector (p : Pins) (line : Selector) : Bool :=
  match line with
  | .sa => p.sa
  | .sb => p.sb

/-- The pins with the level of a selector line replaced. -/
def Pins.withSelector (p : Pins) (line : Selector) (level : Bool) : Pins :=
  match line with
  | .sa => { p with sa := level }
  | .sb => { p with sb := level }

/-! ### Meanings -/

/-- SENSE_EVENT (R111). While RESET is low the current is recorded alone (notes/assumptions/14.md). -/
def State.senseEvent (s : State) (c : Coil) (current : Nat) : State :=
  if s.pins.resetLow then
    { s with blocks := { s.blocks with
        monitor := put s.blocks.monitor c { s.blocks.monitor.get c with current := current } } }
  else s.event fun v w => close v (senseChange v c current w)

def execSenseEvent (c : Coil) (current : Nat) (s : State) : Host.Outcome State Fault Refusal :=
  .next (s.senseEvent c current)

/-- BLANK_EXPIRY (R106). -/
def State.blankExpiry (s : State) (c : Coil) : State :=
  match (s.blocks.image.coils.get c).blank with
  | none => s
  | some _ => s.event fun v w => blankEnd v c w

def execBlankExpiry (c : Coil) (s : State) : Host.Outcome State Fault Refusal := .next (s.blankExpiry c)

/-- SELECTOR_LINE_CHANGE (R102). -/
def State.selectorLineChange (s : State) (line : Selector) (level : Bool) : State :=
  if s.pins.selector line = level then s
  else { s with pins := s.pins.withSelector line level }.event fun v w => selectorChange v line w

def execSelectorLineChange (line : Selector) (level : Bool) (s : State) : Host.Outcome State Fault Refusal :=
  .next (s.selectorLineChange line level)

end Sys2Proof.Machine
end

