-- ==== Sys2Proof/Machine/Startup.lean ====
section
/-!
DEFINITION. Resets and start-up (R107, R108, R149, R150, R178 to R181), the Configuration Store's completion (R176, R177), and
the ends of a transmission, one of which may be the reply of a RESTART (R179, R187).
-/
namespace Sys2Proof.Machine

/-! ### Resets (R178) -/

/-- The store at a reset: a running store is ended and its image left not checking (R176). -/
def Store.atReset (st : Store) : Store := ⟨if st.state.isIdle then st.image else .torn, .idle⟩

/-- The part at a reset of a kind, before start-up begins (R178). The commands that wait, the inputs, the measured values
and the stored image are kept. -/
def State.atReset (s : State) (cause : StartCause) : State where
  pending  := s.pending
  pins     := s.pins
  startUp  := false
  rate     := s.rate
  station  := Station.reset cause
  supply   := ⟨s.supply.measured, freshLevel Bank.empty.diagnostics s.supply.measured, false⟩
  banks    := Banks.reset
  store    := s.store.atReset
  lines    := Vector.replicate 6 (Vector.replicate 4 LineRecord.reset)
  blocks   := Blocks.reset fun c => (s.blocks.monitor.get c).current
  ports    := Vector.replicate 6 Port.reset
  pointer  := 0

/-- Start-up begins: the straps are sampled, and the links receive (R178, R182, R185). -/
def State.beginStartUp (s : State) (straps : Straps) : State := { s with startUp := true, rate := straps }

/-- The pins with the level of RESET replaced. -/
def Pins.withReset (p : Pins) (low : Bool) : Pins := { p with resetLow := low }

/-- POWER_ON (R178): the power-on reset; start-up begins at once, or when a RESET held low through it returns high. -/
def State.powerOn (s : State) (resetLow : Bool) (straps : Straps) : State :=
  let s := { s.atReset .power with pins := s.pins.withReset resetLow }
  if resetLow then s else s.beginStartUp straps

def execPowerOn (resetLow : Bool) (straps : Straps) (s : State) : Host.Outcome State Fault Refusal :=
  .next (s.powerOn resetLow straps)

/-- RESET_LINE_LOW (R178). -/
def State.resetLineLow (s : State) : State :=
  if s.pins.resetLow then s else { s.atReset .line with pins := s.pins.withReset true }

def execResetLineLow (s : State) : Host.Outcome State Fault Refusal := .next s.resetLineLow

/-- RESET_LINE_HIGH (R178). -/
def State.resetLineHigh (s : State) (straps : Straps) : State :=
  if s.pins.resetLow then { s with pins := s.pins.withReset false }.beginStartUp straps else s

def execResetLineHigh (straps : Straps) (s : State) : Host.Outcome State Fault Refusal := .next (s.resetLineHigh straps)

/-- The reset of a RESTART, after which start-up begins at once (R178, R179). -/
def State.restartReset (s : State) (straps : Straps) : State := (s.atReset .command).beginStartUp straps

/-! ### Load completion (R180, R181) -/

/-- Step 1: both banks and the bank-valid flag. -/
def loadedBanks (image : Option Bank) : Banks :=
  { Banks.reset with active := image.getD Bank.empty, staging := image.getD Bank.empty, valid := image.isSome }

/-- Step 2: the mode, the cause set and the store flag (R180). -/
def loadedStation (st : Station) (checks : Bool) (level : SupplyLevel) : Station :=
  { st with
    mode := if checks = true ∧ level ≠ .fail then .normal else .failsafe
    causes := ⟨!checks, decide (level = .fail), false⟩
    storeFlag := !checks }

/-- Step 3: the position is IDLE or DISABLED and takes the default mode of its entry (R35). -/
def loadContext (b : Bank) (w : Work) (p : Pos) : Work :=
  w.setContext p { w.context p with state := restState b p, mode := (b.positions.get p).defaultMode }

/-- Step 4: the position takes its band source with no band, and a LINES position starts its settle timer (R28). -/
def loadRecord (v : View) (w : Work) (p : Pos) : Work :=
  let w := w.setRecord p { ClassRecord.reset with source := (v.bank.positions.get p).source }
  match (v.bank.positions.get p).source with
  | .link => w
  | .lines => startSettle v p w

/-- Step 5: the group takes its Active mode (R108). -/
def loadGroup (b : Bank) (w : Work) (g : Group) : Work := w.setGroup g ⟨b.groups.get g, false⟩

/-- Step 6: the key record from the level of KRn (R150). -/
def loadKey (v : View) (keys : Vector Bool 6) (w : Work) (p : Pos) : Work :=
  let w := w.setKey p KeyRecord.reset
  if keys.get p then
    if v.mode = .normal then enterWaiting v p .notRouted w
    else w.setKey p { KeyRecord.reset with state := .barred .failsafe }
  else w

/-- Step 7: the FAULT NOTICE of a LOW or FAIL supply (R123). -/
def raiseLoadedSupply (b : Bank) (level : SupplyLevel) (measured : Nat) (w : Work) : Work :=
  if level = .good ∨ supplySuppressed b.diagnostics.mask (decide (level = .fail)) = true then w
  else w.raise (.all (.supplyFault (decide (level = .fail)) none level measured))

/-- The blocks at load completion (R181, steps 3 to 8). The coils are reclassified against the loaded limits and judge
nothing, since none is energized before the recompute and each one it energizes is blanked (R111). -/
def loadBlocks (v : View) (st : Station) (measured : Nat) (keys : Vector Bool 6) (valid : Bool) (w : Work) : Work :=
  let source : OutputSource := if v.mode = .normal then .routing else .safe
  let w := coils.foldl (reclassifyCoil v) w
  let w := positions.foldl (loadContext v.bank) w
  let w := positions.foldl (loadRecord v) w
  let w := groups.foldl (loadGroup v.bank) w
  let w := recomputeAll v coils (w.setSource source)
  let w := positions.foldl (loadKey v keys) w
  let w := raiseLoadedSupply v.bank v.supply measured w
  w.raise (.all (stationNotice .started st source st.startCause.code valid))

/-- LOAD_COMPLETION (R181). -/
def State.loadCompletion (s : State) : State :=
  if s.startUp ∧ s.station.mode = .starting then
    let image := s.store.image.loaded
    let banks := loadedBanks image
    let level := freshLevel banks.active.diagnostics s.supply.measured
    let st := loadedStation s.station image.isSome level
    { s with banks := banks, station := st, supply := ⟨s.supply.measured, level, true⟩ }.event fun v w =>
      loadBlocks v st s.supply.measured s.pins.keys banks.valid w
  else s

def execLoadCompletion (s : State) : Host.Outcome State Fault Refusal := .next s.loadCompletion

/-! ### The store (R176, R177) -/

/-- The image a store leaves (R176). -/
def storedImage (verified : Bool) (taken : Bank) : StoredImage :=
  if verified then .written taken (Config.imageCheckWord taken.bytes) else .torn

/-- The completion of a store of `taken` from link lp, but for the restart it may bring (R176, R177). -/
def State.storeDone (s : State) (verified : Bool) (taken : Bank) (lp : Pos) : State :=
  let s := { s with
    store := ⟨storedImage verified taken, .idle⟩
    station := { s.station with storeFlag := !verified } }
  s.event fun v w =>
    let w := { w with commitTold := true }
    if verified = false ∧ v.bank.diagnostics.mask.store = true then w else w.raise (.all (.store verified (some lp)))

/-- STORE_COMPLETION (R176, R179). -/
def State.storeCompletion (s : State) (verified : Bool) (straps : Straps) : State :=
  match s.store.state with
  | .idle => s
  | .writing taken lp =>
    let s := s.storeDone verified taken lp
    if s.station.restartWaits then s.restartReset straps else s

def execStoreCompletion (verified : Bool) (straps : Straps) (s : State) : Host.Outcome State Fault Refusal :=
  .next (s.storeCompletion verified straps)

/-! ### Transmission (R187) -/

/-- The bytes on TXD of the frame in transmission; none while the transmitter is IDLE (R187, R189). -/
def Port.sending (pt : Port) : List Byte :=
  match pt.transmitter with
  | .idle => []
  | .sendingReply => pt.reply.elim [] fun r => frameBytes 0x80 r.body
  | .sendingNotice => pt.notices.head?.elim [] fun n => frameBytes n.cls n.body

/-- The transmit start of an IDLE transmitter: the reply, else the head notice (R187). -/
def Port.start (pt : Port) : Port :=
  match pt.transmitter with
  | .sendingReply => pt
  | .sendingNotice => pt
  | .idle =>
    if pt.reply.isSome then { pt with transmitter := .sendingReply }
    else if pt.notices = [] then pt else { pt with transmitter := .sendingNotice }

/-- The transmit completion (R187). -/
def Port.complete (pt : Port) : Port :=
  match pt.transmitter with
  | .idle => pt
  | .sendingReply => { pt with reply := none, transmitter := .idle }
  | .sendingNotice => { pt with notices := pt.notices.tail, transmitter := .idle }

/-- The state with one link port replaced. -/
def State.setPort (s : State) (lp : Pos) (pt : Port) : State := { s with ports := put s.ports lp pt }

/-- TRANSMIT_START (R187). -/
def State.transmitStart (s : State) (lp : Pos) : State := s.setPort lp (s.ports.get lp).start

def execTransmitStart (lp : Pos) (s : State) : Host.Outcome State Fault Refusal := .next (s.transmitStart lp)

/-- The restart-due link's reply has gone out (R179): the reset, or the wait for a running store. DESIGN CHOICE
(notes/assumptions/24.md): while the restart waits the link is eligible again; the spec leaves open whether it is held. -/
def State.restartReplySent (s : State) (lp : Pos) (straps : Straps) : State :=
  if s.store.state.isIdle then s.restartReset straps
  else { s with station := { s.station with restartDue := put s.station.restartDue lp false, restartWaits := true } }

/-- TRANSMIT_COMPLETION (R187, R179). -/
def State.transmitCompletion (s : State) (lp : Pos) (straps : Straps) : State :=
  let s' := s.setPort lp (s.ports.get lp).complete
  if (s.ports.get lp).transmitter = .sendingReply ∧ s.station.restartDue.get lp = true then
    s'.restartReplySent lp straps
  else s'

def execTransmitCompletion (lp : Pos) (straps : Straps) (s : State) : Host.Outcome State Fault Refusal :=
  .next (s.transmitCompletion lp straps)

end Sys2Proof.Machine
end

