-- ==== Sys2Proof/Machine/Links.lean ====
section
/-!
DEFINITION. The receiving side of the link ports: the framer, the gap timer and the inbound queue (R183 to R185).
-/
namespace Sys2Proof.Machine

/-- The gap timer's duration in ms (R182). -/
def gapTime : Timer := some 20

/-- One more on the discarded count, which stays at 255 (R183). -/
def countDiscard (n : Nat) : Nat := if n < 255 then n + 1 else 255

/-- The frame in progress is discarded (R183). -/
def Port.discard (pt : Port) : Port :=
  { pt with framer := .hunt, gapTimer := none, discarded := countDiscard pt.discarded }

/-- A complete frame joins the inbound queue, or is dropped and counted when the queue holds 4 (R185). -/
def Port.accept (pt : Port) (f : Frame) : Port :=
  if pt.inbound.length < 4 then { pt with framer := .hunt, gapTimer := none, inbound := pt.inbound ++ [f] }
  else pt.discard

/-- The frame whose bytes from LEN to the last of BODY are `got`. -/
def frameOf : List Byte → Option Frame
  | _ :: cls :: body => some ⟨cls, body⟩
  | _ => none

/-- The second check byte (R183): the frame is complete, or is discarded. -/
def Port.checkFrame (pt : Port) (got : List Byte) (hi lo : Byte) : Port :=
  if crcBytes got = [hi, lo] then
    match frameOf got with
    | some f => pt.accept f
    | none => pt.discard
  else pt.discard

/-- A byte received (R183). -/
def Port.receive (pt : Port) (b : Byte) : Port :=
  match pt.framer with
  | .hunt => if b = 0xC3 then { pt with framer := .length, gapTimer := gapTime } else pt
  | .length =>
    if 1 ≤ b.toNat ∧ b.toNat ≤ 48 then { pt with framer := .body b.toNat [b], gapTimer := gapTime } else pt.discard
  | .body left got =>
    if left ≤ 1 then { pt with framer := .check (got ++ [b]) none, gapTimer := gapTime }
    else { pt with framer := .body (left - 1) (got ++ [b]), gapTimer := gapTime }
  | .check got none => { pt with framer := .check got (some b), gapTimer := gapTime }
  | .check got (some hi) => pt.checkFrame got hi b

/-- BYTE_RECEIVED (R183). No byte is received before start-up begins (R182). -/
def State.byteReceived (s : State) (lp : Pos) (data : Byte) : State :=
  if s.startUp then s.setPort lp ((s.ports.get lp).receive data) else s

def execByteReceived (lp : Pos) (data : Byte) (s : State) : Host.Outcome State Fault Refusal :=
  .next (s.byteReceived lp data)

/-- GAP_TIMER_EXPIRY (R183). -/
def State.gapTimerExpiry (s : State) (lp : Pos) : State :=
  match (s.ports.get lp).gapTimer with
  | none => s
  | some _ => s.setPort lp (s.ports.get lp).discard

def execGapTimerExpiry (lp : Pos) (s : State) : Host.Outcome State Fault Refusal := .next (s.gapTimerExpiry lp)

end Sys2Proof.Machine
end

