-- ==== Sys2Proof/Machine/Commit.lean ====
section
/-!
DEFINITION. The Bank Memory and Commit Unit (chapter 8): the abandonment of a pending commit, and the apply in its steps A to G.
-/
namespace Sys2Proof.Machine

/-! ### Step A (R160) -/

/-- A request kept for step E. -/
structure Kept where
  pos   : Pos
  kind  : RequestKind
  cause : Cause
  deriving DecidableEq, Repr

/-- The request of a WAIT transition that step A abandons. -/
def keptOf (w : Blocks) (p : Pos) : Option Kept :=
  match (w.routes.contexts.get p).transition with
  | none => none
  | some t => if t.phase = .wait ∧ t.cause.forced = false then some ⟨p, t.kind, t.cause⟩ else none

/-- The requests that step A keeps, in ascending position order. -/
def keptRequests (w : Blocks) : List Kept := positions.filterMap (keptOf w)

/-- One abandonment of step A; a route that goes on into R58 raises its notice with cause FAULT here. That this comes before the
notice of step E, which then replaces it, is the model's choice between R59 and the order of the steps (R160, R164;
notes/assumptions/26.md). -/
def abandonKept (v : View) (w : Work) (k : Kept) : Work := raiseAbandonFaults (abandon v k.pos w)

/-- The position becomes DISABLED and its held request is discarded (R160). -/
def disablePosition (p : Pos) (w : Work) : Work := dropHeld p (w.setContext p { w.context p with state := .disabled })

/-- One position is set to its new entry (R160); `old` is the outgoing bank. -/
def setEnablement (old : Bank) (v : View) (w : Work) (p : Pos) : Work :=
  let c := w.context p
  let e := v.bank.positions.get p
  if e.enabled then
    if enabled old p then w
    else w.setContext p { c with state := if c.state = .disabled then .idle else c.state, mode := e.defaultMode }
  else
    match c.state with
    | .idle => disablePosition p w
    | .faulted =>
      match c.transition with
      | none => disablePosition p w
      | some t =>
        (w.setContext p { c with state := .switching, transition := some { t with cause := .commit } }).raise
          (.route p .commit none)
    | .disabled => w
    | .switching => w
    | .routed => w

/-- Step A of the apply, once the bank is copied. -/
def applyA (old : Bank) (v : View) (kept : List Kept) (w : Work) : Work :=
  positions.foldl (setEnablement old v) (kept.foldl (abandonKept v) w)

/-! ### Steps B and C (R161, R162) -/

/-- Two claim lists are equal as sets of coil and value (R13, R161). -/
def sameClaims (a b : List Claim) : Bool := a.all (fun k => b.contains k) && b.all (fun k => a.contains k)

/-- The route of a ROUTED position is invalid against the bank (R161). -/
def routeInvalid (b : Bank) (w : Blocks) (p : Pos) : Bool :=
  !enabled b p ||
    match (w.routes.contexts.get p).antenna with
    | none => true
    | some a => !(b.antennas.get a).enabled || !(path b p a).defined
        || !sameClaims (path b p a).claims (w.image.claims.get p).effective

/-- The positions that step B releases. -/
def invalidRoutes (b : Bank) (w : Blocks) : List Pos :=
  positions.filter fun p => decide ((w.routes.contexts.get p).state = .routed) && routeInvalid b w p

/-- The number of unmarked holders an antenna may keep (R162). -/
def holderLimit (e : AntennaEntry) : Nat :=
  match e.share with
  | .exclusive => 1
  | .split => e.branchLimit

/-- The unmarked holders of antenna a beyond its limit, the latest in the holder list first (R162). -/
def trimmed (b : Bank) (w : Blocks) (a : Ant) : List Pos :=
  (((w.routes.antennas.get a).holders.filter fun p => !(w.routes.contexts.get p).mark).drop
    (holderLimit (b.antennas.get a))).reverse

/-- Forced releases, with their number. -/
def releaseAll (v : View) (ps : List Pos) (r : Work × Nat) : Work × Nat :=
  (ps.foldl (fun w p => forceRelease v p w) r.1, r.2 + ps.length)

/-- Step B: the number counts the positions released. -/
def applyB (v : View) (w : Work) : Work × Nat := releaseAll v (invalidRoutes v.bank w.toBlocks) (w, 0)

/-- Step C, in ascending antenna number. -/
def applyC (v : View) (r : Work × Nat) : Work × Nat :=
  antennas.foldl (fun r a => releaseAll v (trimmed v.bank r.1.toBlocks a) r) r

/-! ### Step D (R29, R95, R163) -/

/-- The mode in force of group g at apply (R14, R95). -/
def applyGroup (b : Bank) (w : Work) (g : Group) : Work :=
  match b.groups.get g with
  | .shared => w.setGroup g ⟨.shared, false⟩
  | .exclusive => if groupFree w.toBlocks g then w.setGroup g ⟨.exclusive, false⟩ else w.setGroup g ⟨.shared, true⟩

/-- The re-check of a position whose band entry the reclassification changed (R29, step 4). -/
def recheckChanged (v : View) (before : Blocks) (w : Work) (p : Pos) : Work :=
  if (before.classifier.get p).entry = (w.record p).entry then w else recheck v p w

/-- The positions for which the classifier raises a FOLLOW request at apply (R29, step 5), `before` being the blocks before
the reclassification and `old` the outgoing bank. -/
def applyFollows (old : Bank) (v : View) (before after : Blocks) : List Pos :=
  positions.filter fun p =>
    match (after.classifier.get p).entry with
    | none => false
    | some e =>
      decide (v.mode = .normal) && enabled v.bank p && decide ((after.routes.contexts.get p).mode = .follow)
        && (keyChanged ((before.classifier.get p).entry.map (followKey old)) (followKey v.bank e) || !enabled old p)

/-- Step D; beside the blocks, the positions with a FOLLOW request for step E. -/
def applyD (old : Bank) (v : View) (w : Work) : Work × List Pos :=
  let w := groups.foldl (applyGroup v.bank) w
  let before := w.toBlocks
  let w := positions.foldl (reclassify v) w
  let follows := applyFollows old v before w.toBlocks
  (recheckAll v (positions.foldl (recheckChanged v before) w), follows)

/-! ### Step E (R164) -/

/-- The notice of a kept request: none when it is STARTED again (R164). -/
def raiseKept (p : Pos) (answer : Answer) (w : Work) : Work :=
  if answer = .accepted .started then w else w.raise (.route p .commit (some answer))

/-- One position of the re-selection pass; a FOLLOW request comes before a kept one. -/
def reselect (v : View) (follows : List Pos) (kept : List Kept) (w : Work) (p : Pos) : Work :=
  if follows.contains p then
    let r := request v p .byPreference .follow w
    raiseFollow p r.2 r.1
  else
    match kept.find? fun k => decide (k.pos = p) with
    | none => w
    | some k =>
      let r := request v p k.kind k.cause w
      raiseKept p r.2 r.1

/-- Step E. -/
def applyE (v : View) (follows : List Pos) (kept : List Kept) (w : Work) : Work :=
  positions.foldl (reselect v follows kept) w

/-! ### Step F (R97, R120, R165) -/

/-- The coils recomputed at apply (Table 5-2). -/
def applyCoils (old new : Bank) (w : Blocks) : List Coil :=
  match w.image.source with
  | .none => []
  | .frozen => []
  | .routing => coils.filter fun c =>
      (claimedValue w c).isNone && decide ((old.coils.get c).rest ≠ (new.coils.get c).rest)
  | .safe => coils.filter fun c => decide ((old.coils.get c).failSafe ≠ (new.coils.get c).failSafe)

/-- Step F for the coils and their monitor: recompute, reclassify, examine once. The coils are examined in ascending coil number, the
model's choice: R120 and R165 give no order (notes/assumptions/25.md). -/
def applyF (old : Bank) (v : View) (w : Work) : Work :=
  let w := recomputeAll v (applyCoils old v.bank w.toBlocks) w
  let w := coils.foldl (reclassifyCoil v) w
  coils.foldl (fun w c => examineCoil v false c w) w

/-- Step F for the supply: the notice of a change of level from `before` (R125). -/
def applySupply (v : View) (before : SupplyLevel) (measured : Nat) (w : Work) : Work :=
  if before = v.supply then w else raiseSupply v.bank before v.supply measured w

/-! ### Step G and the whole (R166) -/

/-- Step G: the three walks, once each, and the BANK NOTICE. -/
def applyG (v : View) (issuer : Option Pos) (released : Nat) (w : Work) : Work :=
  (close v { w with heldWalk := true, examineAll := true, waitingWalk := true }).raise (.all (.bank true issuer released))

/-- The blocks at an apply, `old` being the outgoing bank and `level` the supply level that step F comes to. -/
def applyBlocks (old : Bank) (v : View) (level : SupplyLevel) (measured : Nat) (issuer : Option Pos) (w : Work) : Work :=
  let kept := keptRequests w.toBlocks
  let bc := applyC v (applyB v (applyA old v kept w))
  let d := applyD old v bc.1
  let w := applyF old v (applyE v d.2 kept d.1)
  let v' := { v with supply := level }
  applyG v' issuer bc.2 (applySupply v' v.supply measured w)

/-- The banks at an apply: Staging is copied into Active (R160). -/
def Banks.applied (b : Banks) : Banks :=
  { active := b.staging, staging := b.staging, valid := true, pending := false, issuer := none, timer := none,
    due := false }

/-- The apply (R160 to R166). -/
def State.apply (s : State) : State :=
  let level := nextLevel s.banks.staging.diagnostics s.supply.level s.supply.measured
  let s' := { s with
    banks := s.banks.applied
    supply := { s.supply with level := level }
    station := { s.station with
      failEntryDue := s.station.failEntryDue || (decide (level ≠ s.supply.level) && decide (level = SupplyLevel.fail)) } }
  s'.event fun v w =>
    applyBlocks s.banks.active { v with supply := s.supply.level } level s.supply.measured s.banks.issuer w

/-- COMMIT_APPLY (R158): an apply that is due tests the condition again. -/
def State.commitApply (s : State) : State :=
  if s.banks.due then
    let s := { s with banks := { s.banks with due := false } }
    if s.applyCondition then s.apply else s
  else s

def execCommitApply (s : State) : Host.Outcome State Fault Refusal := .next s.commitApply

/-- The banks once a commit is abandoned (R159). -/
def Banks.abandoned (b : Banks) : Banks := { b with pending := false, due := false, issuer := none, timer := none }

/-- COMMIT_TIMER_EXPIRY (R159). -/
def State.commitTimerExpiry (s : State) : State :=
  if s.banks.pending ∧ s.banks.timer.isSome then
    { s with banks := s.banks.abandoned }.event fun v w =>
      close v { w.raise (.all (.bank false s.banks.issuer 0)) with examineAll := true }
  else s

def execCommitTimerExpiry (s : State) : Host.Outcome State Fault Refusal := .next s.commitTimerExpiry

end Sys2Proof.Machine
end

