-- ==== Sys2Proof/Machine/Handler.lean ====
section
/-!
DEFINITION. The Request Handler (R186, R194): which frame it takes next, the take, and the reply.
-/
namespace Sys2Proof.Machine

/-- The link is eligible (R186). -/
def State.eligible (s : State) (lp : Pos) : Bool :=
  s.keyed && (s.ports.get lp).reply.isNone && !(s.ports.get lp).inbound.isEmpty

/-- The head frame of an eligible link. -/
def State.headFrame (s : State) (lp : Pos) : Option (Pos × Frame) :=
  if s.eligible lp then (s.ports.get lp).inbound.head?.map fun f => (lp, f) else none

/-- The links in the order the handler considers them, from the pointer onward (R186). -/
def State.linkOrder (s : State) : List Pos := positions.map fun k => s.pointer + k

/-- The take the handler would make now: the link served and its head frame, or none when no link is eligible (R186). -/
def State.handlerNext (s : State) : Option (Pos × Frame) := s.linkOrder.findSome? s.headFrame

/-- The head frame of link lp is taken: it leaves the queue, and the pointer moves to the link after (R186). -/
def State.take (s : State) (lp : Pos) : State :=
  { s with
    pointer := lp + 1
    ports := put s.ports lp { s.ports.get lp with inbound := (s.ports.get lp).inbound.tail } }

/-- The reply is placed in the link's reply slot (R186). -/
def State.placeReply (s : State) (lp : Pos) (cls : Byte) (r : Result) : State :=
  s.setPort lp { s.ports.get lp with reply := some ⟨cls, r⟩ }

/-- A request row of the table: the handler's take of a frame of class `cls` with this body from link lp. When the handler
would take another frame, or none, the command's event does not occur and the state is unchanged
(notes/assumptions/6.md). -/
def State.handle (s : State) (lp : Pos) (cls : Byte) (body : List Byte) (f : State → State × Result) : State :=
  if s.handlerNext = some (lp, ⟨cls, body⟩) then
    let r := f (s.take lp)
    r.1.placeReply lp cls r.2
  else s

/-- A request whose body is empty (R195, R196). -/
def emptyBody (body : List Byte) (f : State → State × Result) (s : State) : State × Result :=
  match body with
  | [] => f s
  | _ :: _ => (s, .badArg)

/-- A request whose body is one byte (R195, R196, R199). -/
def oneByte (body : List Byte) (f : Byte → State → State × Result) (s : State) : State × Result :=
  match body with
  | [b] => f b s
  | _ => (s, .badArg)

/-- The reply that gives the Route Engine's answer (R190). -/
def Answer.result (a : Answer) : Result :=
  match a with
  | .accepted d => .accepted (some d)
  | .refused r => .refused r

/-- A request of a frame put to the Route Engine, with its reply. -/
def State.routing (s : State) (f : View → Work → Work × Answer) : State × Result :=
  let r := f s.view (Work.start s.blocks)
  (s.finish r.1, r.2.result)

/-- UNKNOWN_CLASS (R194, check 1). -/
def execUnknownClass (lp : Pos) (cls : Byte) (body : List Byte) (s : State) : Host.Outcome State Fault Refusal :=
  .next (if isRequestClass cls then s else s.handle lp cls body fun s => (s, .unknown))

end Sys2Proof.Machine
end

