-- ==== Sys2Proof/Machine/Requests.lean ====
section
/-!
DEFINITION. The operating and station requests (R195, R196) and the table cursor's requests (R197 to R199): what each does
once its frame is taken, and its reply.
-/
namespace Sys2Proof.Machine

/-! ### Operating requests (R195) -/

/-- BAND REPORT (R21). -/
def State.bandReport (s : State) (lp : Pos) (body : List Byte) : State × Result :=
  match body with
  | [hi, lo] =>
    let s := s.event fun v w => takeReport v lp (ofTwoBytes hi lo) w
    (s, .done (reportBytes s.banks.active (s.blocks.classifier.get lp)))
  | _ => (s, .badArg)

def execBandReport (lp : Pos) (body : List Byte) (s : State) : Host.Outcome State Fault Refusal :=
  .next (s.handle lp 0x01 body fun s => s.bandReport lp body)

/-- The request a ROUTE frame asks for (R189): 0 by preference, or an antenna. -/
def routeKind (b : Byte) : Option RequestKind :=
  if b = 0 then some .byPreference else (ofNum 16 b.toNat).map RequestKind.antenna

/-- ROUTE (R40). -/
def State.route (s : State) (lp : Pos) (b : Byte) : State × Result :=
  match routeKind b with
  | none => (s, .badArg)
  | some kind => s.routing fun v w => closeRequest v (request v lp kind .request w)

def execRoute (lp : Pos) (body : List Byte) (s : State) : Host.Outcome State Fault Refusal :=
  .next (s.handle lp 0x02 body (oneByte body fun b s => s.route lp b))

/-- REVERT (R47). -/
def State.revert (s : State) (lp : Pos) : State × Result := s.routing fun v w => closeRequest v (revertRequest v lp w)

def execRevert (lp : Pos) (body : List Byte) (s : State) : Host.Outcome State Fault Refusal :=
  .next (s.handle lp 0x03 body (emptyBody body fun s => s.revert lp))

/-- RELEASE (R48 to R50, R60). -/
def State.release (s : State) (lp : Pos) : State × Result :=
  s.routing fun v w => closeRequest v (request v lp .release .request w)

def execRelease (lp : Pos) (body : List Byte) (s : State) : Host.Outcome State Fault Refusal :=
  .next (s.handle lp 0x04 body (emptyBody body fun s => s.release lp))

/-- The mode of position lp is set (R38). -/
def State.setMode (s : State) (lp : Pos) (m : Mode) : State :=
  s.event fun _ w => w.setContext lp { w.context lp with mode := m }

/-- MODE FOLLOW (R38): the mode, and then the request when the position has a band. -/
def State.modeFollow (s : State) (lp : Pos) : State × Result :=
  match admission s.view lp with
  | some r => (s, .refused r)
  | none =>
    let s := s.setMode lp .follow
    match (s.blocks.classifier.get lp).entry with
    | none => (s, .done [])
    | some _ => s.routing fun v w => closeRequest v (request v lp .byPreference .follow w)

/-- MODE MANUAL (R38). -/
def State.modeManual (s : State) (lp : Pos) : State × Result :=
  match admission s.view lp with
  | some r => (s, .refused r)
  | none => (s.setMode lp .manual, .done [])

/-- MODE_FOLLOW (R38): the MODE frames whose body begins with 0. -/
def execModeFollow (lp : Pos) (body : List Byte) (s : State) : Host.Outcome State Fault Refusal :=
  .next (if modeRowIsFollow body then s.handle lp 0x05 body (oneByte body fun _ s => s.modeFollow lp) else s)

/-- MODE_MANUAL (R38): every other MODE frame; one that carries no value or another than 1 is answered BAD_ARG. -/
def execModeManual (lp : Pos) (body : List Byte) (s : State) : Host.Outcome State Fault Refusal :=
  .next (if modeRowIsFollow body then s
    else s.handle lp 0x05 body (oneByte body fun b s => if b = 1 then s.modeManual lp else (s, .badArg)))

/-! ### Station requests (R196) -/

/-- The banks once a COMMIT of link lp is accepted (R156). -/
def Banks.accepted (b : Banks) (lp : Pos) : Banks :=
  { b with pending := true, issuer := some lp, timer := some (b.active.timing.commitWaitS * 1000) }

/-- The apply condition is tested: when it holds, the apply is due (R158). -/
def State.testApply (s : State) : State :=
  if s.applyCondition then { s with banks := { s.banks with due := true } } else s

/-- COMMIT (R156). -/
def State.commit (s : State) (lp : Pos) : State × Result :=
  if s.banks.pending then (s, .busy)
  else
    match s.banks.staging.inconsistency with
    | some (t, i) => (s, .inconsistent t i)
    | none => ({ s with banks := s.banks.accepted lp }.testApply, .accepted none)

def execCommit (lp : Pos) (body : List Byte) (s : State) : Host.Outcome State Fault Refusal :=
  .next (s.handle lp 0x0A body (emptyBody body fun s => s.commit lp))

/-- DISCARD (R155). -/
def State.discard (s : State) : State × Result :=
  if s.banks.pending then (s, .busy)
  else ({ s with banks := { s.banks with staging := s.banks.active } }, .done [])

def execDiscard (lp : Pos) (body : List Byte) (s : State) : Host.Outcome State Fault Refusal :=
  .next (s.handle lp 0x0B body (emptyBody body fun s => s.discard))

/-- STORE (R176): from the acceptance the stored image does not check. -/
def State.storeRequest (s : State) (lp : Pos) : State × Result :=
  if s.store.state.isIdle then ({ s with store := ⟨.torn, .writing s.banks.active lp⟩ }, .accepted none) else (s, .busy)

def execStore (lp : Pos) (body : List Byte) (s : State) : Host.Outcome State Fault Refusal :=
  .next (s.handle lp 0x0C body (emptyBody body fun s => s.storeRequest lp))

/-- CLEAR FAULT of one coil (R118). -/
def State.clearOne (s : State) (c : Coil) : State × Result :=
  let o := clearOutcome s.banks.active s.blocks c
  let s := s.event fun v w => clearCoil v w c
  (s, .done [byte c.val, byte o.code, byte (s.blocks.monitor.get c).latch.code])

/-- The request of a CLEAR FAULT byte: a coil 0 to 63 (R189). -/
def State.clearNamed (s : State) (b : Byte) : State × Result :=
  match ofIndex 64 b.toNat with
  | none => (s, .badArg)
  | some c => s.clearOne c

/-- CLEAR_FAULT (R118): the CLEAR FAULT frames that do not ask for all coils. -/
def execClearFault (lp : Pos) (body : List Byte) (s : State) : Host.Outcome State Fault Refusal :=
  .next (if clearRowIsAll body then s else s.handle lp 0x0D body (oneByte body fun b s => s.clearNamed b))

/-- CLEAR FAULT of all coils (R118): the number of latches cleared, and the retained set. -/
def State.clearAll (s : State) : State × Result :=
  let o := clearOutcome s.banks.active s.blocks
  (s.event fun v w => coils.foldl (clearCoil v) w,
    .done (byte (coils.filter fun c => decide (o c = .cleared)).length :: coilSetBytes fun c => decide (o c = .retained)))

/-- CLEAR_FAULT_ALL (R118). -/
def execClearFaultAll (lp : Pos) (body : List Byte) (s : State) : Host.Outcome State Fault Refusal :=
  .next (if clearRowIsAll body then s.handle lp 0x0D body fun s => s.clearAll else s)

/-- RESUME (R174). -/
def State.resumeRequest (s : State) (lp : Pos) : State × Result :=
  if s.resumeRefused then (s, .refused .state) else (s.resume lp, .done [])

def execResume (lp : Pos) (body : List Byte) (s : State) : Host.Outcome State Fault Refusal :=
  .next (s.handle lp 0x0E body (emptyBody body fun s => s.resumeRequest lp))

/-- FORCE SAFE (R172). -/
def State.forceSafe (s : State) : State × Result := (s.raiseCause .forced (Work.start s.blocks), .done [])

def execForceSafe (lp : Pos) (body : List Byte) (s : State) : Host.Outcome State Fault Refusal :=
  .next (s.handle lp 0x0F body (emptyBody body fun s => s.forceSafe))

/-- RESTART (R179). -/
def State.restart (s : State) (lp : Pos) : State × Result :=
  if s.store.state.isIdle then
    ({ s with station := { s.station with restartDue := put s.station.restartDue lp true } }, .done [])
  else (s, .busy)

def execRestart (lp : Pos) (body : List Byte) (s : State) : Host.Outcome State Fault Refusal :=
  .next (s.handle lp 0x10 body (emptyBody body fun s => s.restart lp))

/-- LINE SET (R33): the position and the codes of its four lines. -/
def State.lineSet (s : State) (body : List Byte) : State × Result :=
  match body with
  | [n, b0, b1, b2, b3] =>
    match ofNum 6 n.toNat, LineCommand.ofByte b0, LineCommand.ofByte b1, LineCommand.ofByte b2, LineCommand.ofByte b3 with
    | some p, some m0, some m1, some m2, some m3 =>
      let s := s.setLines p fun k => (#v[m0, m1, m2, m3]).get k
      (s, .done (n :: s.lineBytes p))
    | _, _, _, _, _ => (s, .badArg)
  | _ => (s, .badArg)

def execLineSet (lp : Pos) (body : List Byte) (s : State) : Host.Outcome State Fault Refusal :=
  .next (s.handle lp 0x11 body fun s => s.lineSet body)

/-! ### The table cursor (R197 to R199) -/

/-- The bank a SELECT byte names (R189). -/
def BankName.ofByte (b : Byte) : Option BankName := if b = 0 then some .active else if b = 1 then some .staging else none

def BankName.code : BankName → Nat
  | .active => 0
  | .staging => 1

/-- The named bank. -/
def Banks.bank (b : Banks) (n : BankName) : Bank :=
  match n with
  | .active => b.active
  | .staging => b.staging

/-- The link's cursor is replaced. -/
def State.setCursor (s : State) (lp : Pos) (c : Option Cursor) : State :=
  s.setPort lp { s.ports.get lp with cursor := c }

/-- SELECT (R197). -/
def State.select (s : State) (lp : Pos) (body : List Byte) : State × Result :=
  match body with
  | [bank, table, index] =>
    match BankName.ofByte bank, TableId.ofNum table.toNat with
    | some b, some t =>
      if t.first ≤ index.toNat ∧ index.toNat < t.endIndex then (s.setCursor lp (some ⟨b, t, index.toNat⟩), .done [])
      else (s, .badArg)
    | _, _ => (s, .badArg)
  | _ => (s, .badArg)

def execSelect (lp : Pos) (body : List Byte) (s : State) : Host.Outcome State Fault Refusal :=
  .next (s.handle lp 0x07 body fun s => s.select lp body)

/-- WRITE (R198), its checks in order; the length of the record and its fields are the checks of Bank.write (R192, R3). -/
def State.write (s : State) (lp : Pos) (body : List Byte) : State × Result :=
  match (s.ports.get lp).cursor with
  | none => (s, .noCursor)
  | some c =>
    if c.bank = .active then (s, .refused .state)
    else if s.banks.pending then (s, .busy)
    else if c.table.endIndex ≤ c.index then (s, .badArg)
    else if body.length = c.table.recordLength then
      match s.banks.staging.write c.table c.index body with
      | none => (s, .badArg)
      | some b =>
        ({ s with banks := { s.banks with staging := b } }.setCursor lp (some { c with index := c.index + 1 }), .done [])
    else (s, .badArg)

def execWrite (lp : Pos) (body : List Byte) (s : State) : Host.Outcome State Fault Refusal :=
  .next (s.handle lp 0x08 body fun s => s.write lp body)

/-- READ of `count` entries (R199). -/
def State.read (s : State) (lp : Pos) (count : Nat) : State × Result :=
  if 1 ≤ count ∧ count ≤ 4 then
    match (s.ports.get lp).cursor with
    | none => (s, .noCursor)
    | some c =>
      let n := min count (c.table.endIndex - c.index)
      (s.setCursor lp (some { c with index := c.index + n }),
        .done ([byte c.bank.code, byte c.table.num, byte c.index, byte n]
          ++ (s.banks.bank c.bank).records c.table c.index n))
  else (s, .badArg)

def execRead (lp : Pos) (body : List Byte) (s : State) : Host.Outcome State Fault Refusal :=
  .next (s.handle lp 0x09 body (oneByte body fun b s => s.read lp b.toNat))

end Sys2Proof.Machine
end

