-- ==== Sys2Proof/Machine/Queries.lean ====
section
/-!
DEFINITION. The six queries (R200, R201) and the contents of their replies (R193).
-/
namespace Sys2Proof.Machine

/-- The place of a position in a list, counted from 1; 0 for absent. -/
def placeIn (l : List Pos) (p : Pos) : Nat := if l.contains p then l.idxOf p + 1 else 0

/-- Band entry, band number and preference list of a band entry; zeros for an absent one. -/
def entryBytes (b : Bank) (e : Option PlanIx) : List Byte :=
  match e with
  | none => [0, 0, 0]
  | some i => [byte (num i), byte (num (b.plan.get i).band), byte (num (b.plan.get i).list)]

/-- POSITION (R34, R63, R153): the context. -/
def contextBytes (r : Routes) (p : Pos) : List Byte :=
  let c := r.contexts.get p
  [byte c.state.code, byte (numOr0 c.antenna), byte (phaseCode (c.transition.map Transition.phase)),
    byte (numOr0 (c.transition.bind Transition.old)), byte (numOr0 (c.transition.bind Transition.target)),
    byte (causeCode (c.transition.map Transition.cause)), byte (c.transition.elim 255 fun t => t.start.code)]
    ++ slotCodes c.slot ++ [byte (causeCode (c.slot.map PendingRequest.cause)), byte (placeIn r.held p), byte c.mode.code]

/-- POSITION: the flags. -/
def State.positionFlags (s : State) (p : Pos) : Byte :=
  let c := s.blocks.routes.contexts.get p
  let r := s.blocks.classifier.get p
  let k := s.blocks.gate.keys.get p
  byte (bitsOf [c.mark, mismatch s.banks.active s.blocks p, r.settleTimer.isSome, r.frequency.isSome, s.pins.keys.get p,
    k.permit, k.tail.isSome, k.keyWait.isSome])

/-- POSITION: history, classifier record and key record. -/
def State.recordBytes (s : State) (p : Pos) : List Byte :=
  let c := s.blocks.routes.contexts.get p
  let r := s.blocks.classifier.get p
  let k := s.blocks.gate.keys.get p
  byte c.history.length :: padded 8 (c.history.map fun a => byte (num a))
    ++ [byte r.source.code] ++ twoBytes (r.frequency.getD 0) ++ [byte (r.settled.elim 255 Fin.val)]
    ++ entryBytes s.banks.active r.entry
    ++ [byte (s.lineCode p).val, byte k.state.code, byte k.state.reasonCode, byte (placeIn s.blocks.gate.waiting p)]

/-- POSITION, 34 bytes. -/
def State.positionBytes (s : State) (p : Pos) : List Byte :=
  contextBytes s.blocks.routes p ++ [s.positionFlags p] ++ s.recordBytes p

/-- ANTENNA, 16 bytes (R63). -/
def State.antennaBytes (s : State) (a : Ant) : List Byte :=
  let r := s.blocks.routes.antennas.get a
  (s.banks.active.antennas.get a).record
    ++ byte r.holders.length :: padded 4 (r.holders.map fun p => byte (num p))
    ++ byte r.reservations.length :: padded 4 (r.reservations.map fun p => byte (num p))
    ++ [posSetByte r.holds]

/-- The store issuing link (R175). -/
def StoreState.issuer : StoreState → Option Pos
  | .idle => none
  | .writing _ lp => some lp

/-- STATION, 35 bytes (R99, R122, R153, R154, R175). -/
def State.stationBytes (s : State) : List Byte :=
  let latched (k : Latch) (c : Coil) : Bool := decide ((s.blocks.monitor.get c).latch = k)
  [byte s.station.mode.code, byte s.station.causes.code, byte s.station.startCause.code,
    byte (bitsOf [s.banks.valid, s.banks.pending, !s.store.state.isIdle, s.station.storeFlag, s.pins.sa, s.pins.sb]),
    byte (numOr0 s.banks.issuer), byte (numOr0 s.store.state.issuer), byte s.supply.level.code]
    ++ twoBytes s.supply.measured ++ [byte s.blocks.image.source.code]
    ++ coilSetBytes (latched .open) ++ coilSetBytes (latched .short)
    ++ [byte (latchCount s.blocks .open), byte (latchCount s.blocks .short), byte s.blocks.gate.waiting.length]
    ++ padded 6 (s.blocks.gate.waiting.map fun p => byte (num p))

/-- LINK, 6 bytes (R201): of the link the request arrived on. -/
def State.linkBytes (s : State) (lp : Pos) : List Byte :=
  let pt := s.ports.get lp
  [byte (num lp), byte pt.discarded, byte (flag pt.dropped), byte pt.inbound.length, byte pt.notices.length,
    byte (2 * flag s.rate.rate1 + flag s.rate.rate0)]

/-- LINES, 24 bytes (R34). -/
def State.allLineBytes (s : State) : List Byte := positions.flatMap s.lineBytes

/-- The positions with a claim of this value on coil c in the list `f` picks. -/
def claimants (i : CoilImage) (f : ClaimLists → List Claim) (c : Coil) (on : Bool) : Byte :=
  posSetByte (Vector.ofFn fun p => (f (i.claims.get p)).contains ⟨c, on⟩)

/-- COIL, 14 bytes (R109). -/
def State.coilBytes (s : State) (c : Coil) : List Byte :=
  let i := s.blocks.image
  let g := i.groups.get (groupOf c)
  let r := i.coils.get c
  (s.banks.active.coils.get c).record
    ++ [byte (groupOf c).val, byte g.inForce.code, byte (flag g.awaited),
      claimants i ClaimLists.effective c true, claimants i ClaimLists.effective c false, claimants i ClaimLists.reserved c true,
      claimants i ClaimLists.reserved c false,
      byte (bitsOf [composedValue s.view s.blocks c, r.commanded, r.trip, r.blank.isSome, r.drive]),
      byte (s.blocks.monitor.get c).sense.code, byte (s.blocks.monitor.get c).latch.code]

/-- A QUERY (R200): the cursor of its link is unset whatever the answer; `f` gives the contents for the number byte. -/
def State.query (s : State) (lp : Pos) (target : Byte) (body : List Byte) (f : State → Nat → Option (List Byte)) :
    State × Result :=
  let s := s.setCursor lp none
  match body with
  | [t, n] =>
    if t = target then
      match f s n.toNat with
      | none => (s, .badArg)
      | some contents => (s, .done (t :: n :: contents))
    else (s, .badArg)
  | _ => (s, .badArg)

/-- The contents of a query whose number must be 0. -/
def whenZero (contents : List Byte) (n : Nat) : Option (List Byte) := if n = 0 then some contents else none

/-- QUERY_POSITION (R34, R63, R153, R200): also the queries whose target is none of the six, which are answered BAD_ARG. -/
def execQueryPosition (lp : Pos) (body : List Byte) (s : State) : Host.Outcome State Fault Refusal :=
  .next (if queryRow body = 1 then
      s.handle lp 0x06 body fun s => s.query lp 1 body fun s n => (ofNum 6 n).map s.positionBytes
    else s)

/-- QUERY_ANTENNA (R63, R200). -/
def execQueryAntenna (lp : Pos) (body : List Byte) (s : State) : Host.Outcome State Fault Refusal :=
  .next (if queryRow body = 2 then
      s.handle lp 0x06 body fun s => s.query lp 2 body fun s n => (ofNum 16 n).map s.antennaBytes
    else s)

/-- QUERY_STATION (R200). -/
def execQueryStation (lp : Pos) (body : List Byte) (s : State) : Host.Outcome State Fault Refusal :=
  .next (if queryRow body = 3 then
      s.handle lp 0x06 body fun s => s.query lp 3 body fun s n => whenZero s.stationBytes n
    else s)

/-- The counters of a link, returned and cleared (R201). -/
def State.clearCounters (s : State) (lp : Pos) : State :=
  s.setPort lp { s.ports.get lp with discarded := 0, dropped := false }

/-- A QUERY LINK (R201): a query that is answered DONE also clears the counters it reports. -/
def State.queryLink (s : State) (lp : Pos) (body : List Byte) : State × Result :=
  let r := s.query lp 4 body fun s n => whenZero (s.linkBytes lp) n
  if body = [4, 0] then (r.1.clearCounters lp, r.2) else r

/-- QUERY_LINK (R201). -/
def execQueryLink (lp : Pos) (body : List Byte) (s : State) : Host.Outcome State Fault Refusal :=
  .next (if queryRow body = 4 then s.handle lp 0x06 body fun s => s.queryLink lp body else s)

/-- QUERY_LINES (R34, R200). -/
def execQueryLines (lp : Pos) (body : List Byte) (s : State) : Host.Outcome State Fault Refusal :=
  .next (if queryRow body = 5 then
      s.handle lp 0x06 body fun s => s.query lp 5 body fun s n => whenZero s.allLineBytes n
    else s)

/-- QUERY_COIL (R109, R200). -/
def execQueryCoil (lp : Pos) (body : List Byte) (s : State) : Host.Outcome State Fault Refusal :=
  .next (if queryRow body = 6 then
      s.handle lp 0x06 body fun s => s.query lp 6 body fun s n => (ofIndex 64 n).map s.coilBytes
    else s)

end Sys2Proof.Machine
end

