-- ==== Sys2Proof/Machine/Switching.lean ====
section
/-!
DEFINITION. The events of a switching transition (chapter 4): its quiet wait expiry, its departure, and the expiries of its
break and make timers. Blank expiry, which may end its CHECK, is in Machine/Monitor.lean.
-/
namespace Sys2Proof.Machine

/-- Quiet wait expiry of transition t (R57, R73): a forced release reports and restarts its timer, every other transition is
abandoned. -/
def quietWaitEnd (v : View) (p : Pos) (t : Transition) (w : Work) : Work :=
  if t.cause.forced then
    (w.setContext p { w.context p with transition := some { t with quietTimer := quietWait v } }).raise
      (.route p .quietTimeout none)
  else raiseAbandonFaults ((close v (abandon v p w)).raise (.route p .quietTimeout none))

/-- QUIET_WAIT_EXPIRY (R73). -/
def State.quietWaitExpiry (s : State) (p : Pos) : State :=
  match (s.blocks.routes.contexts.get p).transition with
  | none => s
  | some t =>
    if t.phase = .wait ∧ t.quietTimer.isSome then s.event fun v w => quietWaitEnd v p t w else s

def execQuietWaitExpiry (p : Pos) (s : State) : Host.Outcome State Fault Refusal := .next (s.quietWaitExpiry p)

/-- DEPARTURE (R72): of a transition in WAIT that is due. -/
def State.departure (s : State) (p : Pos) : State :=
  match (s.blocks.routes.contexts.get p).transition with
  | none => s
  | some t => if t.phase = .wait ∧ t.due then s.event fun v w => close v (depart v p t w) else s

def execDeparture (p : Pos) (s : State) : Host.Outcome State Fault Refusal := .next (s.departure p)

/-- BREAK_EXPIRY (R77). -/
def State.breakExpiry (s : State) (p : Pos) : State :=
  match (s.blocks.routes.contexts.get p).transition with
  | none => s
  | some t => if t.phase = .brk ∧ t.phaseTimer.isSome then s.event fun v w => breakEnd v p t w else s

def execBreakExpiry (p : Pos) (s : State) : Host.Outcome State Fault Refusal := .next (s.breakExpiry p)

/-- MAKE_EXPIRY (R79). -/
def State.makeExpiry (s : State) (p : Pos) : State :=
  match (s.blocks.routes.contexts.get p).transition with
  | none => s
  | some t => if t.phase = .make ∧ t.phaseTimer.isSome then s.event fun v w => makeEnd v p t w else s

def execMakeExpiry (p : Pos) (s : State) : Host.Outcome State Fault Refusal := .next (s.makeExpiry p)

end Sys2Proof.Machine
end

