-- ==== Sys2Proof/Machine/Dispatch.lean ====
section
/-!
DEFINITION. One arm per command, each a direct call of its meaning.
-/
namespace Sys2Proof.Machine

def exec (i : Instr) (s : State) : Host.Outcome State Fault Refusal :=
  match i with
  | .byteReceived lp data => Sys2Proof.Machine.execByteReceived lp data s
  | .gapTimerExpiry lp => Sys2Proof.Machine.execGapTimerExpiry lp s
  | .transmitStart lp => Sys2Proof.Machine.execTransmitStart lp s
  | .transmitCompletion lp straps => Sys2Proof.Machine.execTransmitCompletion lp straps s
  | .unknownClass lp cls body => Sys2Proof.Machine.execUnknownClass lp cls body s
  | .bandReport lp body => Sys2Proof.Machine.execBandReport lp body s
  | .route lp body => Sys2Proof.Machine.execRoute lp body s
  | .revert lp body => Sys2Proof.Machine.execRevert lp body s
  | .release lp body => Sys2Proof.Machine.execRelease lp body s
  | .modeFollow lp body => Sys2Proof.Machine.execModeFollow lp body s
  | .modeManual lp body => Sys2Proof.Machine.execModeManual lp body s
  | .select lp body => Sys2Proof.Machine.execSelect lp body s
  | .write lp body => Sys2Proof.Machine.execWrite lp body s
  | .read lp body => Sys2Proof.Machine.execRead lp body s
  | .queryPosition lp body => Sys2Proof.Machine.execQueryPosition lp body s
  | .queryAntenna lp body => Sys2Proof.Machine.execQueryAntenna lp body s
  | .queryStation lp body => Sys2Proof.Machine.execQueryStation lp body s
  | .queryLink lp body => Sys2Proof.Machine.execQueryLink lp body s
  | .queryLines lp body => Sys2Proof.Machine.execQueryLines lp body s
  | .queryCoil lp body => Sys2Proof.Machine.execQueryCoil lp body s
  | .commit lp body => Sys2Proof.Machine.execCommit lp body s
  | .discard lp body => Sys2Proof.Machine.execDiscard lp body s
  | .store lp body => Sys2Proof.Machine.execStore lp body s
  | .clearFault lp body => Sys2Proof.Machine.execClearFault lp body s
  | .clearFaultAll lp body => Sys2Proof.Machine.execClearFaultAll lp body s
  | .resume lp body => Sys2Proof.Machine.execResume lp body s
  | .forceSafe lp body => Sys2Proof.Machine.execForceSafe lp body s
  | .restart lp body => Sys2Proof.Machine.execRestart lp body s
  | .lineSet lp body => Sys2Proof.Machine.execLineSet lp body s
  | .keyDown p => Sys2Proof.Machine.execKeyDown p s
  | .keyUp p => Sys2Proof.Machine.execKeyUp p s
  | .positionLineChange p k level => Sys2Proof.Machine.execPositionLineChange p k level s
  | .selectorLineChange line level => Sys2Proof.Machine.execSelectorLineChange line level s
  | .senseEvent c current => Sys2Proof.Machine.execSenseEvent c current s
  | .supplyEvent tenths => Sys2Proof.Machine.execSupplyEvent tenths s
  | .powerOn resetLow straps => Sys2Proof.Machine.execPowerOn resetLow straps s
  | .resetLineLow => Sys2Proof.Machine.execResetLineLow s
  | .resetLineHigh straps => Sys2Proof.Machine.execResetLineHigh straps s
  | .loadCompletion => Sys2Proof.Machine.execLoadCompletion s
  | .settleExpiry p => Sys2Proof.Machine.execSettleExpiry p s
  | .quietWaitExpiry p => Sys2Proof.Machine.execQuietWaitExpiry p s
  | .departure p => Sys2Proof.Machine.execDeparture p s
  | .breakExpiry p => Sys2Proof.Machine.execBreakExpiry p s
  | .makeExpiry p => Sys2Proof.Machine.execMakeExpiry p s
  | .blankExpiry c => Sys2Proof.Machine.execBlankExpiry c s
  | .tailExpiry p => Sys2Proof.Machine.execTailExpiry p s
  | .keyWaitExpiry p => Sys2Proof.Machine.execKeyWaitExpiry p s
  | .commitTimerExpiry => Sys2Proof.Machine.execCommitTimerExpiry s
  | .storeCompletion verified straps => Sys2Proof.Machine.execStoreCompletion verified straps s
  | .commitApply => Sys2Proof.Machine.execCommitApply s
  | .applySupplyFailEntry => Sys2Proof.Machine.execApplySupplyFailEntry s

end Sys2Proof.Machine
end

