-- ==== Sys2Proof/WellFormed.lean ====
section
/-!
DEFINITION. Which commands are well formed: the body fits a frame (R189, LEN at most 48), the command stands in the row
its frame belongs to, and a measured voltage fits the two bytes it is reported in (R193).
-/
namespace Sys2Proof

/-- The body of a frame: LEN counts CLASS and BODY and is at most 48 (R189). -/
def bodyFits (body : List Byte) : Bool := decide (body.length ≤ 47)

/-- The frame a request row takes: the link, the class (R189, table of classes) and the body; none for every other event. -/
def Instr.request : Instr → Option (Pos × Byte × List Byte)
  | .unknownClass lp cls body => some (lp, cls, body)
  | .bandReport lp body => some (lp, 0x01, body)
  | .route lp body => some (lp, 0x02, body)
  | .revert lp body => some (lp, 0x03, body)
  | .release lp body => some (lp, 0x04, body)
  | .modeFollow lp body => some (lp, 0x05, body)
  | .modeManual lp body => some (lp, 0x05, body)
  | .select lp body => some (lp, 0x07, body)
  | .write lp body => some (lp, 0x08, body)
  | .read lp body => some (lp, 0x09, body)
  | .queryPosition lp body => some (lp, 0x06, body)
  | .queryAntenna lp body => some (lp, 0x06, body)
  | .queryStation lp body => some (lp, 0x06, body)
  | .queryLink lp body => some (lp, 0x06, body)
  | .queryLines lp body => some (lp, 0x06, body)
  | .queryCoil lp body => some (lp, 0x06, body)
  | .commit lp body => some (lp, 0x0A, body)
  | .discard lp body => some (lp, 0x0B, body)
  | .store lp body => some (lp, 0x0C, body)
  | .clearFault lp body => some (lp, 0x0D, body)
  | .clearFaultAll lp body => some (lp, 0x0D, body)
  | .resume lp body => some (lp, 0x0E, body)
  | .forceSafe lp body => some (lp, 0x0F, body)
  | .restart lp body => some (lp, 0x10, body)
  | .lineSet lp body => some (lp, 0x11, body)
  | .byteReceived _ _ => none
  | .gapTimerExpiry _ => none
  | .transmitStart _ => none
  | .transmitCompletion _ _ => none
  | .keyDown _ => none
  | .keyUp _ => none
  | .positionLineChange _ _ _ => none
  | .selectorLineChange _ _ => none
  | .senseEvent _ _ => none
  | .supplyEvent _ => none
  | .powerOn _ _ => none
  | .resetLineLow => none
  | .resetLineHigh _ => none
  | .loadCompletion => none
  | .settleExpiry _ => none
  | .quietWaitExpiry _ => none
  | .departure _ => none
  | .breakExpiry _ => none
  | .makeExpiry _ => none
  | .blankExpiry _ => none
  | .tailExpiry _ => none
  | .keyWaitExpiry _ => none
  | .commitTimerExpiry => none
  | .storeCompletion _ _ => none
  | .commitApply => none
  | .applySupplyFailEntry => none

/-- A command that could be sent to the part. -/
def Instr.wellFormed : Instr → Bool
  | .byteReceived _ _ => true
  | .gapTimerExpiry _ => true
  | .transmitStart _ => true
  | .transmitCompletion _ _ => true
  | .unknownClass _ cls body => !isRequestClass cls && bodyFits body
  | .bandReport _ body => bodyFits body
  | .route _ body => bodyFits body
  | .revert _ body => bodyFits body
  | .release _ body => bodyFits body
  | .modeFollow _ body => modeRowIsFollow body && bodyFits body
  | .modeManual _ body => !modeRowIsFollow body && bodyFits body
  | .select _ body => bodyFits body
  | .write _ body => bodyFits body
  | .read _ body => bodyFits body
  | .queryPosition _ body => decide (queryRow body = 1) && bodyFits body
  | .queryAntenna _ body => decide (queryRow body = 2) && bodyFits body
  | .queryStation _ body => decide (queryRow body = 3) && bodyFits body
  | .queryLink _ body => decide (queryRow body = 4) && bodyFits body
  | .queryLines _ body => decide (queryRow body = 5) && bodyFits body
  | .queryCoil _ body => decide (queryRow body = 6) && bodyFits body
  | .commit _ body => bodyFits body
  | .discard _ body => bodyFits body
  | .store _ body => bodyFits body
  | .clearFault _ body => !clearRowIsAll body && bodyFits body
  | .clearFaultAll _ body => clearRowIsAll body
  | .resume _ body => bodyFits body
  | .forceSafe _ body => bodyFits body
  | .restart _ body => bodyFits body
  | .lineSet _ body => bodyFits body
  | .keyDown _ => true
  | .keyUp _ => true
  | .positionLineChange _ _ _ => true
  | .selectorLineChange _ _ => true
  | .senseEvent _ _ => true
  | .supplyEvent tenths => decide (tenths < 65536)
  | .powerOn _ _ => true
  | .resetLineLow => true
  | .resetLineHigh _ => true
  | .loadCompletion => true
  | .settleExpiry _ => true
  | .quietWaitExpiry _ => true
  | .departure _ => true
  | .breakExpiry _ => true
  | .makeExpiry _ => true
  | .blankExpiry _ => true
  | .tailExpiry _ => true
  | .keyWaitExpiry _ => true
  | .commitTimerExpiry => true
  | .storeCompletion _ _ => true
  | .commitApply => true
  | .applySupplyFailEntry => true

end Sys2Proof
end

