-- ==== Sys2Proof/Safety.lean ====
section
/-!
DEFINITION. The words the statements of Certificates/Slice0/Obligations.lean are written in: the pieces of a state by name, what
an event may leave untouched, the notices a link holds, the quiet condition, the outcome of fail-safe entry and of a reset, and
the invariants of the part.
-/
namespace Sys2Proof.Machine

/-! ### The pieces of a state by name -/

/-- The position context of `p` (R35). -/
abbrev State.context (s : State) (p : Pos) : Context := s.blocks.routes.contexts.get p
/-- The antenna record of `a` (R39). -/
abbrev State.antenna (s : State) (a : Ant) : AntennaRecord := s.blocks.routes.antennas.get a
/-- The held list (R52). -/
abbrev State.held (s : State) : List Pos := s.blocks.routes.held
/-- The classifier record of `p` (R20). -/
abbrev State.classRecord (s : State) (p : Pos) : ClassRecord := s.blocks.classifier.get p
/-- The claim lists of `p` (R92). -/
abbrev State.claims (s : State) (p : Pos) : ClaimLists := s.blocks.image.claims.get p
/-- The record of group `g` (R92). -/
abbrev State.group (s : State) (g : Group) : GroupRecord := s.blocks.image.groups.get g
/-- The composer's and driver's record of coil `c` (R92). -/
abbrev State.coil (s : State) (c : Coil) : CoilRecord := s.blocks.image.coils.get c
/-- The output source (R99). -/
abbrev State.source (s : State) : OutputSource := s.blocks.image.source
/-- The Coil Monitor's record of coil `c` (R110). -/
abbrev State.sense (s : State) (c : Coil) : SenseRecord := s.blocks.monitor.get c
/-- The key record of `p` (R128). -/
abbrev State.key (s : State) (p : Pos) : KeyRecord := s.blocks.gate.keys.get p
/-- The waiting list (R128). -/
abbrev State.waiting (s : State) : List Pos := s.blocks.gate.waiting
/-- Link port `lp` (R182). -/
abbrev State.port (s : State) (lp : Pos) : Port := s.ports.get lp
/-- The Active bank (R1). -/
abbrev State.bank (s : State) : Bank := s.banks.active
/-- Position `p` is live (R129): TPn is asserted, or its tail runs. -/
abbrev State.live (s : State) (p : Pos) : Prop := (s.key p).permit = true ∨ (s.key p).tail.isSome = true

/-- The state with one context replaced, and nothing else changed. -/
def State.withContext (s : State) (p : Pos) (c : Context) : State :=
  { s with blocks := { s.blocks with routes := { s.blocks.routes with contexts := put s.blocks.routes.contexts p c } } }
/-- The state with one classifier record replaced, and nothing else changed. -/
def State.withClassRecord (s : State) (p : Pos) (r : ClassRecord) : State :=
  { s with blocks := { s.blocks with classifier := put s.blocks.classifier p r } }
/-- The state with one coil record replaced, and nothing else changed. -/
def State.withCoil (s : State) (c : Coil) (r : CoilRecord) : State :=
  { s with blocks := { s.blocks with image := { s.blocks.image with coils := put s.blocks.image.coils c r } } }
/-- The state with one record of the Coil Monitor replaced, and nothing else changed. -/
def State.withSense (s : State) (c : Coil) (r : SenseRecord) : State :=
  { s with blocks := { s.blocks with monitor := put s.blocks.monitor c r } }
/-- The state with one key record replaced, and nothing else changed. -/
def State.withKey (s : State) (p : Pos) (k : KeyRecord) : State :=
  { s with blocks := { s.blocks with gate := { s.blocks.gate with keys := put s.blocks.gate.keys p k } } }
/-- The state with one link port replaced, and nothing else changed. -/
def State.withPort (s : State) (lp : Pos) (pt : Port) : State := { s with ports := put s.ports lp pt }

/-! ### What a command leaves untouched -/

/-- The ports differ at most in their notice queues and notices-dropped flags. -/
abbrev noticesOnly (a b : Vector Port 6) : Prop :=
  ∀ lp : Pos, b.get lp = { a.get lp with notices := (b.get lp).notices, dropped := (b.get lp).dropped }

/-- `t` differs from `s` at most in the operating blocks and in the notices that wait: no register of a bank, of the Commit Unit, of
the store, of the station, of the supply, of a line, of a pin, of the handler or of a port is changed otherwise. -/
abbrev blocksOnly (s t : State) : Prop :=
  t = { s with blocks := t.blocks, ports := t.ports } ∧ noticesOnly s.ports t.ports

/-- No transition is in BREAK, MAKE or CHECK, a commit is pending and no store runs: the apply condition (R158). -/
abbrev applyReady (s : State) : Prop :=
  s.banks.pending = true ∧ s.store.state = .idle ∧
    ∀ p : Pos, ∀ tr ∈ (s.context p).transition, tr.phase = .wait

/-- As `blocksOnly`, of an event in which the Commit Unit tests the apply condition (R158): apply becomes due exactly when the
condition holds of the state the event leaves, and is otherwise as it was. -/
abbrev blocksAndApply (s t : State) : Prop :=
  t = { s with blocks := t.blocks, ports := t.ports, banks := { s.banks with due := t.banks.due } } ∧
    noticesOnly s.ports t.ports ∧ (t.banks.due = true ↔ s.banks.due = true ∨ applyReady t)

/-- The blocks differ at most in the Route Engine, the claims, the groups and the Keying Gate: no classifier record, no sense, no
latch, no coil and no output source is changed. -/
abbrev coilsKept (s t : State) : Prop :=
  t.blocks.classifier = s.blocks.classifier ∧ t.blocks.monitor = s.blocks.monitor ∧
    t.blocks.image.coils = s.blocks.image.coils ∧ t.source = s.source

/-- The frame at the head of link `lp` is taken and answered with `r` (R186), and nothing else is changed. -/
def State.answered (s : State) (lp : Pos) (cls : Byte) (r : Result) : State :=
  { s with
    pointer := lp + 1
    ports := put s.ports lp
      { s.ports.get lp with inbound := (s.ports.get lp).inbound.tail, reply := some ⟨cls, r⟩ } }

/-- Position `p` claims coil `c` effectively. -/
abbrev claimsCoil (s : State) (p : Pos) (c : Coil) : Prop := ∃ k ∈ (s.claims p).effective, k.coil = c

/-- `x` is the composed value of coil `c` by the table of R96, the row for a tripped coil apart. Under ROUTING the value is that
of a claim when the effective claims on the coil are of one value, which claimsLawful holds (R94). -/
abbrev composedByTable (s : State) (c : Coil) (x : Bool) : Prop :=
  (s.source = .none → x = false) ∧
  (s.source = .routing →
    (∀ p : Pos, ∀ k ∈ (s.claims p).effective, k.coil = c →
      (∀ q : Pos, ∀ o ∈ (s.claims q).effective, o.coil = c → o.on = k.on) → x = k.on) ∧
    ((∀ p : Pos, ¬ claimsCoil s p c) → x = (s.bank.coils.get c).rest)) ∧
  (s.source = .frozen → x = (s.coil c).frozen) ∧
  (s.source = .safe → ((s.bank.coils.get c).failSafe = .off → x = false) ∧ ((s.bank.coils.get c).failSafe = .on → x = true) ∧
    ((s.bank.coils.get c).failSafe = .sa → x = s.pins.sa) ∧ ((s.bank.coils.get c).failSafe = .sb → x = s.pins.sb))

/-- `x` is the value the table of R96 gives coil `c`: OFF while it is tripped, else its composed value. -/
abbrev commandedByTable (s : State) (c : Coil) (x : Bool) : Prop :=
  ((s.coil c).trip = true → x = false) ∧ ((s.coil c).trip = false → composedByTable s c x)

/-- Coil `c` is recomputed between `s` and `t` (R97, R104, R106): the value that the claims, the source, the trip and the Active
bank of `t` give it by R96 is commanded and driven under a fresh blank, or it was commanded already and nothing of the coil
moves. `derivedValue` and `composedValue` are R96's table (commandedByTable, in StepKeepsCommandedDerived). -/
abbrev recomputed (s t : State) (c : Coil) : Prop :=
  t.coil c =
    if derivedValue t.view t.blocks c = (s.coil c).commanded then s.coil c
    else { s.coil c with
      commanded := derivedValue t.view t.blocks c, drive := derivedValue t.view t.blocks c,
      blank := some t.bank.timing.blankMs }

/-- Coil `c` is under judgement (R112): energized, diagnostics enabled, not blanked. -/
abbrev judged (s : State) (c : Coil) : Prop :=
  (s.coil c).drive = true ∧ (s.bank.coils.get c).diagnostics = true ∧ (s.coil c).blank = none

/-- Under judgement, coil `c` would latch OPEN (R113): energized with diagnostics enabled, LOW, and no latch. -/
abbrev latchesOpen (s : State) (c : Coil) : Prop :=
  (s.coil c).drive = true ∧ (s.bank.coils.get c).diagnostics = true ∧ (s.sense c).sense = .low ∧ (s.sense c).latch = .none

/-- Under judgement, coil `c` would latch SHORT (R114): energized with diagnostics enabled, HIGH, and not yet SHORT. -/
abbrev latchesShort (s : State) (c : Coil) : Prop :=
  (s.coil c).drive = true ∧ (s.bank.coils.get c).diagnostics = true ∧ (s.sense c).sense = .high ∧
    (s.sense c).latch ≠ .short

/-- The quiet condition of transition `tr` of position `p` (R70): the position is not live, no holder of the old antenna or of the
target is live, the supply level is GOOD and no commit is pending. -/
abbrev quietCondition (s : State) (p : Pos) (tr : Transition) : Prop :=
  ¬ ((s.key p).permit = true ∨ (s.key p).tail.isSome = true) ∧
    (∀ a ∈ tr.old, ∀ q ∈ (s.antenna a).holders, (s.key q).permit = false ∧ (s.key q).tail = none) ∧
    (∀ a ∈ tr.target, ∀ q ∈ (s.antenna a).holders, (s.key q).permit = false ∧ (s.key q).tail = none) ∧
    s.supply.level = .good ∧ s.banks.pending = false

/-- The pending slot does not hold a HELD request. -/
abbrev notHeld (c : Context) : Prop := ∀ r ∈ c.slot, r.status = .latched

/-! ### Notices a link holds -/

/-- The notice is a ROUTE NOTICE of position `p` with this cause. -/
def Notice.isRoute (n : Notice) (p : Pos) (cause : RouteCause) : Bool :=
  match n with
  | .route q _ _ _ _ _ k _ => decide (q = p) && decide (k = cause)
  | .key .. => false
  | .coilFault .. => false
  | .supplyFault .. => false
  | .bank .. => false
  | .store .. => false
  | .station .. => false

/-- The KEY NOTICE of position `p` with this event and conflicting position: the key record and the band as the event leaves them
(R152). -/
def State.keyTold (t : State) (p : Pos) (event : KeyEvent) (conflict : Option Pos) : Notice :=
  .key p event (t.key p).state (t.key p).tail.isSome (bandOf t.bank t.blocks p) conflict

/-- The notice is the FAULT NOTICE of a latch of this kind on coil `c`. -/
def Notice.isCoilFault (n : Notice) (c : Coil) (kind : Latch) : Bool :=
  match n with
  | .coilFault k d _ _ _ _ => decide (d = c) && decide (k = kind)
  | .route .. => false
  | .key .. => false
  | .supplyFault .. => false
  | .bank .. => false
  | .store .. => false
  | .station .. => false

/-- Link `lp` holds a notice of which `f` is true. -/
abbrev holdsNotice (t : State) (lp : Pos) (f : Notice → Bool) : Prop := (t.port lp).notices.any f = true

/-- A notice that replaces none joins the end of a queue of fewer than 8, or is dropped with the notices-dropped flag set (R188). -/
def Port.joined (pt : Port) (n : Notice) : Port :=
  if pt.notices.length < 8 then { pt with notices := pt.notices ++ [n] } else { pt with dropped := true }

/-- Link `q` is told of these notices, in this order, and of nothing else. -/
abbrev toldOn (s t : State) (q : Pos) (ns : List Notice) : Prop := t.port q = ns.foldl Port.joined (s.port q)

/-- All six links are told of these notices, in this order, and of nothing else. -/
abbrev told (s t : State) (ns : List Notice) : Prop := ∀ q : Pos, toldOn s t q ns

/-- The FAULT NOTICE of a supply level, with the level before it, or absent (R121, R123, R125): its kind is SUPPLY_FAIL when
FAIL stands on either side, and the mask may suppress it. -/
def levelNotice (mask : NoticeMask) (before : Option SupplyLevel) (after : SupplyLevel) (measured : Nat) : List Notice :=
  if before = some .fail ∨ after = .fail then
    if mask.supplyFail = true then [] else [.supplyFault true before after measured]
  else if mask.supplyLow = true then [] else [.supplyFault false before after measured]

/-- The STATION NOTICE of a fail-safe entry or of a cause added (R170, R171), with the code of the cause (R191). -/
def causeNotice (event : StationEvent) (causes : CauseSet) (source : OutputSource) (cause : Nat) : Notice :=
  .station event .failsafe causes source cause false

/-- `q` is the lowest-numbered position of which `f` is true. -/
abbrev lowest (f : Pos → Prop) (q : Pos) : Prop := f q ∧ ∀ j : Pos, j < q → ¬ f j

/-- A QUERY target, or a number for its target, that R200 does not define. -/
abbrev undefinedQuery (target number : Nat) : Prop :=
  target < 1 ∨ 6 < target ∨ (target = 1 ∧ (number < 1 ∨ 6 < number)) ∨ (target = 2 ∧ (number < 1 ∨ 16 < number)) ∨
    ((target = 3 ∨ target = 4 ∨ target = 5) ∧ number ≠ 0) ∨ (target = 6 ∧ 63 < number)

/-- Antenna `a` has room for position `p` (R45): the other positions that hold or reserve it are none when it is EXCLUSIVE, and
fewer than the branch limit when it is SPLIT. -/
abbrev hasRoom (b : Bank) (w : Blocks) (a : Ant) (p : Pos) : Prop :=
  ((b.antennas.get a).share = .exclusive → ∀ q : Pos, q ≠ p →
    q ∉ (w.routes.antennas.get a).holders ∧ q ∉ (w.routes.antennas.get a).reservations) ∧
  ((b.antennas.get a).share = .split → (positions.filter fun q => decide (q ≠ p ∧
    (q ∈ (w.routes.antennas.get a).holders ∨ q ∈ (w.routes.antennas.get a).reservations))).length <
      (b.antennas.get a).branchLimit)

/-! ### The order of the places on an antenna (R39)

`AntennaRecord.occupants` holds the places on an antenna, earliest reserved first; the holder list and the reservation list are
its two parts in that order. -/

/-- The places on antenna `a`, without that of `p` in this role when `a` is the antenna `p` leaves. -/
def State.placesLess (s : State) (p : Pos) (role : Role) (left : Option Ant) (a : Ant) : List Occupant :=
  if left = some a then (s.antenna a).occupants.filter fun o => decide (o ≠ ⟨p, role⟩) else (s.antenna a).occupants

/-- The places as position `p` finds them when it leaves its holding of `old` and its reservation of `target` becomes a holding,
at the place it has (R77, R78). -/
def State.placesAtMake (s : State) (p : Pos) (old target : Option Ant) (a : Ant) : List Occupant :=
  (s.placesLess p .holding old a).map fun o => if target = some a ∧ o = ⟨p, .reserving⟩ then ⟨p, .holding⟩ else o

/-- `l` with a reservation of `p` at the end, when its target is antenna `a` (R67, R75). -/
def reservedAtEnd (p : Pos) (target : Option Ant) (a : Ant) (l : List Occupant) : List Occupant :=
  if target = some a then l ++ [⟨p, .reserving⟩] else l

/-- The event leaves the places `base` in front on every antenna, in their order; behind them stand the reservations that its held
walk made, in the order of the held list, and last those of the requests of the positions `own`, in ascending order, which start
after the walk (R51, R54, R81). -/
abbrev placesKeptBy (s t : State) (own : Pos → Bool) (base : Ant → List Occupant) : Prop :=
  ∀ a : Ant, base a <+: (t.antenna a).occupants ∧
    (∀ o ∈ (t.antenna a).occupants.drop (base a).length, o.role = .reserving) ∧
    (((t.antenna a).occupants.drop (base a).length).map Occupant.pos).Sublist
      ((s.held.filter fun q => !own q) ++ positions.filter own)

/-- As `placesKeptBy`, of an event of position `p` alone. -/
abbrev placesKept (s t : State) (p : Pos) (base : Ant → List Occupant) : Prop :=
  placesKeptBy s t (fun q => decide (q = p)) base

/-! ### The examination (R71) and the waiting walk (R138) -/

/-- An end of liveness of position `q` concerns transition `tr` of position `p` (R71): its own, or `q` holds its old antenna or its
target. -/
abbrev concerns (s : State) (q p : Pos) (tr : Transition) : Prop :=
  p = q ∨ (∃ a ∈ tr.old, q ∈ (s.antenna a).holders) ∨ ∃ a ∈ tr.target, q ∈ (s.antenna a).holders

/-- The examination of R71 between `s`, which the event's other effects leave, and `t`: a WAIT transition that `concerned` names
becomes due when its quiet condition holds in `s`, and no context changes otherwise. -/
abbrev examined (s t : State) (concerned : Pos → Transition → Prop) : Prop :=
  ∀ p : Pos, ((s.context p).transition = none → t.context p = s.context p) ∧
    ∀ tr ∈ (s.context p).transition,
      (tr.phase = .wait ∧ concerned p tr ∧ quietCondition s p tr →
        t.context p = { s.context p with transition := some { tr with due := true } }) ∧
      (¬ (tr.phase = .wait ∧ concerned p tr ∧ quietCondition s p tr) → t.context p = s.context p)

/-- `t` with the key records of the positions that were WAITING in `s` put back: what the examination reads, before the waiting walk
of the same event (notes/assumptions/9.md). -/
def State.beforeWalk (s t : State) : State :=
  { t with blocks := { t.blocks with gate := { t.blocks.gate with keys := Vector.ofFn fun q =>
    match (s.key q).state with
    | .waiting _ => s.key q
    | .up => t.key q
    | .on => t.key q
    | .tail => t.key q
    | .barred _ => t.key q } } }

/-- The transition that position `p` has in `t` started, or had its target replaced, in the event from `s`, and was examined
then (R67, R71, R75): it is due exactly when its quiet condition held. -/
abbrev startExamined (s t : State) (p : Pos) : Prop :=
  ∀ tr ∈ (t.context p).transition, tr.due = true ↔ quietCondition (s.beforeWalk t) p tr

/-- The blocks as the waiting walk of an event from `s` to `t` finds them when it comes to entry `q` (R138): the entries before
`q` as the walk leaves them, `q` and the entries after it as they were. -/
def blocksAtTurn (s t : State) (q : Pos) : Blocks :=
  { t.blocks with gate := { t.blocks.gate with keys := Vector.ofFn fun r =>
    if (s.waiting.dropWhile fun x => decide (x ≠ q)).contains r then s.key r else t.key r } }

/-- The waiting list of `s`, walked oldest first, is in `t` what R138 leaves: every entry is put to the grant test against the
state the entries before it left, and is ON and out of the list, in its place with the obstacle now found, or BARRED with the
permanent obstacle and out of the list; nobody joins, and the order stands. -/
abbrev waitingWalked (s t : State) : Prop :=
  t.waiting = s.waiting.filter (fun q => decide (q ∈ t.waiting)) ∧
  ∀ q ∈ s.waiting,
    (grantTest t.view (blocksAtTurn s t q) q = none → t.key q = ⟨.on, none, none, true⟩ ∧ q ∉ t.waiting) ∧
    ∀ (r : Reason) (c : Option Pos), grantTest t.view (blocksAtTurn s t q) q = some (r, c) →
      (r ∈ [.switching, .supplyLow, .switchHold, .holderLive, .singleSignal, .lockout] →
        t.key q = { s.key q with state := .waiting r } ∧ q ∈ t.waiting) ∧
      (r ∈ [.failsafe, .notRouted, .noBand, .mismatch] →
        t.key q = { s.key q with state := .barred r, keyWait := none } ∧ q ∉ t.waiting)

/-- The links are told of what a waiting walk did (R138, R152): GRANTED, or BARRED with the reason. -/
abbrev waitersTold (s t : State) : Prop :=
  ∀ q ∈ s.waiting, (s.port q).notices.length ≤ 4 →
    ((t.key q).state = .on → holdsNotice t q fun n => decide (n = t.keyTold q .granted none)) ∧
    ∀ r, (t.key q).state = .barred r → holdsNotice t q fun n => decide (n = t.keyTold q .barred none)

/-- The waiting walk of an event from `s` to `t`, with its notices. -/
abbrev walked (s t : State) : Prop := waitingWalked s t ∧ waitersTold s t

/-- TPn is asserted exactly in key state ON, the waiting list holds exactly the WAITING positions, each once, and is empty in
STARTING (R127 to R129, R137). -/
abbrev gateConsistent (s : State) : Prop :=
  (∀ p : Pos, ((s.key p).permit = true ↔ (s.key p).state = .on) ∧
    (p ∈ s.waiting ↔ ∃ r, (s.key p).state = .waiting r)) ∧
    s.waiting.Nodup ∧ (s.station.mode = .starting → s.waiting = [])

/-- The waiting walk of an event that owes one only for a withdrawal (R139, R144): with no permit lost the gate stands. -/
abbrev walkedIfWithdrawn (s t : State) : Prop :=
  ((∀ q : Pos, (s.key q).state = .on → (t.key q).state = .on) → t.blocks.gate = s.blocks.gate) ∧
    ((∃ q : Pos, (s.key q).state = .on ∧ (t.key q).state ≠ .on) → gateConsistent s → walked s t)

/-- Position `p`, ON in `s`, is withdrawn in `t` with this reason, under the tail time of bank `b` (R129, R143): TPn is
de-asserted, the tail starts, and the link is told with the conflicting position (R152). -/
abbrev withdrawnAs (b : Bank) (s t : State) (p : Pos) (r : Reason) (conflict : Option Pos) : Prop :=
  t.key p = { s.key p with
    state := .barred r, permit := false, tail := if b.timing.tailMs = 0 then (s.key p).tail else some b.timing.tailMs } ∧
  ((s.port p).notices.length ≤ 4 → holdsNotice t p fun n => decide (n = t.keyTold p .withdrawn conflict))

/-- The transition `tr` of position `q`, which the event does not touch otherwise, becomes due in it (R71, R130): under tail time
0 a withdrawal of the event ends a liveness that concerns it, and its quiet condition holds. -/
abbrev dueByWithdrawal (s t : State) (q : Pos) (tr : Transition) : Prop :=
  tr.phase = .wait ∧ s.bank.timing.tailMs = 0 ∧
    (∃ r : Pos, (s.key r).state = .on ∧ (t.key r).state ≠ .on ∧ concerns t r q tr) ∧ quietCondition (s.beforeWalk t) q tr

/-- Every position that `own` does not name stays as it was: its claim lists, its switch holds, its key record unless it waits (what
the waiting walk does to it is in `walked`), and its context but for the due mark; and no group moves, but that one which waits
for EXCLUSIVE may be settled (R95). -/
abbrev othersKept (s t : State) (own : Pos → Prop) : Prop :=
  (∀ q : Pos, ¬ own q → t.claims q = s.claims q ∧ (∀ a : Ant, (t.antenna a).holds.get q = (s.antenna a).holds.get q) ∧
    (q ∉ s.waiting → t.key q = s.key q) ∧ ((s.context q).transition = none → t.context q = s.context q) ∧
    ∀ tr ∈ (s.context q).transition,
      (dueByWithdrawal s t q tr → t.context q = { s.context q with transition := some { tr with due := true } }) ∧
      (¬ dueByWithdrawal s t q tr → t.context q = s.context q)) ∧
  ∀ g : Group, t.group g = s.group g ∨ ((s.group g).awaited = true ∧ t.group g = ⟨.exclusive, false⟩)

/-- `own` of an event of position `p` that makes a held walk when `walk` holds: `p` itself, and the positions of the walk. -/
abbrev ownOrWalked (s : State) (p : Pos) (walk : Prop) (q : Pos) : Prop := q = p ∨ (walk ∧ q ∈ s.held)

/-! ### What a request comes to (R48, R49) and what a held walk leaves (R54, R55) -/

/-- The answer to a request that is selected at once (R48, R49). -/
def Selection.answer : Selection → Answer
  | .refused r => .refused r
  | .current => .accepted .unchanged
  | .target _ => .accepted .started
  | .held => .accepted .held

/-- What a request of position `p`, taken in NORMAL, comes to (R41, R42). -/
def requestOutcome (v : View) (w : Blocks) (p : Pos) (kind : RequestKind) : Selection :=
  if (v.bank.positions.get p).enabled = true then selection v w p kind else .refused .disabled

/-- A position with no transition has no reserved claims (R92, R93; placesConsistent holds it). -/
abbrev reservedInTransition (s : State) : Prop := ∀ p : Pos, (s.context p).transition = none → (s.claims p).reserved = []

/-- The record of a transition that has just entered WAIT (R67), its due mark apart. -/
def waitRecord (b : Bank) (old target : Option Ant) (kind : RequestKind) (cause : Cause) (start : RouteState) (due : Bool) :
    Transition :=
  ⟨old, target, kind, cause, .wait, none, some (b.timing.quietWaitS * 1000), start, due, []⟩

/-- Position `p`, which stood at context `c` with no transition and an empty slot, has in `t` what R48 gives a request of outcome
`sel` under bank `b`: the context as it was, a FAULTED position released to IDLE, a transition in WAIT with its target
reserved and its antennas held (R67), or a HELD request in the slot and in the list. -/
abbrev actedOn (sel : Selection) (b : Bank) (t : State) (p : Pos) (c : Context) (kind : RequestKind) (cause : Cause) : Prop :=
  (∀ r, sel = .refused r → t.context p = c) ∧
  (sel = .current → t.context p = { c with state := if kind = .release ∧ c.state = .faulted then .idle else c.state }) ∧
  (∀ a, sel = .target a →
    (∃ tr ∈ (t.context p).transition, tr = waitRecord b c.antenna a kind cause c.state tr.due ∧
      t.context p = { c with state := .switching, transition := some tr }) ∧
    (∀ n ∈ a, p ∈ (t.antenna n).reservations ∧ (t.antenna n).holds.get p = true ∧
      (t.claims p).reserved = (path b p n).claims) ∧
    ∀ o ∈ c.antenna, (t.antenna o).holds.get p = true) ∧
  (sel = .held → t.context p = { c with slot := some ⟨kind, .held, cause⟩ }) ∧
  (p ∈ t.held ↔ sel = .held)

/-- The request of position `p`, with this outcome, reserves at the end of the list of its target; no other place moves, and the
event's held walk reserves behind it (R39, R54). -/
abbrev reservedLast (s t : State) (p : Pos) (sel : Selection) : Prop :=
  placesKept s t p fun a => reservedAtEnd p (match sel with
    | .target n => n
    | .current => none
    | .held => none
    | .refused _ => none) a (s.antenna a).occupants

/-- The held requests of `s`, but for those of the positions `own`, are in `t` what a held walk leaves (R54, R55): those that stay
keep their order and place, and no walk would find them a target; one that left has started its transition in WAIT with its own
kind and cause (REQUEST or FOLLOW, R40), withdrawn if ON (R68), or leaves its context otherwise unchanged; its link is told. -/
abbrev heldWalkedBy (s t : State) (own : Pos → Bool) : Prop :=
  t.held.filter (fun q => !own q) = s.held.filter (fun q => !own q && decide (q ∈ t.held)) ∧
  ∀ q : Pos, own q = false → q ∈ s.held → ∀ r ∈ (s.context q).slot, r.cause.forced = false →
    (t.claims q).effective = (s.claims q).effective ∧
    (q ∈ t.held → t.context q = s.context q ∧ selection s.view t.blocks q r.kind = .held) ∧
    (q ∉ t.held → (t.context q).transition = none → t.context q = { s.context q with slot := none } ∧
      selection s.view t.blocks q r.kind ≠ .held ∧ ∀ a, selection s.view t.blocks q r.kind ≠ .target a) ∧
    ((t.context q).transition = none → (t.claims q).reserved = (s.claims q).reserved) ∧
    (((t.context q).transition = none ∨ (s.key q).state ≠ .on) → q ∉ s.waiting → t.key q = s.key q) ∧
    (q ∉ t.held → ∀ tr ∈ (t.context q).transition,
      tr = waitRecord s.bank (s.context q).antenna tr.target r.kind r.cause (s.context q).state tr.due ∧
      t.context q = { s.context q with state := .switching, slot := none, transition := some tr } ∧ startExamined s t q ∧
      ((s.key q).state = .on → withdrawnAs s.bank s t q .switching none) ∧
      (∀ o ∈ (s.context q).antenna, (t.antenna o).holds.get q = true) ∧
      ∀ n ∈ tr.target, q ∈ (t.antenna n).reservations ∧ (t.antenna n).holds.get q = true ∧
        (t.claims q).reserved = (path s.bank q n).claims) ∧
    (q ∉ t.held → (s.port q).notices.length ≤ 4 →
      holdsNotice t q fun n => n.isRoute q .heldSelected || n.isRoute q .refused)

/-- As `heldWalkedBy`, of an event of position `p` alone. -/
abbrev heldWalked (s t : State) (p : Pos) : Prop := heldWalkedBy s t fun q => decide (q = p)

/-- Position `p`, whose transition `tr` with cause REQUEST or FOLLOW is in WAIT, has in `t` what R49 gives a request of outcome
`sel`; `c` is its context as the request found it. Refused: the transition carries on. The same target: it carries on with the
request's cause, and its kind stays that of the request that set the target (the model's reading, notes/assumptions/7.md).
Another target: it is replaced, under a fresh quiet wait timer, and examined (R75). Current or held: it is abandoned (R74), into a
fault release, told as such, when a coil of its route is latched (R59; a held request is then LATCHED, the model's reading,
notes/assumptions/8.md). A replacement and an abandonment make the held walk and the waiting walk (R54, R139). -/
abbrev actedOnInWait (sel : Selection) (s t : State) (p : Pos) (c : Context) (tr : Transition) (kind : RequestKind)
    (cause : Cause) : Prop :=
  (∀ r, sel = .refused r → t.blocks = (s.withContext p c).blocks) ∧
  (sel = .target tr.target →
    t.blocks = (s.withContext p { c with transition := some { tr with cause := cause } }).blocks) ∧
  (∀ a, sel = .target a → a ≠ tr.target →
    (∃ tr' ∈ (t.context p).transition, tr' = { tr with
        target := a, kind := kind, cause := cause, quietTimer := some (s.bank.timing.quietWaitS * 1000), due := tr'.due } ∧
      t.context p = { c with transition := some tr' }) ∧ startExamined s t p ∧
    (∀ o ∈ tr.target, p ∉ (t.antenna o).reservations ∧ (tr.old ≠ some o → (t.antenna o).holds.get p = false)) ∧
    (∀ n ∈ a, p ∈ (t.antenna n).reservations ∧ (t.antenna n).holds.get p = true ∧
      (t.claims p).reserved = (path s.bank p n).claims) ∧
    (a = none → (t.claims p).reserved = []) ∧ (t.claims p).effective = (s.claims p).effective ∧
    placesKept s t p (fun n => reservedAtEnd p a n (s.placesLess p .reserving tr.target n)) ∧
    ((s.key p).state = .on → t.key p = s.key p) ∧ heldWalked s t p ∧ othersKept s t (ownOrWalked s p True) ∧
    (gateConsistent s → walked s t)) ∧
  ((sel = .current ∨ sel = .held) →
    (t.claims p).effective = (s.claims p).effective ∧
    (∀ o ∈ tr.target, (t.claims p).reserved = [] ∧ p ∉ (t.antenna o).reservations) ∧
    ((tr.start ≠ .routed ∨ ∀ k ∈ (s.claims p).effective, (s.sense k.coil).latch = .none) →
      t.context p = { c with
        state := tr.start, transition := none, slot := if sel = .held then some ⟨kind, .held, cause⟩ else none } ∧
      (p ∈ t.held ↔ sel = .held) ∧ (∀ o ∈ tr.old, (t.antenna o).holds.get p = false) ∧
      ∀ o ∈ tr.target, (t.antenna o).holds.get p = false) ∧
    (tr.start = .routed → (∃ k ∈ (s.claims p).effective, (s.sense k.coil).latch ≠ .none) →
      (t.context p).state = .faulted ∧
      (∃ tr' ∈ (t.context p).transition, tr'.cause = .fault ∧ tr'.target = none ∧ tr'.phase = .wait) ∧
      startExamined s t p ∧ ((s.port p).notices.length ≤ 4 → holdsNotice t p fun n => n.isRoute p .fault) ∧
      (t.context p).slot = if sel = .held then some ⟨kind, .latched, cause⟩ else none) ∧ heldWalked s t p ∧
    othersKept s t (ownOrWalked s p True) ∧
    placesKept s t p (s.placesLess p .reserving tr.target) ∧ (gateConsistent s → walked s t))

/-! ### A change of band entry (R25 to R27, R146) -/

/-- The pending slots and the held list agree (R49, R52): a position stands in the held list, once, exactly while its slot holds a
HELD request, which it does only with no transition; a LATCHED request waits behind a transition; and a transition in WAIT
that is not forced has an empty slot. -/
abbrev heldConsistent (s : State) : Prop :=
  s.held.Nodup ∧
    ∀ p : Pos, (p ∈ s.held ↔ ∃ r ∈ (s.context p).slot, r.status = .held) ∧
      (∀ r ∈ (s.context p).slot, (r.status = .held → (s.context p).transition = none) ∧
        (r.status = .latched → (s.context p).transition ≠ none)) ∧
      (∀ tr ∈ (s.context p).transition, tr.phase = .wait → tr.cause.forced = false → (s.context p).slot = none)

/-- What the re-check of R146 finds first wrong with position `p` over the blocks `w`, and the conflicting position of R152: no
band, a mismatch, a single-signal conflict with another ON position, a lockout pair with one. -/
def recheckFinds (b : Bank) (w : Blocks) (p : Pos) (r : Reason) (c : Option Pos) : Prop :=
  (bandOf b w p = none ∧ r = .noBand ∧ c = none) ∨
  ∃ n ∈ bandOf b w p,
    (r = .mismatch ∧ c = none ∧ ∃ a ∈ (w.routes.contexts.get p).antenna, covers b a n = false) ∨
    ((∀ a ∈ (w.routes.contexts.get p).antenna, covers b a n = true) ∧
      ((r = .singleSignal ∧ ∃ q ∈ c, lowest (fun q : Pos => q ≠ p ∧ (w.gate.keys.get q).state = .on ∧
          singleSignalConflict b w p q = true) q) ∨
        ((∀ q : Pos, q ≠ p → (w.gate.keys.get q).state = .on → singleSignalConflict b w p q = false) ∧
          r = .lockout ∧ ∃ q ∈ c, lowest (fun q : Pos => q ≠ p ∧ (w.gate.keys.get q).state = .on ∧
            lockoutConflict b w p q = true) q)))

/-- The band-change re-check of position `p`, whose new band entry `u` has (R27, R146), between `s` and the state `u` it leaves
with its waiting walk: an ON position is withdrawn with the reason of the first test that fails, and stays as it is when none
fails; no other permit is taken; the waiting list is walked; and the end of liveness of a withdrawal with tail time 0 is
examined (R71). -/
abbrev rechecked (s u : State) (p : Pos) : Prop :=
  ∀ s' : State, s' = State.withKey { s with blocks := { s.blocks with classifier := u.blocks.classifier } } p
      (if (s.key p).state = .on then u.key p else s.key p) →
    u = { s' with blocks := { s'.blocks with
      routes := { s.blocks.routes with contexts := u.blocks.routes.contexts }, gate := u.blocks.gate } } ∧
    ((s.key p).state = .on →
      (∀ (r : Reason) (c : Option Pos), recheckFinds s.bank { s.blocks with classifier := u.blocks.classifier } p r c →
        u.key p = { s.key p with
          state := .barred r, permit := false
          tail := if s.bank.timing.tailMs = 0 then (s.key p).tail else some s.bank.timing.tailMs }) ∧
      ((∀ (r : Reason) (c : Option Pos), ¬ recheckFinds s.bank { s.blocks with classifier := u.blocks.classifier } p r c) →
        u.key p = s.key p)) ∧
    (gateConsistent s → waitingWalked s' u) ∧ (∀ q : Pos, q ∉ s.waiting → u.key q = s'.key q) ∧
    examined s' u fun q tr => s.bank.timing.tailMs = 0 ∧ (s.key p).state = .on ∧ (u.key p).state ≠ .on ∧ concerns s p q tr

/-- A change of the band entry of `p` to `e` raises a FOLLOW request (R26). -/
abbrev followsChange (s : State) (p : Pos) (e : Option PlanIx) : Prop :=
  s.station.mode = .normal ∧ (s.bank.positions.get p).enabled = true ∧ (s.context p).mode = .follow ∧
    ∃ i ∈ e, ∀ j ∈ (s.classRecord p).entry, (s.bank.plan.get j).band ≠ (s.bank.plan.get i).band ∨
      (s.bank.plan.get j).list ≠ (s.bank.plan.get i).list

/-- The cause of the ROUTE NOTICE of a FOLLOW request with this outcome (R62). -/
def Selection.followCause : Selection → RouteCause
  | .refused _ => .refused
  | .current => .follow
  | .target _ => .follow
  | .held => .follow

/-- A request of this outcome, taken in WAIT of transition `tr` of position `p`, abandons it into a fault release (R59). -/
abbrev abandonedIntoFault (sel : Selection) (s : State) (p : Pos) (tr : Transition) : Prop :=
  (sel = .current ∨ sel = .held) ∧ tr.start = .routed ∧ ∃ k ∈ (s.claims p).effective, (s.sense k.coil).latch ≠ .none

/-- The FOLLOW request of position `p`, taken in `u` (R40, R48 to R50, R62): selected at once with no transition; acted on in WAIT;
latched behind any other transition. Its answer is told to the link each time; where an abandonment goes on into R58, the notice
with cause FAULT replaces it (R59). -/
abbrev followRaised (u t : State) (p : Pos) : Prop :=
  ∀ sel, sel = selection u.view u.blocks p .byPreference →
    ((u.context p).transition = none → heldConsistent u → reservedInTransition u →
      actedOn sel u.bank t p { u.context p with slot := none } .byPreference .follow ∧ startExamined u t p ∧
      reservedLast u t p sel ∧ ((u.context p).slot ≠ none → heldWalked u t p) ∧
      othersKept u t (ownOrWalked u p ((u.context p).slot ≠ none)) ∧ walkedIfWithdrawn u t ∧
      (∀ a, sel = .target a → (u.key p).state = .on → withdrawnAs u.bank u t p .switching none) ∧
      ((u.port p).notices.length ≤ 4 → holdsNotice t p fun n =>
        decide (n = routeNotice t.blocks p sel.followCause (some sel.answer)))) ∧
    ∀ tr ∈ (u.context p).transition,
      (tr.phase = .wait → tr.cause.forced = false → heldConsistent u → reservedInTransition u →
        actedOnInWait sel u t p (u.context p) tr .byPreference .follow ∧
        ((u.port p).notices.length ≤ 4 → holdsNotice t p fun n => decide (n =
          if abandonedIntoFault sel u p tr then routeNotice t.blocks p .fault none
          else routeNotice t.blocks p sel.followCause (some sel.answer)))) ∧
      (¬ (tr.phase = .wait ∧ tr.cause.forced = false) →
        t.blocks = (u.withContext p { u.context p with slot := some ⟨.byPreference, .latched, .follow⟩ }).blocks ∧
        ((u.port p).notices.length ≤ 4 → holdsNotice t p fun n =>
          decide (n = routeNotice t.blocks p .follow (some (.accepted .latched)))))

/-- What a change of the band entry of `p` hands on within the event, in this order (R25 to R27): the re-check with its waiting
walk, which leaves `u`, and then the FOLLOW request where R26 raises one, with walks of its own (notes/assumptions/9.md). The
links are told of the withdrawal, with the conflicting position of R152, and of the walk. -/
abbrev entryChanged (s t : State) (p : Pos) : Prop :=
  ∃ u : State, u.blocks.classifier = t.blocks.classifier ∧ rechecked s u p ∧
    (followsChange s p (t.classRecord p).entry → followRaised u t p) ∧
    (¬ followsChange s p (t.classRecord p).entry → t.blocks = u.blocks ∧ (gateConsistent s → waitersTold s t)) ∧
    ((s.key p).state = .on → ∀ (r : Reason) (c : Option Pos),
      recheckFinds s.bank { s.blocks with classifier := t.blocks.classifier } p r c → t.key p = u.key p ∧
        ((s.port p).notices.length ≤ 4 → holdsNotice t p fun n => decide (n = t.keyTold p .withdrawn c)))

/-! ### A latch reaching the routes, and the end of CHECK (R58, R79) -/

/-- A latch on coil `c` faults position `p` (R58): it is ROUTED over the coil, in no transition. -/
abbrev faultedBy (s : State) (p : Pos) (c : Coil) : Prop :=
  claimsCoil s p c ∧ (s.context p).state = .routed ∧ (s.context p).transition = none

/-- Every ROUTED position over coil `c`, in no transition, is in `t` FAULTED with a fault release in WAIT, withdrawn if ON, its HELD
request LATCHED and out of the held list (R53), and its link is told (R58); one waiting walk is made once they all are (R145). -/
abbrev routesFaulted (s t : State) (c : Coil) : Prop :=
  ∀ p : Pos, faultedBy s p c →
    startExamined s t p ∧ (gateConsistent s → walked s t) ∧
    (∃ tr ∈ (t.context p).transition, tr =
        waitRecord s.bank (s.context p).antenna none .release .fault .routed tr.due ∧
      t.context p = { s.context p with
        state := .faulted, mark := true, transition := some tr
        slot := (s.context p).slot.map fun r => { r with status := .latched } }) ∧
    (heldConsistent s → p ∉ t.held) ∧ t.claims p = s.claims p ∧
    (∀ a ∈ (s.context p).antenna, (t.antenna a).holds.get p = true) ∧
    ((s.key p).state = .on → withdrawnAs s.bank s t p .fault none) ∧
    ((s.key p).state ≠ .on → p ∉ s.waiting → t.key p = s.key p) ∧
    ((s.port p).notices.length ≤ 4 → holdsNotice t p fun n => n.isRoute p .fault)

/-- Position `p` is in CHECK over coil `c`, and `c` is the last blanked coil it waits on: its CHECK ends with the blank of `c`,
unless the coil trips there (R79). -/
abbrev checkDone (s : State) (p : Pos) (c : Coil) : Prop :=
  claimsCoil s p c ∧ (∃ tr ∈ (s.context p).transition, tr.phase = .check) ∧
    ∀ k ∈ (s.claims p).effective, k.coil = c ∨ (s.coil k.coil).blank = none

/-- The CHECK of position `p` ends with the blank of coil `c`. -/
abbrev checkEndsHere (s : State) (p : Pos) (c : Coil) : Prop := checkDone s p c ∧ ¬ latchesShort s c

/-- It fails there (R80): a coil of its route is latched, or latches here. -/
abbrev checkFailsHere (s : State) (p : Pos) (c : Coil) : Prop :=
  checkEndsHere s p c ∧ (latchesOpen s c ∨ ∃ k ∈ (s.claims p).effective, (s.sense k.coil).latch ≠ .none)

/-- The positions that a blank expiry of coil `c` acts on of itself: those that its latch faults, and those whose CHECK ends. -/
abbrev actedOnAtBlank (s : State) (c : Coil) (p : Pos) : Prop :=
  ((latchesOpen s c ∨ latchesShort s c) ∧ faultedBy s p c) ∨ checkEndsHere s p c

/-- A latch on coil `c` owes a held walk (R53, R116): it moves a HELD request to LATCHED. -/
abbrev walkAtLatch (s : State) (c : Coil) : Prop := ∃ p : Pos, faultedBy s p c ∧ p ∈ s.held

/-- A blank expiry of coil `c` owes a held walk (R54, R81): for its latch, or for a CHECK that fails. -/
abbrev walkAtBlank (s : State) (c : Coil) : Prop :=
  ((latchesOpen s c ∨ latchesShort s c) ∧ walkAtLatch s c) ∨ ∃ p : Pos, checkFailsHere s p c

/-- The held requests after an event that acts on the positions `own` and makes a held walk exactly when `walk` holds. -/
abbrev heldAfter (s t : State) (own : Pos → Prop) (walk : Prop) [DecidablePred own] : Prop :=
  heldConsistent s → reservedInTransition s →
    (walk → heldWalkedBy s t fun q => decide (own q)) ∧
    (¬ walk → t.held.filter (fun q => decide (¬ own q)) = s.held.filter fun q => decide (¬ own q))

/-- The blocks as the latched request of position `p` finds them when several transitions end in the event that leaves `t` (R51,
R81): without what those of the higher positions among `ends` reserve after it. -/
def State.atLatched (t : State) (p : Pos) (ends : Pos → Bool) : Blocks :=
  let later (q : Pos) : Bool := ends q && decide (p < q)
  let places (a : Ant) : List Occupant :=
    (t.antenna a).occupants.filter fun o => !(decide (o.role = .reserving) && later o.pos)
  let antennas : Vector AntennaRecord 16 := Vector.ofFn fun a => { t.antenna a with occupants := places a }
  let claims : Vector ClaimLists 6 := Vector.ofFn fun q =>
    if later q then { t.claims q with reserved := [] } else t.claims q
  { t.blocks with
    routes := { t.blocks.routes with antennas := antennas }
    image := { t.blocks.image with claims := claims } }

/-- Every CHECK over coil `c` waits on another coil too, which is still blanked: none ends with the blank of `c` (R79). -/
abbrev checksStay (s : State) (c : Coil) : Prop :=
  ∀ p : Pos, claimsCoil s p c → ∀ tr ∈ (s.context p).transition, tr.phase = .check →
    ∃ k ∈ (s.claims p).effective, k.coil ≠ c ∧ (s.coil k.coil).blank.isSome = true

/-! ### Records and checks of the tables (R3 to R19, R192) -/

/-- The byte at place `i` of a record, as a number. -/
abbrev byteAt (r : List Byte) (i : Nat) : Nat := (r.getD i 0).toNat

/-- The two-byte quantity at place `i` of a record, high byte first (R189). -/
abbrev pairAt (r : List Byte) (i : Nat) : Nat := byteAt r i * 256 + byteAt r (i + 1)

/-- The index lies in the range of the table (Table 1-1). -/
def indexIn (t : TableId) (i : Nat) : Prop :=
  match t with
  | .positionTable => 1 ≤ i ∧ i ≤ 6
  | .bandPlan => 1 ≤ i ∧ i ≤ 24
  | .bandAttributes => 1 ≤ i ∧ i ≤ 12
  | .preferenceLists => 1 ≤ i ∧ i ≤ 16
  | .antennaTable => 1 ≤ i ∧ i ≤ 16
  | .pathTable => 1 ≤ i ∧ i ≤ 96
  | .lockoutTable => 1 ≤ i ∧ i ≤ 16
  | .lineCodeMap => i ≤ 15
  | .coilGroups => i ≤ 7
  | .coilTable => i ≤ 63
  | .timingSet => i = 1
  | .diagnosticSetup => i = 1

/-- The record has the length R192 gives and every field passes the write-time checks of its table (R3, R4, R5, R7 to R10, R12, R14
to R18). Of a path that is not defined nothing more is checked (R12), and of one that is, the counted claim bytes (the
model's reading and choice, notes/assumptions/15.md and 23.md). -/
def recordPasses (t : TableId) (r : List Byte) : Prop :=
  match t with
  | .positionTable => r.length = 3 ∧ byteAt r 0 ≤ 1 ∧ byteAt r 1 ≤ 1 ∧ byteAt r 2 ≤ 1
  | .bandPlan => r.length = 7 ∧ byteAt r 0 ≤ 1 ∧ pairAt r 1 ≤ pairAt r 3 ∧ (1 ≤ byteAt r 5 ∧ byteAt r 5 ≤ 12) ∧
      1 ≤ byteAt r 6 ∧ byteAt r 6 ≤ 16
  | .bandAttributes => r.length = 1 ∧ byteAt r 0 ≤ 1
  | .preferenceLists => r.length = 5 ∧ byteAt r 0 ≤ 4 ∧
      ∀ j, j < byteAt r 0 → ∀ i, i < j → byteAt r (i + 1) ≠ byteAt r (j + 1)
  | .antennaTable => r.length = 5 ∧ byteAt r 0 ≤ 1 ∧ byteAt r 1 < 16 ∧ byteAt r 3 ≤ 1 ∧ byteAt r 4 ≤ 4
  | .pathTable => r.length = 8 ∧ (byteAt r 0 = 0 ∨ byteAt r 0 = 1 ∧ (1 ≤ byteAt r 1 ∧ byteAt r 1 ≤ 6) ∧
      ∀ j, j < byteAt r 1 → byteAt r (j + 2) / 64 % 2 = 0)
  | .lockoutTable => r.length = 3 ∧ byteAt r 0 ≤ 1 ∧ (1 ≤ byteAt r 1 ∧ byteAt r 1 ≤ 12) ∧ 1 ≤ byteAt r 2 ∧ byteAt r 2 ≤ 12
  | .lineCodeMap => r.length = 1
  | .coilGroups => r.length = 1 ∧ byteAt r 0 ≤ 1
  | .coilTable => r.length = 4 ∧ byteAt r 0 ≤ 1 ∧ byteAt r 1 ≤ 1 ∧ byteAt r 2 ≤ 1 ∧ byteAt r 3 ≤ 3
  | .timingSet => r.length = 10 ∧ (1 ≤ byteAt r 0 ∧ byteAt r 0 ≤ 100) ∧ (1 ≤ byteAt r 1 ∧ byteAt r 1 ≤ 100) ∧
      byteAt r 2 ∈ [2, 4, 6, 8, 10, 15, 20, 30] ∧ (pairAt r 3 ≤ 2000 ∧ pairAt r 3 % 10 = 0) ∧
      (pairAt r 5 = 0 ∨ 100 ≤ pairAt r 5 ∧ pairAt r 5 ≤ 25500 ∧ pairAt r 5 % 100 = 0) ∧
      (1 ≤ byteAt r 7 ∧ byteAt r 7 ≤ 60) ∧ (1 ≤ byteAt r 8 ∧ byteAt r 8 ≤ 120) ∧
      5 ≤ byteAt r 9 ∧ byteAt r 9 ≤ 250 ∧ byteAt r 9 % 5 = 0
  | .diagnosticSetup => r.length = 10 ∧ (5 ≤ byteAt r 0 ∧ byteAt r 0 ≤ 100 ∧ byteAt r 0 % 5 = 0) ∧
      (50 ≤ pairAt r 1 ∧ pairAt r 1 ≤ 1000 ∧ pairAt r 1 % 10 = 0) ∧
      (50 ≤ pairAt r 3 ∧ pairAt r 3 ≤ 1000 ∧ pairAt r 3 % 10 = 0) ∧ (100 ≤ pairAt r 5 ∧ pairAt r 5 ≤ 260) ∧
      (90 ≤ pairAt r 7 ∧ pairAt r 7 ≤ 250) ∧ byteAt r 9 < 32

/-- Entry `i` of table `t` holds the fields that record `r` carries (R192). -/
def recordStored (b : Bank) (t : TableId) (i : Nat) (r : List Byte) : Prop :=
  match t with
  | .positionTable => ∀ k : Pos, i = k.val + 1 → b.positions.get k = ⟨decide (byteAt r 0 = 1),
      if byteAt r 1 = 1 then .lines else .link, if byteAt r 2 = 1 then .manual else .follow⟩
  | .bandPlan => ∀ k : PlanIx, i = k.val + 1 → (b.plan.get k).valid = decide (byteAt r 0 = 1) ∧
      (b.plan.get k).low = pairAt r 1 ∧ (b.plan.get k).high = pairAt r 3 ∧ (b.plan.get k).band.val + 1 = byteAt r 5 ∧
      (b.plan.get k).list.val + 1 = byteAt r 6
  | .bandAttributes => ∀ k : Band, i = k.val + 1 → b.attributes.get k = decide (byteAt r 0 = 1)
  | .preferenceLists => ∀ k : ListIx, i = k.val + 1 →
      b.preferences.get k = (List.range (byteAt r 0)).map fun j => byteAt r (j + 1)
  | .antennaTable => ∀ k : Ant, i = k.val + 1 → (b.antennas.get k).enabled = decide (byteAt r 0 = 1) ∧
      (b.antennas.get k).coverage.toNat = pairAt r 1 ∧
      (b.antennas.get k).share = (if byteAt r 3 = 1 then .split else .exclusive) ∧ (b.antennas.get k).branchLimit = byteAt r 4
  | .pathTable => ∀ (p : Pos) (a : Ant), i = p.val * 16 + a.val + 1 → (path b p a).defined = decide (byteAt r 0 = 1) ∧
      (path b p a).claims.map (fun k => (k.coil.val, k.on)) = if byteAt r 0 = 1 then
        (List.range (byteAt r 1)).map fun j => (byteAt r (j + 2) % 64, decide (128 ≤ byteAt r (j + 2))) else []
  | .lockoutTable => ∀ k : LockIx, i = k.val + 1 → (b.lockouts.get k).valid = decide (byteAt r 0 = 1) ∧
      (b.lockouts.get k).bandA.val + 1 = byteAt r 1 ∧ (b.lockouts.get k).bandB.val + 1 = byteAt r 2
  | .lineCodeMap => ∀ k : LineCode, i = k.val →
      b.lineCodes.get k = if byteAt r 0 = 0 then none else some (byteAt r 0)
  | .coilGroups => ∀ g : Group, i = g.val → b.groups.get g = if byteAt r 0 = 1 then .exclusive else .shared
  | .coilTable => ∀ c : Coil, i = c.val → b.coils.get c = ⟨decide (byteAt r 0 = 1), decide (byteAt r 1 = 1),
      if byteAt r 2 = 1 then .t1 else .t0, if byteAt r 3 = 0 then .off else if byteAt r 3 = 1 then .on
        else if byteAt r 3 = 2 then .sa else .sb⟩
  | .timingSet => b.timing = ⟨byteAt r 0, byteAt r 1, byteAt r 2, pairAt r 3, pairAt r 5, byteAt r 7, byteAt r 8, byteAt r 9⟩
  | .diagnosticSetup => b.diagnostics = ⟨byteAt r 0, pairAt r 1, pairAt r 3, pairAt r 5, pairAt r 7,
      ⟨decide (byteAt r 9 % 2 = 1), decide (byteAt r 9 / 2 % 2 = 1), decide (byteAt r 9 / 4 % 2 = 1),
        decide (byteAt r 9 / 8 % 2 = 1), decide (byteAt r 9 / 16 % 2 = 1)⟩⟩

/-- The index `i` of table `t` fails consistency check `check` of R19, 1 to 6. -/
def offends (b : Bank) (check : Nat) (t : TableId) (i : Nat) : Prop :=
  (check = 1 ∧ t = .preferenceLists ∧ ∃ k : ListIx, i = k.val + 1 ∧ ∃ n ∈ b.preferences.get k, n < 1 ∨ 16 < n) ∨
  (check = 2 ∧ t = .antennaTable ∧ ∃ a : Ant, i = a.val + 1 ∧ (b.antennas.get a).share = .split ∧
    ((b.antennas.get a).branchLimit < 2 ∨ 4 < (b.antennas.get a).branchLimit)) ∨
  (check = 3 ∧ t = .pathTable ∧ ∃ (p : Pos) (a : Ant), i = p.val * 16 + a.val + 1 ∧ (path b p a).defined = true ∧
    ¬ ((path b p a).claims.map Claim.coil).Nodup) ∨
  (check = 4 ∧ t = .diagnosticSetup ∧ i = 1 ∧ b.diagnostics.supplyLow ≤ b.diagnostics.supplyFail) ∨
  (check = 5 ∧ t = .diagnosticSetup ∧ i = 1 ∧
    (b.diagnostics.t0 ≤ b.diagnostics.openLimit ∨ b.diagnostics.t1 ≤ b.diagnostics.openLimit)) ∨
  (check = 6 ∧ t = .lineCodeMap ∧ ∃ k : LineCode, i = k.val ∧ ∃ n ∈ b.lineCodes.get k, n < 1 ∨ 24 < n)

/-! ### What a commit apply leaves (R160 to R166); `s` is the state it finds, whose Staging bank comes into force -/

/-- The most unmarked holders and reservations an antenna may have (R45, R162). -/
def antennaLimit (e : AntennaEntry) : Nat := if e.share = .exclusive then 1 else e.branchLimit

/-- Once step A is over the position stands ROUTED (R160): it was ROUTED, or its transition in WAIT is abandoned back to ROUTED over
coils without a latch. -/
abbrev standsRouted (s : State) (p : Pos) : Prop :=
  ((s.context p).state = .routed ∧ (s.context p).transition = none) ∨
    ∃ tr ∈ (s.context p).transition, tr.cause.forced = false ∧ tr.start = .routed ∧
      ∀ k ∈ (s.claims p).effective, (s.sense k.coil).latch = .none

/-- The route of the position is invalid against the new bank (R161). -/
abbrev routeLost (s : State) (p : Pos) : Prop :=
  (s.banks.staging.positions.get p).enabled = false ∨ ∀ a ∈ (s.context p).antenna,
    (s.banks.staging.antennas.get a).enabled = false ∨ (path s.banks.staging p a).defined = false ∨
      (∃ k ∈ (path s.banks.staging p a).claims, k ∉ (s.claims p).effective) ∨
      ∃ k ∈ (s.claims p).effective, k ∉ (path s.banks.staging p a).claims

/-- The position is trimmed (R162): as many valid routes as its antenna may keep stand before it in the holder list. -/
abbrev routeTrimmed (s : State) (p : Pos) : Prop :=
  ∃ a ∈ (s.context p).antenna, antennaLimit (s.banks.staging.antennas.get a) ≤
    (((s.antenna a).holders.takeWhile fun q => decide (q ≠ p)).filter fun q =>
      decide (standsRouted s q ∧ ¬ routeLost s q)).length

/-- The apply force-releases the position in step B or C. -/
abbrev releasedAtApply (s : State) (p : Pos) : Prop := standsRouted s p ∧ (routeLost s p ∨ routeTrimmed s p)

/-- Step A (R160) for position `p`: its mode, and the positions that the new bank disables or keeps out of DISABLED. -/
abbrev enablementApplied (s t : State) (p : Pos) : Prop :=
  (t.context p).mode = (if (s.banks.staging.positions.get p).enabled = true ∧ (s.bank.positions.get p).enabled = false
    then (s.banks.staging.positions.get p).defaultMode else (s.context p).mode) ∧
  ((s.banks.staging.positions.get p).enabled = true → (t.context p).state ≠ .disabled) ∧
  ((s.banks.staging.positions.get p).enabled = false →
    ((s.context p).transition = none → (s.context p).state ≠ .routed →
      t.context p = { s.context p with state := .disabled, slot := none }) ∧
    ∀ tr ∈ (s.context p).transition,
      (tr.cause.forced = false → tr.start ≠ .routed →
        t.context p = { s.context p with state := .disabled, transition := none, slot := none }) ∧
      (tr.cause.forced = true → (t.context p).state = .switching ∧ (t.context p).slot = (s.context p).slot ∧
        ∃ tr' ∈ (t.context p).transition, tr' = { tr with cause := .commit, due := tr'.due }))

/-- Steps B and C (R161, R162) for position `p`: a forced release with cause COMMIT, of an ON position with its permit withdrawn,
for the positions they release and for no other that stands ROUTED. -/
abbrev releasesApplied (s t : State) (p : Pos) : Prop :=
  (releasedAtApply s p →
    (t.context p).state = .switching ∧ (t.context p).mark = true ∧ startExamined s t p ∧
    (∃ tr ∈ (t.context p).transition, tr =
      waitRecord s.banks.staging (s.context p).antenna none .release .commit .routed tr.due) ∧
    ((s.key p).state = .on → withdrawnAs s.banks.staging s t p .commit none) ∧
    ((s.port p).notices.length ≤ 4 → holdsNotice t p fun n => n.isRoute p .commit || n.isRoute p .follow)) ∧
  (standsRouted s p → ¬ releasedAtApply s p → ∀ tr ∈ (t.context p).transition, tr.cause ≠ .commit)

/-- Step D (R95, R163) for group `g`: SHARED at once; EXCLUSIVE at once, or awaited while two positions claim one of its coils. -/
abbrev groupApplied (s t : State) (g : Group) : Prop :=
  t.group g = if s.banks.staging.groups.get g = .shared then ⟨.shared, false⟩
    else if ∀ c : Coil, groupOf c = g → ∀ p q : Pos, claimsCoil s p c → claimsCoil s q c → p = q then ⟨.exclusive, false⟩
    else ⟨.shared, true⟩

/-- Two positions conflict on single-signal or lockout under the bank and the bands of `t` (R16, R133). -/
abbrev conflictOnAir (t : State) (p q : Pos) : Prop :=
  singleSignalConflict t.bank t.blocks p q = true ∨ lockoutConflict t.bank t.blocks p q = true

/-- Position `p` is ON and keeps its route at the apply: step D re-checks it (R147). -/
abbrev recheckedAtApply (s : State) (p : Pos) : Prop := (s.key p).state = .on ∧ ¬ releasedAtApply s p

/-- Step D (R2, R146, R147, R163) for an ON position that keeps its route: withdrawn with NO_BAND or MISMATCH; withdrawn for a
conflict with an ON position when both bands stand, and then the other one too; and, when nothing is found, ON as before while it
stays ROUTED, or withdrawn with SWITCHING or FAULT by step E or F (R58, R68, R144). Where every band of an ON position stands, the
reason and the conflicting position told are those of its own first failing test. -/
abbrev permitApplied (s t : State) (p : Pos) : Prop :=
  recheckedAtApply s p →
    (bandOf t.bank t.blocks p = none → withdrawnAs s.banks.staging s t p .noBand none) ∧
    ∀ n ∈ bandOf t.bank t.blocks p, ∀ a ∈ (s.context p).antenna,
      (covers t.bank a n = false → withdrawnAs s.banks.staging s t p .mismatch none) ∧
      (covers t.bank a n = true →
        (∀ q : Pos, q ≠ p → recheckedAtApply s q → conflictOnAir t p q →
          (t.classRecord p).entry = (s.classRecord p).entry → (t.classRecord q).entry = (s.classRecord q).entry →
          ∃ c : Pos, withdrawnAs s.banks.staging s t p .singleSignal (some c) ∨
            withdrawnAs s.banks.staging s t p .lockout (some c)) ∧
        ((∀ q : Pos, recheckedAtApply s q → (t.classRecord q).entry = (s.classRecord q).entry) →
          (∀ q : Pos, lowest (fun q : Pos => q ≠ p ∧ recheckedAtApply s q ∧
              singleSignalConflict t.bank t.blocks p q = true) q →
            withdrawnAs s.banks.staging s t p .singleSignal (some q)) ∧
          ((∀ q : Pos, q ≠ p → recheckedAtApply s q → singleSignalConflict t.bank t.blocks p q = false) →
            ∀ q : Pos, lowest (fun q : Pos => q ≠ p ∧ recheckedAtApply s q ∧
                lockoutConflict t.bank t.blocks p q = true) q →
              withdrawnAs s.banks.staging s t p .lockout (some q))) ∧
        ((∀ q : Pos, q ≠ p → (s.key q).state = .on → ¬ conflictOnAir t p q) →
          ((t.context p).state = .routed → t.key p = s.key p) ∧
          ((t.context p).state = .switching → withdrawnAs s.banks.staging s t p .switching none) ∧
          ((t.context p).state = .faulted → (t.key p).state = .barred .fault ∧ (t.key p).permit = false)))

/-- The Band Classifier raises a FOLLOW request for the position at the apply (R29, step 5). -/
abbrev followsAtApply (s t : State) (p : Pos) : Prop :=
  (t.context p).mode = .follow ∧ ∃ e ∈ (t.classRecord p).entry, (s.bank.positions.get p).enabled = false ∨
    ∀ o ∈ (s.classRecord p).entry, (s.bank.plan.get o).band ≠ (s.banks.staging.plan.get e).band ∨
      (s.bank.plan.get o).list ≠ (s.banks.staging.plan.get e).list

/-- The context of the position as step E finds it, its slot apart: a transition in WAIT is abandoned, a newly enabled position is
IDLE, and the mode is the one step A set (R160). -/
abbrev contextAtE (s t : State) (p : Pos) : Context :=
  { s.context p with
    state := (s.context p).transition.elim
      (if (s.context p).state = .disabled then .idle else (s.context p).state) Transition.start
    transition := none, mode := (t.context p).mode }

/-- Step E (R164) for an enabled position of a NORMAL station that no step releases or faults: its FOLLOW request, or else the
request kept from its abandoned transition, comes to what selection gives against the bank, the claims and the antennas of the
apply; with neither, and nothing pending, its context stands. -/
abbrev reselected (s t : State) (p : Pos) : Prop :=
  s.station.mode = .normal → (s.banks.staging.positions.get p).enabled = true → ¬ releasedAtApply s p →
  (∀ tr ∈ (s.context p).transition, tr.cause.forced = false) →
  (∀ k ∈ (s.claims p).effective, (t.sense k.coil).latch = .none) →
    (followsAtApply s t p →
      actedOn (selection t.view t.blocks p .byPreference) s.banks.staging t p
        { contextAtE s t p with slot := none } .byPreference .follow ∧ startExamined s t p ∧
      ((s.port p).notices.length ≤ 4 → holdsNotice t p fun n => n.isRoute p .follow || n.isRoute p .refused)) ∧
    (¬ followsAtApply s t p →
      (∀ tr ∈ (s.context p).transition,
        actedOn (selection t.view t.blocks p tr.kind) s.banks.staging t p (contextAtE s t p) tr.kind tr.cause ∧
        startExamined s t p ∧
        ((∀ a, selection t.view t.blocks p tr.kind ≠ .target a) → (s.port p).notices.length ≤ 4 →
          holdsNotice t p fun n => n.isRoute p .commit)) ∧
      ((s.context p).transition = none → (s.context p).slot = none → t.context p = contextAtE s t p))

/-- Step F (R97, R120, R165) for coil `c`, whose record is `base` once the recomputes of Table 5-2 are made: those of an unclaimed
coil whose rest value changed under ROUTING, and of a coil whose fail-safe value changed under SAFE. It is then classified and
examined once, and a latch is made as R113 and R114 give. -/
abbrev coilApplied (s t : State) (c : Coil) : Prop :=
  ∀ moved : Bool, (moved = true ↔ (s.source = .routing ∧ (∀ p : Pos, ¬ claimsCoil s p c) ∧
        (s.bank.coils.get c).rest ≠ (s.banks.staging.coils.get c).rest) ∨
      (s.source = .safe ∧ (s.bank.coils.get c).failSafe ≠ (s.banks.staging.coils.get c).failSafe)) →
    ∀ x, x = (!(s.coil c).trip && (if s.source = .safe
      then (s.banks.staging.coils.get c).failSafe.level s.pins.sa s.pins.sb else (s.banks.staging.coils.get c).rest)) →
    ∀ base, base = (if moved = true ∧ x ≠ (s.coil c).commanded then
      { s.coil c with commanded := x, drive := x, blank := some s.banks.staging.timing.blankMs } else s.coil c) →
    ∀ judgedNow, judgedNow = (base.drive && (s.banks.staging.coils.get c).diagnostics && base.blank.isNone) →
    (t.sense c).latch = (if judgedNow = true ∧ (t.sense c).sense = .low ∧ (s.sense c).latch = .none then .open
      else if judgedNow = true ∧ (t.sense c).sense = .high then .short else (s.sense c).latch) ∧
    t.coil c = if judgedNow = true ∧ (t.sense c).sense = .high ∧ (s.sense c).latch ≠ .short then
      { base with trip := true, commanded := false, drive := false, blank := some s.banks.staging.timing.blankMs }
      else base

/-- Step F for the routes, and step G (R165, R166): no position stays ROUTED over a coil that latched here; every transition that is
quiet is due; no HELD request would find a target; the waiting list is walked against the new tables (R147); every link is told of
each latch and of a change of supply level, unless masked (R120, R125, R165), and the BANK NOTICE carries the issuing link and the
number released. What a link is told is stated while its notices and the coils that latched are four at most. -/
abbrev closeApplied (s t : State) : Prop :=
  (∀ (c : Coil) (p : Pos), (t.sense c).latch ≠ (s.sense c).latch → claimsCoil s p c → (t.context p).state ≠ .routed) ∧
  (∀ p : Pos, ∀ tr ∈ (t.context p).transition, tr.phase = .wait ∧ (quietCondition t p tr → tr.due = true)) ∧
  (∀ q ∈ t.held, ∀ r ∈ (t.context q).slot, selection t.view t.blocks q r.kind = .held) ∧
  (gateConsistent s → waitingWalked s t ∧ ((∀ c : Coil, (t.sense c).latch = (s.sense c).latch) → waitersTold s t)) ∧
  ∀ q : Pos, (s.port q).notices.length + (coils.filter fun c => decide ((t.sense c).latch ≠ (s.sense c).latch)).length ≤ 4 →
    (∀ c : Coil, (t.sense c).latch ≠ (s.sense c).latch →
      (if (t.sense c).latch = .open then s.banks.staging.diagnostics.mask.openCoil
        else s.banks.staging.diagnostics.mask.short) = false → holdsNotice t q fun n => n.isCoilFault c (t.sense c).latch) ∧
    (t.supply.level ≠ s.supply.level →
      ∀ n ∈ levelNotice s.banks.staging.diagnostics.mask (some s.supply.level) t.supply.level s.supply.measured,
        holdsNotice t q fun m => decide (m = n)) ∧
    holdsNotice t q fun n => decide (n = .bank true s.banks.issuer
      (positions.filter fun p => decide (releasedAtApply s p)).length)

/-! ### Sets in the replies (R189) -/

/-- A position set: bit p − 1 for position p. -/
def posSetOf (f : Pos → Bool) : Byte :=
  byte (flag (f 0) + 2 * flag (f 1) + 4 * flag (f 2) + 8 * flag (f 3) + 16 * flag (f 4) + 32 * flag (f 5))

/-- A coil set: eight bytes, of which byte i holds coils 8i to 8i + 7, the lowest in bit 0. -/
def coilSetOf (f : Coil → Bool) : List Byte :=
  (List.range 8).map fun i =>
    byte ((coils.filter fun c => f c && decide (c.val / 8 = i)).map fun c => 2 ^ (c.val % 8)).sum

/-! ### Fail-safe entry and resets -/

/-- The key record of a position after fail-safe entry (R148): an ON position loses its permit and starts its tail, an ON or
WAITING position is BARRED with reason FAILSAFE, and every other stays as it is. -/
def KeyRecord.failSafe (k : KeyRecord) (tailMs : Nat) : KeyRecord :=
  match k.state with
  | .on => { k with state := .barred .failsafe, permit := false, tail := if tailMs = 0 then k.tail else some tailMs }
  | .waiting _ => { k with state := .barred .failsafe, keyWait := none }
  | .up => k
  | .tail => k
  | .barred _ => k

/-- The blocks of `t` are those of `s` after fail-safe entry (R64, R95, R97, R100, R148, R171): every route, reservation, hold,
claim, pending request and permit is gone, histories and modes are kept, every group is settled, and the coils freeze until the
last tail ends, or go to their fail-safe values at once when no tail runs, each change starting its blank. -/
abbrev failSafeEntered (s t : State) : Prop :=
  (∀ p : Pos, t.context p = ⟨if (s.bank.positions.get p).enabled then .idle else .disabled, none, none, none,
    (s.context p).mode, (s.context p).history, false⟩) ∧
  (∀ a : Ant, (t.antenna a).occupants = [] ∧ ∀ p : Pos, (t.antenna a).holds.get p = false) ∧ t.held = [] ∧
  (∀ p : Pos, t.claims p = ⟨[], []⟩) ∧
  (∀ p : Pos, t.key p = (s.key p).failSafe s.bank.timing.tailMs) ∧ t.waiting = [] ∧
  (if ∃ p : Pos, (t.key p).tail.isSome = true then
    t.source = .frozen ∧ ∀ c : Coil, t.coil c = { s.coil c with frozen := (s.coil c).commanded }
  else
    t.source = .safe ∧ ∀ c : Coil,
      (t.coil c).commanded = (!(s.coil c).trip && (s.bank.coils.get c).failSafe.level s.pins.sa s.pins.sb) ∧
        recomputed (s.withCoil c { s.coil c with frozen := (s.coil c).commanded }) t c) ∧
  (∀ g : Group, t.group g = if (s.group g).awaited = true then ⟨.exclusive, false⟩ else s.group g) ∧
  t.blocks.classifier = s.blocks.classifier ∧ t.blocks.monitor = s.blocks.monitor

/-- The FOLLOW request that RESUME raises for position `p`, if it raises one (R30, R62, R174): `u` is the state as the request
finds it, and `t` as it leaves it. Nothing but the routes, the claims and the notices of `p` moves, and no walk is made. -/
abbrev followAtResume (u t : State) (p : Pos) : Prop :=
  ((u.bank.positions.get p).enabled = true → (u.context p).mode = .follow → (u.classRecord p).entry ≠ none →
    followRaised u t p ∧ heldConsistent u ∧ reservedInTransition u ∧ (u.context p).transition = none ∧
    (u.context p).slot = none ∧
    t = { u with
      blocks := { u.blocks with routes := t.blocks.routes, image := { u.blocks.image with claims := t.blocks.image.claims } }
      ports := t.ports } ∧
    (∀ q : Pos, q ≠ p → t.context q = u.context q ∧ t.claims q = u.claims q ∧ t.port q = u.port q) ∧
    t.held = if selection u.view u.blocks p .byPreference = .held then u.held ++ [p] else u.held) ∧
  (¬ ((u.bank.positions.get p).enabled = true ∧ (u.context p).mode = .follow ∧ (u.classRecord p).entry ≠ none) → t = u)

/-- The part after a reset of this kind that leaves the stored image `image` (R178): every register at its reset value, start-up
not begun. The commands that wait, the input levels, the sensed currents and the measured voltage are inputs and are kept;
what the supply monitor holds until its first conversion is `supply`. -/
def State.afterReset (s : State) (cause : StartCause) (image : StoredImage) (supply : Supply) : State :=
  { State.reset with
    pending := s.pending
    pins := s.pins
    startUp := false
    rate := s.rate
    station := { State.reset.station with startCause := cause }
    supply := supply
    store := ⟨image, .idle⟩
    blocks := { State.reset.blocks with monitor := Vector.ofFn fun c => ⟨(s.sense c).current, .normal, .none⟩ } }

/-- The stored image after a reset: a store that the reset ends leaves an image that does not check (R176). -/
def State.imageAfterReset (s : State) : StoredImage :=
  match s.store.state with
  | .idle => s.store.image
  | .writing _ _ => .torn

/-- A frame in progress is discarded (R183): HUNT, gap timer stopped, and one more on a count that stays at 255. -/
def Port.frameDiscarded (pt : Port) : Port :=
  { pt with framer := .hunt, gapTimer := none, discarded := min (pt.discarded + 1) 255 }

/-- The commands of a list run one after another. -/
def execAll : List Instr → State → Host.Outcome State Fault Refusal
  | [], s => .next s
  | c :: rest, s =>
    match exec c s with
    | .next t => execAll rest t
    | .fault r => .fault r
    | .refused r => .refused r

/-- The length in bytes of a request's body (R195, R196, R197, R199), where it is one fixed length and is checked first. -/
def requestLength (cls : Byte) : Option Nat :=
  match cls.toNat with
  | 0x01 => some 2
  | 0x02 => some 1
  | 0x03 => some 0
  | 0x04 => some 0
  | 0x05 => some 1
  | 0x07 => some 3
  | 0x09 => some 1
  | 0x0A => some 0
  | 0x0B => some 0
  | 0x0C => some 0
  | 0x0D => some 1
  | 0x0E => some 0
  | 0x0F => some 0
  | 0x10 => some 0
  | 0x11 => some 5
  | _ => none

/-! ### Invariants -/

/-- The registers of the station, the commit unit and the store agree: causes exactly in FAILSAFE (R168), issuing link and timer
exactly while PENDING, apply due only then (R154), no image that checks while a store runs (R176), and in STARTING no commit and the
empty contents, against which the supply is classified (R123; notes/assumptions/5.md). -/
abbrev registersAgree (s : State) : Prop :=
  (s.station.mode = .failsafe ↔ s.station.causes ≠ CauseSet.empty) ∧
    (s.banks.pending = s.banks.issuer.isSome) ∧ (s.banks.pending = s.banks.timer.isSome) ∧
    (s.banks.due = true → s.banks.pending = true) ∧ (s.store.state ≠ .idle → s.store.image = .torn) ∧
    (s.station.mode = .starting → s.banks.pending = false ∧ s.bank = Bank.empty)

/-- The queues, counters and histories keep their limits (R56, R183, R185, R188). -/
abbrev queuesBounded (s : State) : Prop :=
  (∀ lp : Pos, (s.port lp).inbound.length ≤ 4 ∧ (s.port lp).notices.length ≤ 8 ∧ (s.port lp).discarded ≤ 255) ∧
    ∀ p : Pos, (s.context p).history.length ≤ 8

/-- The drive follows the commanded value, a tripped coil is OFF, and a coil is tripped exactly while its latch holds SHORT (R104,
R105). -/
abbrev driversFollow (s : State) : Prop :=
  ∀ c : Coil, (s.coil c).drive = (s.coil c).commanded ∧ ((s.coil c).trip = true → (s.coil c).commanded = false) ∧
    ((s.coil c).trip = true ↔ (s.sense c).latch = .short)

/-- Every commanded value is the value R96 derives. A position with no current antenna has no effective claim, nor has one in
BREAK, and a transition in WAIT leaves the current antenna. -/
abbrev commandedDerived (s : State) : Prop :=
  (∀ c : Coil, (s.coil c).commanded = derivedValue s.view s.blocks c) ∧
    ∀ p : Pos, ((s.context p).antenna = none → (s.claims p).effective = []) ∧
      ∀ tr ∈ (s.context p).transition, (tr.phase = .wait → tr.old = (s.context p).antenna) ∧
        (tr.phase = .brk → (s.claims p).effective = [])

/-- Outside NORMAL no TP is asserted, no position holds or reserves an antenna, and the held list and every pending slot are empty
(R169); nor is there a transition, a route or a claim (R64). -/
abbrev quietUnlessNormal (s : State) : Prop :=
  (∀ p : Pos, (s.key p).permit = true ↔ (s.key p).state = .on) ∧
    (s.station.mode ≠ .normal →
      (∀ p : Pos, (s.key p).permit = false ∧ (s.context p).slot = none ∧ (s.context p).transition = none ∧
        (s.context p).antenna = none ∧ ((s.context p).state = .idle ∨ (s.context p).state = .disabled) ∧
        s.claims p = ⟨[], []⟩) ∧
      (∀ a : Ant, (s.antenna a).occupants = []) ∧ s.held = [])

/-- TPn is asserted exactly in key state ON (R127), and no two positions with TP asserted share a band number marked single-signal
or form a valid lockout pair, in either order (R16, R133). -/
abbrev noConflictOnAir (s : State) : Prop :=
  (∀ p : Pos, (s.key p).permit = true ↔ (s.key p).state = .on) ∧
    ∀ p q : Pos, p ≠ q → (s.key p).permit = true → (s.key q).permit = true →
      ∀ x ∈ bandOf s.bank s.blocks p, ∀ y ∈ bandOf s.bank s.blocks q,
        ¬ (x = y ∧ s.bank.attributes.get x = true) ∧
          ∀ i : LockIx, ¬ ((s.bank.lockouts.get i).valid = true ∧
            ((s.bank.lockouts.get i).bandA = x ∧ (s.bank.lockouts.get i).bandB = y ∨
              (s.bank.lockouts.get i).bandA = y ∧ (s.bank.lockouts.get i).bandB = x))

/-- A position in key state ON is ROUTED, in no transition and without mismatch (R131, R144, R146); a ROUTED position has no
transition (R36), and no pending request has a forced cause (R40). -/
abbrev onAirRouted (s : State) : Prop :=
  ∀ p : Pos, ((s.key p).state = .on → (s.context p).state = .routed ∧ mismatch s.bank s.blocks p = false) ∧
    ((s.context p).state = .routed → (s.context p).transition = none) ∧
    (∀ r ∈ (s.context p).slot, r.cause.forced = false)

/-- What is on the air is still and whole: TPn is asserted only while the station is NORMAL, the position ROUTED with no
transition and its key state ON, and no position is ROUTED over a latched coil (R116); at most one holder of an antenna is live
(R132); and from BREAK to its end no transition has a live position of its own or on its old antenna or its target (R90). -/
abbrev airClear (s : State) : Prop :=
  (∀ p : Pos, (s.key p).permit = true → s.station.mode = .normal ∧ (s.context p).state = .routed ∧
    (s.context p).transition = none ∧ (s.key p).state = .on) ∧
  (∀ p : Pos, (s.context p).state = .routed → ∀ k ∈ (s.claims p).effective, (s.sense k.coil).latch = .none) ∧
  (∀ (a : Ant) (p q : Pos), p ≠ q → p ∈ (s.antenna a).holders → q ∈ (s.antenna a).holders → s.live p → ¬ s.live q) ∧
  ∀ p : Pos, ∀ tr ∈ (s.context p).transition, tr.phase ≠ .wait →
    ¬ s.live p ∧ ∀ a : Ant, (tr.old = some a ∨ tr.target = some a) → ∀ q ∈ (s.antenna a).holders, ¬ s.live q

/-- The Active bank passes the consistency checks (R19), and so does every bank that may come into force: the Staging bank of a
pending commit, a stored image that checks, and the bank a running store has taken. -/
abbrev banksConsistent (s : State) : Prop :=
  s.bank.inconsistency = none ∧ (s.banks.pending = true → s.banks.staging.inconsistency = none) ∧
    (∀ b ∈ s.store.image.loaded, b.inconsistency = none) ∧
    ∀ (taken : Bank) (lp : Pos), s.store.state = .writing taken lp → taken.inconsistency = none

/-- The law of the claims (R94, R95): a group has its Active mode in force, or waits, SHARED, for EXCLUSIVE; two positions that
claim one coil claim one value of it, in a group with SHARED in force; and no list of claims names a coil twice. -/
abbrev claimsLawful (s : State) : Prop :=
  (∀ g : Group, s.group g = ⟨s.bank.groups.get g, false⟩ ∨ (s.bank.groups.get g = .exclusive ∧ s.group g = ⟨.shared, true⟩)) ∧
    (∀ p q : Pos, p ≠ q → ∀ k ∈ (s.claims p).effective ++ (s.claims p).reserved,
      ∀ o ∈ (s.claims q).effective ++ (s.claims q).reserved, o.coil = k.coil →
        o.on = k.on ∧ (s.group (groupOf k.coil)).inForce = .shared) ∧
    ∀ p : Pos, ((s.claims p).effective.map Claim.coil).Nodup ∧ ((s.claims p).reserved.map Claim.coil).Nodup

/-- A group waits for EXCLUSIVE only while two positions claim one of its coils: each removal of claims settles it (R95). -/
abbrev groupsSettled (s : State) : Prop :=
  ∀ g : Group, (s.group g).awaited = true → ∃ p q : Pos, p ≠ q ∧
    ∃ k ∈ (s.claims p).effective ++ (s.claims p).reserved, ∃ o ∈ (s.claims q).effective ++ (s.claims q).reserved,
      groupOf k.coil = g ∧ o.coil = k.coil

/-- What a route state says of the rest of the context (R36, R57), the transition record of each phase, and the cause of a pending
request, which no forced release gives it (R40). -/
abbrev contextConsistent (s : State) (p : Pos) : Prop :=
  (((s.context p).state = .disabled ∨ (s.context p).state = .idle) →
    (s.context p).antenna = none ∧ (s.context p).transition = none) ∧
  ((s.context p).state = .disabled → (s.bank.positions.get p).enabled = false ∧ (s.context p).slot = none) ∧
  ((s.context p).state = .switching → ∃ tr ∈ (s.context p).transition, tr.cause ≠ .fault) ∧
  ((s.context p).state = .routed → (s.context p).antenna ≠ none ∧ (s.context p).transition = none) ∧
  ((s.context p).state = .faulted → ((s.context p).transition = none → (s.context p).antenna = none) ∧
    ∀ tr ∈ (s.context p).transition, tr.cause = .fault) ∧
  ((s.context p).mark = true ↔ ∃ tr ∈ (s.context p).transition, tr.cause.forced = true) ∧
  ((s.context p).transition = none → (s.claims p).reserved = []) ∧
  (∀ r ∈ (s.context p).slot, r.cause.forced = false) ∧
  ∀ tr ∈ (s.context p).transition,
    (tr.cause.forced = true → tr.target = none) ∧ tr.old ≠ tr.target ∧ (tr.start = .routed ↔ tr.old ≠ none) ∧
    tr.start ≠ .disabled ∧ tr.start ≠ .switching ∧ (tr.target = none → (s.claims p).reserved = []) ∧
    ((tr.phase = .wait ∨ tr.phase = .brk) → (s.context p).antenna = tr.old) ∧
    (tr.phase = .brk → tr.old ≠ none) ∧
    ((tr.phase = .make ∨ tr.phase = .check) → tr.target ≠ none ∧ (s.context p).antenna = tr.target ∧
      (s.claims p).reserved = [])

/-- The antenna records follow the contexts (R36, R39): each place and each switch hold belongs to a current antenna or to a
transition; and the holders without the forced-release mark, with the reservations, keep the bound of R45. -/
abbrev placesConsistent (s : State) : Prop :=
  (∀ p : Pos, contextConsistent s p) ∧
    ∀ a : Ant, (s.antenna a).occupants.Nodup ∧
      (∀ p : Pos, (p ∈ (s.antenna a).holders ↔ (s.context p).antenna = some a) ∧
        (p ∈ (s.antenna a).reservations ↔ ∃ tr ∈ (s.context p).transition,
          tr.target = some a ∧ (tr.phase = .wait ∨ tr.phase = .brk)) ∧
        ((s.antenna a).holds.get p = true ↔ ∃ tr ∈ (s.context p).transition, tr.old = some a ∨ tr.target = some a)) ∧
      ((s.antenna a).holders.filter fun p => !(s.context p).mark).length + (s.antenna a).reservations.length ≤
        antennaLimit (s.bank.antennas.get a)

/-- Every band entry is the one the Active bank gives for the band source in force (R20, R22, R24), and a LINK position has neither
a settled code nor a running settle timer (R29). -/
abbrev entriesDerived (s : State) : Prop :=
  ∀ p : Pos, (s.classRecord p).entry = deriveEntry s.bank (s.classRecord p) ∧
    ((s.classRecord p).source = .link → (s.classRecord p).settled = none ∧ (s.classRecord p).settleTimer = none)

end Sys2Proof.Machine
end

