-- ==== Sys2Proof/Certificates/Slice0/Obligations.lean ====
section
/-!
DEFINITION. The statements of the model. Every statement about a command has as its conclusion that `exec` answers a next state
and says what that state holds; what it does not name is said to be untouched, by an equation for the whole state, by
`blocksOnly` or by `coilsKept`. A request row is stated for the frame the Request Handler takes next
(`s.handlerNext = some (lp, frame)`, R186).
-/
section
open Sys2Proof Sys2Proof.Machine

/-! ### The step -/

/-- The command at the front of the queue is run on the rest of the queue; on an empty queue the part idles (the model's choice,
notes/assumptions/19.md). -/
def Obligations.StepRunsFrontCommand : Prop :=
  ∀ (s : State) (c : Instr) (rest : List Instr),
    (s.pending = c :: rest → step s = exec c { s with pending := rest }) ∧ (s.pending = [] → step s = .next s)

/-- No command faults or is refused, and none touches the queue of commands. That a command has an effect in every state, also in
those no run reaches, is the model's choice (notes/assumptions/22.md), and so is that a reset keeps the commands that wait
(notes/assumptions/19.md). -/
def Obligations.EveryCommandAnswersNext : Prop :=
  ∀ (s : State) (c : Instr),
    ∃ t, exec c s = .next t ∧ t.pending = s.pending

/-- What a power-on reset leaves (Tables 2-1, 3-1, 5-1, 6-1, 7-1, 8-1, 9-1 and 10-1). The inputs, the strap samples, the measured
voltage and the stored image are the model's choice (notes/assumptions/2.md) and are not stated. -/
def Obligations.ResetValues : Prop :=
  (∀ p : Pos, State.reset.context p = ⟨.idle, none, none, none, .follow, [], false⟩) ∧
    (∀ a : Ant, (State.reset.antenna a).occupants = [] ∧ ∀ p : Pos, (State.reset.antenna a).holds.get p = false) ∧
    State.reset.held = [] ∧ (∀ p : Pos, State.reset.classRecord p = ⟨.link, none, none, none, none⟩) ∧
    (∀ (p : Pos) (k : LineNo), (State.reset.lines.get p).get k = ⟨false, false⟩) ∧
    (∀ p : Pos, State.reset.claims p = ⟨[], []⟩) ∧ (∀ g : Group, State.reset.group g = ⟨.shared, false⟩) ∧
    State.reset.source = .none ∧ (∀ c : Coil, State.reset.coil c = ⟨false, false, false, none, false⟩) ∧
    (∀ c : Coil, (State.reset.sense c).sense = .normal ∧ (State.reset.sense c).latch = .none) ∧
    (∀ p : Pos, State.reset.key p = ⟨.up, none, none, false⟩) ∧ State.reset.waiting = [] ∧
    (State.reset.banks.valid = false ∧ State.reset.banks.pending = false ∧ State.reset.banks.issuer = none ∧
      State.reset.banks.timer = none ∧ State.reset.banks.due = false) ∧
    State.reset.store.state = .idle ∧ State.reset.station.mode = .starting ∧
    State.reset.station.causes = ⟨false, false, false⟩ ∧ State.reset.station.startCause = .power ∧
    State.reset.station.storeFlag = false ∧ (∀ p : Pos, State.reset.station.restartDue.get p = false) ∧
    (∀ lp : Pos, State.reset.port lp = ⟨.hunt, none, [], none, [], .idle, 0, false, none⟩) ∧
    State.reset.pointer = 0 ∧ State.reset.pending = []

/-! ### Links (chapter 10) -/

/-- BYTE_RECEIVED and GAP_TIMER_EXPIRY (R183, R185): where the framer goes, and what a complete frame and a discarded one do;
ROOMn. Before start-up begins a byte changes nothing (the model's reading, notes/assumptions/17.md), and so does a stray expiry
(the model's choice, notes/assumptions/3.md). -/
def Obligations.FramerTakesByte : Prop :=
  ∀ (s : State) (lp : Pos) (b : Byte),
    (s.startUp = false → exec (.byteReceived lp b) s = .next s) ∧
    (s.startUp = true → exec (.byteReceived lp b) s = .next (s.withPort lp
      (match (s.port lp).framer with
      | .hunt => if b = 0xC3 then { s.port lp with framer := .length, gapTimer := some 20 } else s.port lp
      | .length =>
        if 1 ≤ b.toNat ∧ b.toNat ≤ 48 then { s.port lp with framer := .body b.toNat [b], gapTimer := some 20 }
        else (s.port lp).frameDiscarded
      | .body left got =>
        if 1 < left then { s.port lp with framer := .body (left - 1) (got ++ [b]), gapTimer := some 20 }
        else { s.port lp with framer := .check (got ++ [b]) none, gapTimer := some 20 }
      | .check got none => { s.port lp with framer := .check got (some b), gapTimer := some 20 }
      | .check got (some first) =>
        match got with
        | _ :: cls :: body =>
          if crcBytes got = [first, b] ∧ (s.port lp).inbound.length < 4 then
            { s.port lp with
              framer := .hunt, gapTimer := none, inbound := (s.port lp).inbound ++ [⟨cls, body⟩] }
          else (s.port lp).frameDiscarded
        | [_] => (s.port lp).frameDiscarded
        | [] => (s.port lp).frameDiscarded))) ∧
    ((s.port lp).gapTimer.isSome = true →
      exec (.gapTimerExpiry lp) s = .next (s.withPort lp (s.port lp).frameDiscarded)) ∧
    ((s.port lp).gapTimer = none → exec (.gapTimerExpiry lp) s = .next s) ∧
    (s.room lp = true ↔ s.startUp = true ∧ (s.port lp).inbound.length < 4)

/-- TRANSMIT_START and TRANSMIT_COMPLETION (R187): the reply goes before the notices, a frame stays in its place while it is sent,
and leaves it at the completion. A start while the transmitter is not IDLE or with nothing to send, and a completion while it is
IDLE, change nothing (the model's choice, notes/assumptions/3.md). The completion of a restart-due link's reply is in
ResetsOfEveryKind. -/
def Obligations.TransmitterSendsReplyFirst : Prop :=
  ∀ (s : State) (lp : Pos) (straps : Straps),
    exec (.transmitStart lp) s = .next (s.withPort lp
      (if (s.port lp).transmitter ≠ .idle then s.port lp
      else if (s.port lp).reply ≠ none then { s.port lp with transmitter := .sendingReply }
      else if (s.port lp).notices ≠ [] then { s.port lp with transmitter := .sendingNotice }
      else s.port lp)) ∧
    (¬ ((s.port lp).transmitter = .sendingReply ∧ s.station.restartDue.get lp = true) →
      exec (.transmitCompletion lp straps) s = .next (s.withPort lp
        (match (s.port lp).transmitter with
        | .idle => s.port lp
        | .sendingReply => { s.port lp with reply := none, transmitter := .idle }
        | .sendingNotice => { s.port lp with notices := (s.port lp).notices.tail, transmitter := .idle })))

/-- A frame sent byte by byte as R189 lays it out, with the check word of R184, arrives whole at a link in HUNT with room. -/
def Obligations.FrameArrivesWhole : Prop :=
  ∀ (s : State) (lp : Pos) (cls : Byte) (body : List Byte),
    s.startUp = true → (s.port lp).framer = .hunt → (s.port lp).inbound.length < 4 → body.length ≤ 47 →
    execAll ((frameBytes cls body).map (.byteReceived lp)) s = .next (s.withPort lp
      { s.port lp with gapTimer := none, inbound := (s.port lp).inbound ++ [⟨cls, body⟩] })

/-- The take (R186): the link served is the first eligible one from the round-robin pointer onward, and the frame is the head of its
queue; there is no take only when no link is eligible. -/
def Obligations.HandlerServesInTurn : Prop :=
  ∀ (s : State),
    (∀ (lp : Pos) (f : Frame), s.handlerNext = some (lp, f) →
      (s.startUp = true ∧ s.station.mode ≠ .starting) ∧ (s.port lp).reply = none ∧
      (s.port lp).inbound.head? = some f ∧
      ∀ k : Pos, k < lp - s.pointer →
        (s.port (s.pointer + k)).inbound = [] ∨ (s.port (s.pointer + k)).reply ≠ none) ∧
    (s.handlerNext = none → s.startUp = true → s.station.mode ≠ .starting →
      ∀ lp : Pos, (s.port lp).inbound = [] ∨ (s.port lp).reply ≠ none)

/-- Every request row takes its frame and places exactly one reply on the link the frame came from; the pointer moves to the link
after it, and the other ports change at most in their notices (R186). A request command that is not the handler's next take
changes nothing (the model's choice, notes/assumptions/6.md). -/
def Obligations.RequestTakenAndAnswered : Prop :=
  ∀ (s : State) (c : Instr) (lp : Pos) (cls : Byte) (body : List Byte),
    c.request = some (lp, cls, body) → c.wellFormed = true →
    (s.handlerNext = some (lp, ⟨cls, body⟩) →
      ∃ t, exec c s = .next t ∧ t.pointer = lp + 1 ∧ (t.port lp).inbound = (s.port lp).inbound.tail ∧
        ((t.port lp).reply.map Reply.cls) = some cls ∧
        (t.port lp).framer = (s.port lp).framer ∧ (t.port lp).transmitter = (s.port lp).transmitter ∧
        ∀ q : Pos, q ≠ lp → t.port q =
          { s.port q with notices := (t.port q).notices, dropped := (t.port q).dropped }) ∧
    (s.handlerNext ≠ some (lp, ⟨cls, body⟩) → exec c s = .next s)

/-- UNKNOWN_CLASS is answered UNKNOWN (R194), a body of another length than its class gives is answered BAD_ARG (R195 to R197,
R199), and so is a field value its layout does not define: ROUTE above 16, MODE above 1, CLEAR FAULT 64 to 254 (R189, R195,
R196); a QUERY of another length, or with an undefined target or number, is answered BAD_ARG and unsets the cursor (R200);
nothing else is changed. The undefined values of SELECT, READ and LINE SET are in their own statements. -/
def Obligations.UnknownAndMalformedAnswered : Prop :=
  ∀ (s : State) (c : Instr) (lp : Pos) (cls : Byte) (body : List Byte),
    s.handlerNext = some (lp, ⟨cls, body⟩) →
    ((cls = 0 ∨ 0x11 < cls.toNat) →
      exec (.unknownClass lp cls body) s = .next (s.answered lp cls .unknown)) ∧
    (c.request = some (lp, cls, body) → c.wellFormed = true →
      (∀ n ∈ requestLength cls, body.length ≠ n → c ≠ .clearFaultAll lp body →
        exec c s = .next (s.answered lp cls .badArg)) ∧
      (∀ b : Byte, body = [b] →
        ((cls = 0x02 ∧ 16 < b.toNat) ∨ (cls = 0x05 ∧ 1 < b.toNat) ∨ (cls = 0x0D ∧ 63 < b.toNat ∧ b.toNat < 255)) →
        exec c s = .next (s.answered lp cls .badArg)) ∧
      (cls = 0x06 → (body.length ≠ 2 ∨ ∃ x ∈ body[0]?, ∃ n ∈ body[1]?, undefinedQuery x.toNat n.toNat) →
        exec c s = .next ((s.answered lp cls .badArg).withPort lp
          { (s.answered lp cls .badArg).port lp with cursor := none })))

/-! ### Bands and lines (chapter 2) -/

/-- The Band Plan search (R22): the first valid entry, in ascending index order, whose limits contain the frequency, both limits
included; absent when there is none. -/
def Obligations.PlanSearchFindsFirstEntry : Prop :=
  ∀ (b : Bank) (f : Nat),
    (∀ i : PlanIx, planSearch b f = some i ↔
      ((b.plan.get i).valid = true ∧ (b.plan.get i).low ≤ f ∧ f ≤ (b.plan.get i).high) ∧
        ∀ j : PlanIx, j < i → ¬ ((b.plan.get j).valid = true ∧ (b.plan.get j).low ≤ f ∧ f ≤ (b.plan.get j).high)) ∧
    (planSearch b f = none ↔
      ∀ j : PlanIx, ¬ ((b.plan.get j).valid = true ∧ (b.plan.get j).low ≤ f ∧ f ≤ (b.plan.get j).high))

/-- BAND_REPORT (R21, R25 to R27, R146): the frequency is stored; under LINK the band entry is the result of the search, and under
LINES nothing more is changed; the reply gives entry, band and list. An unchanged entry stops there. A changed one is re-checked: an
ON position is withdrawn with NO_BAND, MISMATCH, SINGLE_SIGNAL or LOCKOUT, the first that holds, and the waiting list is
walked; then, where the follow key differs, the FOLLOW request is taken, at once, in WAIT or latched behind the transition, and its
answer told each time, or FAULT where it abandons over a latched coil (R59, R62; in WAIT the model's readings,
notes/assumptions/7.md and 8.md). That its walks follow that of the re-check is notes/assumptions/9.md. Nothing but routes, claims,
groups and keys can follow. -/
def Obligations.BandReportClassifies : Prop :=
  ∀ (s : State) (lp : Pos) (hi lo : Byte) (e : Option PlanIx),
    s.handlerNext = some (lp, ⟨0x01, [hi, lo]⟩) →
    e = (if (s.classRecord lp).source = .link then planSearch s.bank (hi.toNat * 256 + lo.toNat)
      else (s.classRecord lp).entry) →
    ∃ t, exec (.bandReport lp [hi, lo]) s = .next t ∧
      blocksOnly (s.answered lp 0x01 (.done
        (if (s.classRecord lp).source = .lines then [0, 0, 0, 0]
        else match e with
          | none => [1, 0, 0, 0]
          | some i => [1, byte (i.val + 1), byte ((s.bank.plan.get i).band.val + 1),
              byte ((s.bank.plan.get i).list.val + 1)]))) t ∧
      t.classRecord lp = { s.classRecord lp with frequency := some (hi.toNat * 256 + lo.toNat), entry := e } ∧
      (∀ q : Pos, q ≠ lp → t.classRecord q = s.classRecord q) ∧
      t.blocks.monitor = s.blocks.monitor ∧ t.blocks.image.coils = s.blocks.image.coils ∧ t.source = s.source ∧
      (e = (s.classRecord lp).entry → t.blocks = { s.blocks with classifier := t.blocks.classifier }) ∧
      (e ≠ (s.classRecord lp).entry → entryChanged s t lp) ∧
      (∀ i ∈ e, e ≠ (s.classRecord lp).entry → s.station.mode = .normal →
        (s.bank.positions.get lp).enabled = true → (s.context lp).mode = .follow →
        (s.context lp).transition = none → (s.port lp).notices.length ≤ 4 →
        (∀ j ∈ (s.classRecord lp).entry, (s.bank.plan.get j).band ≠ (s.bank.plan.get i).band ∨
          (s.bank.plan.get j).list ≠ (s.bank.plan.get i).list) →
        holdsNotice t lp fun n => n.isRoute lp .follow || n.isRoute lp .refused)

/-- SETTLE_EXPIRY (R24): the code on the lines, Ln.3 weighing 8 and Ln.0 weighing 1, becomes the settled code, and the band entry
is the valid Band Plan entry the Line Code Map names for it, or absent. An unchanged entry stops there. A changed one is re-checked
and followed as at a BAND REPORT (R25 to R27, R146): an ON position is withdrawn with NO_BAND, MISMATCH, SINGLE_SIGNAL or
LOCKOUT, the waiting list is walked, and where R26 raises it the FOLLOW request is taken, at once, in WAIT or latched, and its
answer told each time (R62; its walks after that of the re-check, notes/assumptions/9.md; in WAIT the model's readings,
notes/assumptions/7.md and 8.md). A stray expiry changes nothing (the model's choice,
notes/assumptions/3.md). -/
def Obligations.SettleExpiryTakesCode : Prop :=
  ∀ (s : State) (p : Pos),
    ((s.classRecord p).settleTimer.isSome = true →
      ∃ t, exec (.settleExpiry p) s = .next t ∧ blocksOnly s t ∧
        (∃ code : LineCode, code.val = flag (s.pinLevel p 0) + 2 * flag (s.pinLevel p 1) + 4 * flag (s.pinLevel p 2)
            + 8 * flag (s.pinLevel p 3) ∧
          t.classRecord p = { s.classRecord p with
            settled := some code, settleTimer := none, entry := (t.classRecord p).entry } ∧
          ∀ i : PlanIx, (t.classRecord p).entry = some i ↔
            s.bank.lineCodes.get code = some (i.val + 1) ∧ (s.bank.plan.get i).valid = true) ∧
        (∀ q : Pos, q ≠ p → t.classRecord q = s.classRecord q) ∧
        t.blocks.monitor = s.blocks.monitor ∧ t.blocks.image.coils = s.blocks.image.coils ∧ t.source = s.source ∧
        ((t.classRecord p).entry = (s.classRecord p).entry →
          t.blocks = { s.blocks with classifier := t.blocks.classifier }) ∧
        ((t.classRecord p).entry ≠ (s.classRecord p).entry → entryChanged s t p)) ∧
    ((s.classRecord p).settleTimer = none → exec (.settleExpiry p) s = .next s)

/-- POSITION_LINE_CHANGE (R23): under the LINES source each change of level starts, or restarts, the settle timer with the Active
line settle time; under LINK it changes the level alone. A command that gives the line the level it has changes nothing (the
model's choice, notes/assumptions/3.md). -/
def Obligations.LineChangeStartsSettle : Prop :=
  ∀ (s : State) (p : Pos) (k : LineNo) (level : Bool) (s' : State),
    s' = { s with pins := { s.pins with lines := put s.pins.lines p (put (s.pins.lines.get p) k level) } } →
    ((s.pins.lines.get p).get k = level → exec (.positionLineChange p k level) s = .next s) ∧
    ((s.pins.lines.get p).get k ≠ level → (s.classRecord p).source = .link →
      exec (.positionLineChange p k level) s = .next s') ∧
    ((s.pins.lines.get p).get k ≠ level → (s.classRecord p).source = .lines →
      exec (.positionLineChange p k level) s = .next (s'.withClassRecord p
        { s.classRecord p with settleTimer := some s.bank.timing.settleMs }))

/-- LINE_SET (R32, R33): each selected line of the named position, of any position, takes the direction and latch its byte carries
(R189: 0x00 not selected, 0x10 to 0x13 selected with direction in bit 1 and latch in bit 0); the reply gives each line's read
value, latch, direction and function; an undefined byte or position is answered BAD_ARG. Nothing else is changed. -/
def Obligations.LineSetSetsLines : Prop :=
  ∀ (s : State) (lp : Pos) (n : Byte) (m : Vector Byte 4),
    s.handlerNext = some (lp, ⟨0x11, [n, m.get 0, m.get 1, m.get 2, m.get 3]⟩) →
    (((n = 0 ∨ 6 < n.toNat) ∨ ∃ k : LineNo, m.get k ∉ [0x00, 0x10, 0x11, 0x12, 0x13]) →
      exec (.lineSet lp [n, m.get 0, m.get 1, m.get 2, m.get 3]) s = .next (s.answered lp 0x11 .badArg)) ∧
    (∀ p : Pos, n.toNat = p.val + 1 → (∀ k : LineNo, m.get k ∈ [0x00, 0x10, 0x11, 0x12, 0x13]) →
      ∃ t, exec (.lineSet lp [n, m.get 0, m.get 1, m.get 2, m.get 3]) s = .next t ∧
        t = { s.answered lp 0x11 (.done (n :: (List.finRange 4).map fun k : LineNo =>
          byte (flag (if (s.classRecord p).source = .link ∧ ((t.lines.get p).get k).out = true
              then ((t.lines.get p).get k).latch else (s.pins.lines.get p).get k)
            + 2 * flag ((t.lines.get p).get k).latch + 4 * flag ((t.lines.get p).get k).out
            + 8 * flag (decide ((s.classRecord p).source = .lines))))) with
          lines := put s.lines p (t.lines.get p) } ∧
        ∀ k : LineNo, (t.lines.get p).get k =
          if m.get k = 0x00 then (s.lines.get p).get k
          else ⟨decide (2 ≤ (m.get k).toNat % 16), decide ((m.get k).toNat % 2 = 1)⟩)

/-! ### Route requests (chapter 3) -/

/-- Selection (R42 to R46): with no band NO_BAND; by preference the first antenna of the list that passes the static tests and is
the current one, which gives current, or an available one, which gives target; HELD when some pass and none is available;
NO_CANDIDATE when none passes; for an antenna named, NO_PATH, current, target or held; and for RELEASE, current or target none.
The static tests are enabled, path defined and band covered. An antenna is available to a position when the other positions
that hold or reserve it leave room (R45), and no claim of its path meets, on one coil, a claim of another position of the
opposite value, or any claim of another in a group that is EXCLUSIVE or waits to become so (R46). -/
def Obligations.SelectionTakesFirstAvailable : Prop :=
  ∀ (v : View) (w : Blocks) (p : Pos),
    ((w.classifier.get p).entry = none → selection v w p .byPreference = .refused .noBand) ∧
    (∀ e ∈ (w.classifier.get p).entry,
      (∀ a : Ant, (selection v w p .byPreference = .target (some a) ∨
          (selection v w p .byPreference = .current ∧ (w.routes.contexts.get p).antenna = some a)) →
        passesStatic v.bank p (v.bank.plan.get e).band a = true ∧
        ((w.routes.contexts.get p).antenna = some a ∨ available v.bank w a p = true) ∧
        ∃ k, k < (v.bank.preferences.get (v.bank.plan.get e).list).length ∧
          (v.bank.preferences.get (v.bank.plan.get e).list)[k]? = some (a.val + 1) ∧
          ∀ j, j < k → ∀ b : Ant, (v.bank.preferences.get (v.bank.plan.get e).list)[j]? = some (b.val + 1) →
            passesStatic v.bank p (v.bank.plan.get e).band b = true →
              (w.routes.contexts.get p).antenna ≠ some b ∧ available v.bank w b p = false) ∧
      (selection v w p .byPreference = .refused .noCandidate ↔
        ∀ b : Ant, b.val + 1 ∈ v.bank.preferences.get (v.bank.plan.get e).list →
          passesStatic v.bank p (v.bank.plan.get e).band b = false) ∧
      (selection v w p .byPreference = .held ↔
        (∃ b : Ant, b.val + 1 ∈ v.bank.preferences.get (v.bank.plan.get e).list ∧
          passesStatic v.bank p (v.bank.plan.get e).band b = true) ∧
        ∀ b : Ant, b.val + 1 ∈ v.bank.preferences.get (v.bank.plan.get e).list →
          passesStatic v.bank p (v.bank.plan.get e).band b = true →
            (w.routes.contexts.get p).antenna ≠ some b ∧ available v.bank w b p = false)) ∧
    (∀ a : Ant, selection v w p (.antenna a) =
      if (v.bank.antennas.get a).enabled = false ∨ (path v.bank p a).defined = false then .refused .noPath
      else if (w.routes.contexts.get p).antenna = some a then .current
      else if available v.bank w a p = true then .target (some a) else .held) ∧
    (selection v w p .release = if (w.routes.contexts.get p).antenna = none then .current else .target none) ∧
    (∀ e ∈ (w.classifier.get p).entry, ∀ k, k < (v.bank.preferences.get (v.bank.plan.get e).list).length → ∀ a : Ant,
      (v.bank.preferences.get (v.bank.plan.get e).list)[k]? = some (a.val + 1) →
      passesStatic v.bank p (v.bank.plan.get e).band a = true →
      ((w.routes.contexts.get p).antenna = some a ∨ available v.bank w a p = true) →
      (∀ j, j < k → ∀ b : Ant, (v.bank.preferences.get (v.bank.plan.get e).list)[j]? = some (b.val + 1) →
        passesStatic v.bank p (v.bank.plan.get e).band b = true →
          (w.routes.contexts.get p).antenna ≠ some b ∧ available v.bank w b p = false) →
      selection v w p .byPreference = if (w.routes.contexts.get p).antenna = some a then .current else .target (some a)) ∧
    (∀ (n : Band) (a : Ant), passesStatic v.bank p n a = true ↔ (v.bank.antennas.get a).enabled = true ∧
      (path v.bank p a).defined = true ∧ (v.bank.antennas.get a).coverage.getLsbD n.val = true) ∧
    ∀ a : Ant, available v.bank w a p = true ↔ hasRoom v.bank w a p ∧
      ∀ k ∈ (path v.bank p a).claims, ∀ q : Pos, q ≠ p →
        ∀ o ∈ (w.image.claims.get q).effective ++ (w.image.claims.get q).reserved, o.coil = k.coil →
          (w.image.groups.get (groupOf k.coil)).inForce = .shared ∧
            (w.image.groups.get (groupOf k.coil)).awaited = false ∧ o.on = k.on

/-- The five route requests outside NORMAL are refused with FAILSAFE, and those of a disabled position with DISABLED (R38, R41);
nothing is changed but the take and the reply. -/
def Obligations.RouteRequestsRefused : Prop :=
  ∀ (s : State) (lp : Pos) (b : Byte) (r : RefuseReason),
    ((s.station.mode ≠ .normal ∧ r = .failsafe) ∨
      (s.station.mode = .normal ∧ (s.bank.positions.get lp).enabled = false ∧ r = .disabled)) →
    (s.handlerNext = some (lp, ⟨0x02, [b]⟩) → b.toNat ≤ 16 →
      exec (.route lp [b]) s = .next (s.answered lp 0x02 (.refused r))) ∧
    (s.handlerNext = some (lp, ⟨0x03, []⟩) → exec (.revert lp []) s = .next (s.answered lp 0x03 (.refused r))) ∧
    (s.handlerNext = some (lp, ⟨0x04, []⟩) → exec (.release lp []) s = .next (s.answered lp 0x04 (.refused r))) ∧
    (s.handlerNext = some (lp, ⟨0x05, [0]⟩) → exec (.modeFollow lp [0]) s = .next (s.answered lp 0x05 (.refused r))) ∧
    (s.handlerNext = some (lp, ⟨0x05, [1]⟩) → exec (.modeManual lp [1]) s = .next (s.answered lp 0x05 (.refused r)))

/-- ROUTE in a state whose slots and held list agree (R48, R49, R67 to R69, R75). With no transition, when selection gives
antenna `a`: a transition in WAIT with its quiet wait timer, due exactly when its quiet condition holds at its start (R71); the
antenna reserved with its claims, at the end of its places (R39); both antennas held; an ON position withdrawn with reason
SWITCHING, and the waiting list walked; the reply ACCEPTED STARTED; no coil, sense, latch or classifier record changed. With an
empty slot: a refused selection and a current antenna change nothing, and a held request joins the slot and the list. A HELD
request in the slot is removed whatever the outcome (R48), and the removal starts a held walk, in which the oldest request left
is selected against the state it finds (R54, R55). In WAIT of a REQUEST or FOLLOW transition the request is selected at once and
carries on, replaces or abandons the transition as R49 gives (actedOnInWait; the model's readings, notes/assumptions/7.md and
8.md). That an event makes its walks once each is notes/assumptions/9.md. Every position that is neither the command's own nor in a
walk stays as it was, but for a due mark that a withdrawal with tail time 0 brings (R71, R130). -/
def Obligations.RouteStartsTransition : Prop :=
  ∀ (s : State) (lp : Pos) (b : Byte) (kind : RequestKind) (a : Ant),
    s.handlerNext = some (lp, ⟨0x02, [b]⟩) →
    ((b = 0 ∧ kind = .byPreference) ∨ ∃ n : Ant, b.toNat = n.val + 1 ∧ kind = .antenna n) →
    s.station.mode = .normal → (s.bank.positions.get lp).enabled = true → heldConsistent s →
    ((s.context lp).transition = none →
      (selection s.view s.blocks lp kind = .target (some a) →
        ∃ t, exec (.route lp [b]) s = .next t ∧ blocksOnly (s.answered lp 0x02 (.accepted (some .started))) t ∧
          coilsKept s t ∧
          (∃ tr ∈ (t.context lp).transition, tr = ⟨(s.context lp).antenna, some a, kind, .request, .wait, none,
              some (s.bank.timing.quietWaitS * 1000), (s.context lp).state, tr.due, []⟩ ∧
            t.context lp = { s.context lp with state := .switching, transition := some tr, slot := none }) ∧
          lp ∈ (t.antenna a).reservations ∧ lp ∉ t.held ∧ reservedLast s t lp (.target (some a)) ∧
          ((s.context lp).slot = none → ∀ n : Ant,
            (t.antenna n).occupants = reservedAtEnd lp (some a) n (s.antenna n).occupants) ∧
          t.claims lp = { s.claims lp with reserved := (path s.bank lp a).claims } ∧
          (t.antenna a).holds.get lp = true ∧ (∀ o ∈ (s.context lp).antenna, (t.antenna o).holds.get lp = true) ∧
          startExamined s t lp ∧
          ((s.key lp).state = .on → withdrawnAs s.bank s t lp .switching none) ∧
          ((s.key lp).state ≠ .on → lp ∉ s.waiting → t.key lp = s.key lp) ∧ walkedIfWithdrawn s t ∧
          othersKept s t (ownOrWalked s lp ((s.context lp).slot ≠ none))) ∧
      ((s.context lp).slot = none →
        (∀ r, selection s.view s.blocks lp kind = .refused r →
          exec (.route lp [b]) s = .next (s.answered lp 0x02 (.refused r))) ∧
        (selection s.view s.blocks lp kind = .current →
          exec (.route lp [b]) s = .next (s.answered lp 0x02 (.accepted (some .unchanged)))) ∧
        (selection s.view s.blocks lp kind = .held →
          ∃ t, exec (.route lp [b]) s = .next t ∧ t.held = s.held ++ [lp] ∧
            t.context lp = { s.context lp with slot := some ⟨kind, .held, .request⟩ } ∧
            t = { s.answered lp 0x02 (.accepted (some .held)) with blocks := { s.blocks with routes := { s.blocks.routes with
              held := t.held, contexts := put s.blocks.routes.contexts lp (t.context lp) } } })) ∧
      (reservedInTransition s → (s.context lp).slot ≠ none → ∃ t, exec (.route lp [b]) s = .next t ∧
        blocksOnly (s.answered lp 0x02 (selection s.view s.blocks lp kind).answer.result) t ∧ coilsKept s t ∧
        actedOn (selection s.view s.blocks lp kind) s.bank t lp { s.context lp with slot := none } kind .request ∧
        startExamined s t lp ∧ reservedLast s t lp (selection s.view s.blocks lp kind) ∧ heldWalked s t lp ∧
        walkedIfWithdrawn s t ∧ othersKept s t (ownOrWalked s lp True) ∧
        ((∀ c, selection s.view s.blocks lp kind ≠ .target c) → ∀ q ∈ (s.held.filter fun q => decide (q ≠ lp)).head?,
          ∀ r ∈ (s.context q).slot, r.kind ≠ .release → r.cause.forced = false →
            actedOn (selection s.view s.blocks q r.kind) s.bank t q { s.context q with slot := none } r.kind r.cause ∧
            startExamined s t q))) ∧
    (∀ tr ∈ (s.context lp).transition, tr.phase = .wait → tr.cause.forced = false → reservedInTransition s →
      ∃ t, exec (.route lp [b]) s = .next t ∧
        blocksOnly (s.answered lp 0x02 (selection s.view s.blocks lp kind).answer.result) t ∧ coilsKept s t ∧
        actedOnInWait (selection s.view s.blocks lp kind) s t lp (s.context lp) tr kind .request)

/-- ROUTE, REVERT and RELEASE past WAIT, or during a forced release, are latched unselected in place of any request in the slot, and
answered ACCEPTED LATCHED; nothing else is changed (R41, R47, R50). -/
def Obligations.RequestBehindTransitionLatched : Prop :=
  ∀ (s : State) (lp : Pos) (b : Byte) (kind : RequestKind) (tr : Transition),
    s.station.mode = .normal → (s.bank.positions.get lp).enabled = true →
    (s.context lp).transition = some tr → (tr.phase ≠ .wait ∨ tr.cause = .commit ∨ tr.cause = .fault) →
    (((b = 0 ∧ kind = .byPreference) ∨ ∃ n : Ant, b.toNat = n.val + 1 ∧ kind = .antenna n) →
      s.handlerNext = some (lp, ⟨0x02, [b]⟩) →
      exec (.route lp [b]) s = .next ((s.answered lp 0x02 (.accepted (some .latched))).withContext lp
        { s.context lp with slot := some ⟨kind, .latched, .request⟩ })) ∧
    (s.handlerNext = some (lp, ⟨0x04, []⟩) →
      exec (.release lp []) s = .next ((s.answered lp 0x04 (.accepted (some .latched))).withContext lp
        { s.context lp with slot := some ⟨.release, .latched, .request⟩ })) ∧
    (∀ (a : Ant) (rest : List Ant), (s.context lp).history = a :: rest → s.handlerNext = some (lp, ⟨0x03, []⟩) →
      exec (.revert lp []) s = .next ((s.answered lp 0x03 (.accepted (some .latched))).withContext lp
        { s.context lp with history := rest, slot := some ⟨.antenna a, .latched, .request⟩ }))

/-- REVERT (R47): an empty history is refused with EMPTY; otherwise the top entry is popped for good, and the request goes on as
an ANTENNA n request: with no transition refused, unchanged, held or started (and then examined, R71), a HELD request in the
slot being removed (R48), which starts a held walk (R54); a new reservation joins at the end of its antenna's places (R39); in
WAIT of a REQUEST or FOLLOW transition as R49 gives (the model's readings, notes/assumptions/7.md and 8.md). The positions that
are neither the command's own nor in a walk stay as they were. -/
def Obligations.RevertPopsHistory : Prop :=
  ∀ (s : State) (lp : Pos),
    s.handlerNext = some (lp, ⟨0x03, []⟩) → s.station.mode = .normal → (s.bank.positions.get lp).enabled = true →
    ((s.context lp).history = [] → exec (.revert lp []) s = .next (s.answered lp 0x03 (.refused .empty))) ∧
    (∀ (a : Ant) (rest : List Ant), (s.context lp).history = a :: rest → (s.context lp).transition = none →
      heldConsistent s →
      ∃ t, exec (.revert lp []) s = .next t ∧ coilsKept s t ∧ (t.context lp).history = rest ∧
        blocksOnly (s.answered lp 0x03 (match selection s.view s.blocks lp (.antenna a) with
          | .refused r => .refused r
          | .current => .accepted (some .unchanged)
          | .target _ => .accepted (some .started)
          | .held => .accepted (some .held))) t ∧
        (selection s.view s.blocks lp (.antenna a) = .target (some a) →
          lp ∈ (t.antenna a).reservations ∧ (t.context lp).state = .switching ∧
            ∃ tr ∈ (t.context lp).transition, tr.target = some a ∧ tr.old = (s.context lp).antenna ∧ tr.phase = .wait) ∧
        (reservedInTransition s → actedOn (selection s.view s.blocks lp (.antenna a)) s.bank t lp
          { s.context lp with history := rest, slot := none } (.antenna a) .request ∧ startExamined s t lp ∧
          reservedLast s t lp (selection s.view s.blocks lp (.antenna a)) ∧
          walkedIfWithdrawn s t ∧ othersKept s t (ownOrWalked s lp ((s.context lp).slot ≠ none)) ∧
          ((s.context lp).slot ≠ none → heldWalked s t lp))) ∧
    (∀ (a : Ant) (rest : List Ant), (s.context lp).history = a :: rest → ∀ tr ∈ (s.context lp).transition,
      tr.phase = .wait → tr.cause.forced = false → heldConsistent s → reservedInTransition s →
      ∃ t, exec (.revert lp []) s = .next t ∧
        blocksOnly (s.answered lp 0x03 (selection s.view s.blocks lp (.antenna a)).answer.result) t ∧ coilsKept s t ∧
        actedOnInWait (selection s.view s.blocks lp (.antenna a)) s t lp { s.context lp with history := rest } tr
          (.antenna a) .request)

/-- RELEASE (R48, R49, R60). With no transition: from an antenna a transition to none starts and is examined (R71), an ON
position being withdrawn and the waiting list walked; with none, a FAULTED position becomes IDLE and any other stays as it is,
answered UNCHANGED; a HELD request in the slot is removed, and the removal starts a held walk. In WAIT of a REQUEST or FOLLOW
transition (R49): from an antenna the target is replaced by none, or the transition carries on; with no antenna it is abandoned
(the model's readings, notes/assumptions/7.md and 8.md). The positions that are neither the command's own nor in a walk stay as
they were. -/
def Obligations.ReleaseStartsOrEndsFault : Prop :=
  ∀ (s : State) (lp : Pos),
    s.handlerNext = some (lp, ⟨0x04, []⟩) → s.station.mode = .normal → (s.bank.positions.get lp).enabled = true →
    heldConsistent s →
    ((s.context lp).transition = none →
      (∀ a ∈ (s.context lp).antenna, ∃ t, exec (.release lp []) s = .next t ∧
        blocksOnly (s.answered lp 0x04 (.accepted (some .started))) t ∧ coilsKept s t ∧
        (t.context lp).state = .switching ∧ (t.context lp).antenna = some a ∧ (t.context lp).slot = none ∧
        (∃ tr ∈ (t.context lp).transition, tr = ⟨some a, none, .release, .request, .wait, none,
          some (s.bank.timing.quietWaitS * 1000), (s.context lp).state, tr.due, []⟩) ∧ startExamined s t lp ∧
        (t.antenna a).holds.get lp = true ∧
        ((s.key lp).state = .on → withdrawnAs s.bank s t lp .switching none) ∧
        ((s.key lp).state ≠ .on → lp ∉ s.waiting → t.key lp = s.key lp) ∧ walkedIfWithdrawn s t ∧
        othersKept s t (ownOrWalked s lp ((s.context lp).slot ≠ none))) ∧
      ((s.context lp).antenna = none → (s.context lp).slot = none →
        exec (.release lp []) s = .next ((s.answered lp 0x04 (.accepted (some .unchanged))).withContext lp
          { s.context lp with state := if (s.context lp).state = .faulted then .idle else (s.context lp).state })) ∧
      (reservedInTransition s → (s.context lp).slot ≠ none → ∃ t, exec (.release lp []) s = .next t ∧
        blocksOnly (s.answered lp 0x04 (selection s.view s.blocks lp .release).answer.result) t ∧ coilsKept s t ∧
        actedOn (selection s.view s.blocks lp .release) s.bank t lp { s.context lp with slot := none } .release .request ∧
        startExamined s t lp ∧ reservedLast s t lp .current ∧ heldWalked s t lp ∧ walkedIfWithdrawn s t ∧
        othersKept s t (ownOrWalked s lp True))) ∧
    (∀ tr ∈ (s.context lp).transition, tr.phase = .wait → tr.cause.forced = false → reservedInTransition s →
      ∃ t, exec (.release lp []) s = .next t ∧
        blocksOnly (s.answered lp 0x04 (selection s.view s.blocks lp .release).answer.result) t ∧ coilsKept s t ∧
        actedOnInWait (selection s.view s.blocks lp .release) s t lp (s.context lp) tr .release .request)

/-- MODE_MANUAL and MODE_FOLLOW of an enabled position in NORMAL (R38): the mode is set; MANUAL, and FOLLOW with no band, are
answered DONE and change nothing else; FOLLOW with a band goes on as a BY_PREFERENCE request with cause FOLLOW: selected at once
with no transition (R48, R71), or in WAIT of a REQUEST or FOLLOW transition (R49; the model's readings, notes/assumptions/7.md and
8.md), and latched behind any other (R50). The positions that are neither the command's own nor in a walk stay as they were. -/
def Obligations.ModeRequestsSetMode : Prop :=
  ∀ (s : State) (lp : Pos),
    s.station.mode = .normal → (s.bank.positions.get lp).enabled = true →
    (s.handlerNext = some (lp, ⟨0x05, [1]⟩) → exec (.modeManual lp [1]) s =
      .next ((s.answered lp 0x05 (.done [])).withContext lp { s.context lp with mode := .manual })) ∧
    (s.handlerNext = some (lp, ⟨0x05, [0]⟩) → (s.classRecord lp).entry = none → exec (.modeFollow lp [0]) s =
      .next ((s.answered lp 0x05 (.done [])).withContext lp { s.context lp with mode := .follow })) ∧
    (s.handlerNext = some (lp, ⟨0x05, [0]⟩) → (s.classRecord lp).entry ≠ none → heldConsistent s →
      (s.context lp).transition = none →
      ∃ t, exec (.modeFollow lp [0]) s = .next t ∧ (t.context lp).mode = .follow ∧ coilsKept s t ∧
        blocksOnly (s.answered lp 0x05 (match selection s.view s.blocks lp .byPreference with
          | .refused r => .refused r
          | .current => .accepted (some .unchanged)
          | .target _ => .accepted (some .started)
          | .held => .accepted (some .held))) t ∧
        ∀ a : Ant, selection s.view s.blocks lp .byPreference = .target (some a) →
          ∃ tr ∈ (t.context lp).transition, tr.target = some a ∧ tr.cause = .follow ∧ tr.kind = .byPreference) ∧
    (s.handlerNext = some (lp, ⟨0x05, [0]⟩) → (s.classRecord lp).entry ≠ none → heldConsistent s → reservedInTransition s →
      ((s.context lp).transition = none → ∃ t, exec (.modeFollow lp [0]) s = .next t ∧
        actedOn (selection s.view s.blocks lp .byPreference) s.bank t lp
          { s.context lp with mode := .follow, slot := none } .byPreference .follow ∧ startExamined s t lp ∧
        reservedLast s t lp (selection s.view s.blocks lp .byPreference) ∧
        walkedIfWithdrawn s t ∧ othersKept s t (ownOrWalked s lp ((s.context lp).slot ≠ none)) ∧
        ((s.context lp).slot ≠ none → heldWalked s t lp)) ∧
      ∀ tr ∈ (s.context lp).transition,
        (tr.phase = .wait → tr.cause.forced = false → ∃ t, exec (.modeFollow lp [0]) s = .next t ∧
          blocksOnly (s.answered lp 0x05 (selection s.view s.blocks lp .byPreference).answer.result) t ∧ coilsKept s t ∧
          actedOnInWait (selection s.view s.blocks lp .byPreference) s t lp { s.context lp with mode := .follow } tr
            .byPreference .follow) ∧
        (¬ (tr.phase = .wait ∧ tr.cause.forced = false) → exec (.modeFollow lp [0]) s =
          .next ((s.answered lp 0x05 (.accepted (some .latched))).withContext lp
            { s.context lp with mode := .follow, slot := some ⟨.byPreference, .latched, .follow⟩ })))

/-! ### Transitions (chapter 4) -/

/-- DEPARTURE (R72, R76, R78): the quiet condition is tested again; if it fails the due mark is removed and the transition stays in
WAIT; if it holds BREAK begins with the effective claims removed, or, with no old antenna, MAKE with the reserved claims made
effective and the reservation a holding at the place it has (R39); exactly the coils of those claims are recomputed; and a held
walk is made, for the claims or the reservation removed (R54), whose reservations join behind. The positions that are neither the
command's own nor in a walk stay as they were. -/
def Obligations.DepartureBeginsBreakOrMake : Prop :=
  ∀ (s : State) (p : Pos) (tr : Transition),
    (s.context p).transition = some tr → tr.phase = .wait → tr.due = true → heldConsistent s →
    notHeld (s.context p) →
    (¬ quietCondition s p tr → exec (.departure p) s =
      .next (s.withContext p { s.context p with transition := some { tr with due := false } })) ∧
    (quietCondition s p tr → ∀ a ∈ tr.old, ∃ t, exec (.departure p) s = .next t ∧ blocksOnly s t ∧
      t.context p = { s.context p with transition := some { tr with
        phase := .brk, due := false, quietTimer := none, phaseTimer := some s.bank.timing.breakMs,
        broken := (s.claims p).effective } } ∧
      t.claims p = { s.claims p with effective := [] } ∧ placesKept s t p (fun n => (s.antenna n).occupants) ∧
      (∀ c : Coil, ¬ claimsCoil s p c → t.coil c = s.coil c) ∧ (∀ c : Coil, claimsCoil s p c → recomputed s t c) ∧
      (reservedInTransition s → heldWalked s t p) ∧ othersKept s t (ownOrWalked s p True) ∧ walkedIfWithdrawn s t ∧
      (p ∉ s.waiting → t.key p = s.key p) ∧
      t.blocks.classifier = s.blocks.classifier ∧ t.blocks.monitor = s.blocks.monitor ∧ t.source = s.source) ∧
    (quietCondition s p tr → tr.old = none → ∀ a ∈ tr.target, ∃ t, exec (.departure p) s = .next t ∧ blocksOnly s t ∧
      t.context p = { s.context p with antenna := some a, transition := some { tr with
        phase := .make, due := false, quietTimer := none, phaseTimer := some s.bank.timing.makeMs } } ∧
      t.claims p = ⟨(s.claims p).reserved, []⟩ ∧
      (p ∈ (s.antenna a).reservations → p ∈ (t.antenna a).holders ∧ p ∉ (t.antenna a).reservations) ∧
      placesKept s t p (s.placesAtMake p tr.old tr.target) ∧
      (∀ c : Coil, (∀ k ∈ (s.claims p).reserved, k.coil ≠ c) → t.coil c = s.coil c) ∧
      (∀ k ∈ (s.claims p).reserved, recomputed s t k.coil) ∧ (reservedInTransition s → heldWalked s t p) ∧
      othersKept s t (ownOrWalked s p True) ∧ walkedIfWithdrawn s t ∧ (p ∉ s.waiting → t.key p = s.key p) ∧
      t.blocks.classifier = s.blocks.classifier ∧ t.blocks.monitor = s.blocks.monitor ∧ t.source = s.source)

/-- BREAK_EXPIRY (R51, R54 to R56, R61, R77, R81, R82): the position leaves its old antenna, which is pushed on its history;
with a target MAKE begins on it, and the reservation is a holding at the place it has (R39); without one the release ends, the
position IDLE, DISABLED or FAULTED and its link told, and a pending commit becomes due when its condition now holds (R81, R158).
Either way a held walk is made, over the held requests of the other positions, and at the end of a release a waiting walk (R81,
R138, R139). At the end of a release a request latched in the slot starts, against the state the walk leaves, or is refused with
DISABLED, and its answer goes into the notice; the end of a commit release of an enabled position in FOLLOW that has a band, with an
empty slot or with a latched request that starts nothing and is not held, goes on into a FOLLOW request (R61); of a position that
is not enabled it leaves it DISABLED (R82). The notice carries the context the event leaves, and takes the place of that of
the FOLLOW request (the model's readings, notes/assumptions/11.md and 12.md). The positions that are neither the command's own nor
in a walk stay as they were. -/
def Obligations.BreakExpiryLeavesOldAntenna : Prop :=
  ∀ (s : State) (p : Pos) (tr : Transition) (o : Ant),
    (s.context p).transition = some tr → tr.phase = .brk → tr.phaseTimer.isSome = true → tr.old = some o →
    heldConsistent s →
    (∀ a ∈ tr.target, ∃ t, exec (.breakExpiry p) s = .next t ∧ blocksOnly s t ∧
      t.context p = { s.context p with
        antenna := some a, history := (o :: (s.context p).history).take 8
        transition := some { tr with
          phase := .make, due := false, quietTimer := none, phaseTimer := some s.bank.timing.makeMs } } ∧
      t.claims p = ⟨(s.claims p).reserved, []⟩ ∧ (a ≠ o → p ∉ (t.antenna o).holders) ∧
      (p ∈ (s.antenna a).reservations → p ∈ (t.antenna a).holders ∧ p ∉ (t.antenna a).reservations) ∧
      placesKept s t p (s.placesAtMake p tr.old tr.target) ∧
      (∀ c : Coil, (∀ k ∈ (s.claims p).reserved, k.coil ≠ c) → t.coil c = s.coil c) ∧
      (∀ k ∈ (s.claims p).reserved, recomputed s t k.coil) ∧ (reservedInTransition s → heldWalked s t p) ∧
      othersKept s t (ownOrWalked s p True) ∧ walkedIfWithdrawn s t ∧ (p ∉ s.waiting → t.key p = s.key p) ∧
      t.blocks.classifier = s.blocks.classifier ∧ t.blocks.monitor = s.blocks.monitor ∧ t.source = s.source) ∧
    (tr.target = none → ∃ t, exec (.breakExpiry p) s = .next t ∧ blocksAndApply s t ∧ coilsKept s t ∧
      placesKept s t p (s.placesLess p .holding (some o)) ∧
      (reservedInTransition s → heldWalked s t p) ∧ startExamined s t p ∧ (gateConsistent s → walked s t) ∧
      othersKept s t (ownOrWalked s p True) ∧
      (t.context p).antenna = none ∧ (t.context p).history = (o :: (s.context p).history).take 8 ∧
      p ∉ (t.antenna o).holders ∧
      ((s.context p).slot = none →
        (tr.cause ≠ .commit ∨ (s.context p).mode = .manual ∨ (s.classRecord p).entry = none ∨
          (s.bank.positions.get p).enabled = false) →
        (t.context p).transition = none ∧ (t.context p).mark = false ∧ (t.antenna o).holds.get p = false ∧
        (t.context p).state = if tr.cause = .fault then .faulted
          else if (s.bank.positions.get p).enabled = true then .idle else .disabled) ∧
      (∀ c : Context, c = { s.context p with
          state := if tr.cause = .fault then .faulted
            else if (s.bank.positions.get p).enabled = true then .idle else .disabled
          antenna := none, transition := none, mark := false, slot := none
          history := (o :: (s.context p).history).take 8 } → s.station.mode = .normal → reservedInTransition s →
        ((s.context p).slot = none →
          (tr.cause ≠ .commit ∨ (s.context p).mode = .manual ∨ (s.classRecord p).entry = none ∨
            (s.bank.positions.get p).enabled = false) → t.context p = c ∧
          ((s.port p).notices.length ≤ 4 → holdsNotice t p fun n => decide (n = routeNotice t.blocks p .released none))) ∧
        (∀ r ∈ (s.context p).slot, r.cause.forced = false →
          ((s.bank.positions.get p).enabled = true → ∀ sel, sel = selection s.view t.blocks p r.kind →
            ((tr.cause ≠ .commit ∨ (s.context p).mode = .manual ∨ (s.classRecord p).entry = none ∨
                sel = .held ∨ ∃ a, sel = .target a) →
              actedOn sel s.bank t p c r.kind r.cause) ∧
            (tr.cause = .commit → (s.context p).mode = .follow → (s.classRecord p).entry ≠ none →
              (sel = .current ∨ ∃ e, sel = .refused e) →
              actedOn (selection s.view t.blocks p .byPreference) s.bank t p c .byPreference .follow) ∧
            ((s.port p).notices.length ≤ 4 → holdsNotice t p fun n =>
              decide (n = routeNotice t.blocks p .released (some sel.answer)))) ∧
          ((s.bank.positions.get p).enabled = false → t.context p = c ∧
            ((s.port p).notices.length ≤ 4 → holdsNotice t p fun n =>
              decide (n = routeNotice t.blocks p .released (some (.refused .disabled)))))) ∧
        ((s.context p).slot = none → tr.cause = .commit → (s.context p).mode = .follow → (s.classRecord p).entry ≠ none →
          (s.bank.positions.get p).enabled = true →
          actedOn (selection s.view t.blocks p .byPreference) s.bank t p c .byPreference .follow)) ∧
      ((s.port p).notices.length ≤ 4 → holdsNotice t p fun n => n.isRoute p .released))

/-- MAKE_EXPIRY (R51, R54, R79 to R82): CHECK begins, and lasts while a coil of the position's effective claims is blanked; with
none it ends at once, ROUTED, or, with a latched coil among them, FAULTED with the route shed and a held walk made; its link is
told, the waiting list is walked (R138, R139), and a pending commit becomes due when its condition now holds (R81, R158). A
request latched in the slot starts at the end, against the state the walk leaves, or is refused with DISABLED (R41), and its answer
goes into the notice, which carries the context the event leaves (the model's reading, notes/assumptions/12.md). The positions that are neither the command's
own nor in a walk stay as they were. -/
def Obligations.MakeExpiryChecks : Prop :=
  ∀ (s : State) (p : Pos) (tr : Transition),
    (s.context p).transition = some tr → tr.phase = .make → tr.phaseTimer.isSome = true →
    ((∃ k ∈ (s.claims p).effective, (s.coil k.coil).blank.isSome = true) → exec (.makeExpiry p) s =
      .next (s.withContext p { s.context p with transition := some { tr with phase := .check, phaseTimer := none } })) ∧
    ((∀ k ∈ (s.claims p).effective, (s.coil k.coil).blank = none) → (s.context p).slot = none →
      ((∀ k ∈ (s.claims p).effective, (s.sense k.coil).latch = .none) →
        ∃ t, exec (.makeExpiry p) s = .next t ∧ blocksAndApply s t ∧ coilsKept s t ∧
          t.context p = { s.context p with state := .routed, transition := none, mark := false } ∧
          t.claims p = s.claims p ∧ (∀ a : Ant, (t.antenna a).occupants = (s.antenna a).occupants) ∧
          (∀ a ∈ tr.old, (t.antenna a).holds.get p = false) ∧
          (∀ a ∈ tr.target, (t.antenna a).holds.get p = false) ∧ (gateConsistent s → walked s t) ∧ t.held = s.held ∧
          othersKept s t (ownOrWalked s p False) ∧ (p ∉ s.waiting → t.key p = s.key p) ∧
          ((s.port p).notices.length ≤ 4 → holdsNotice t p fun n => n.isRoute p .routed)) ∧
      ((∃ k ∈ (s.claims p).effective, (s.sense k.coil).latch ≠ .none) →
        ∃ t, exec (.makeExpiry p) s = .next t ∧ blocksAndApply s t ∧
          t.context p = { s.context p with state := .faulted, antenna := none, transition := none, mark := false } ∧
          t.claims p = { s.claims p with effective := [] } ∧ (∀ a ∈ tr.target, p ∉ (t.antenna a).holders) ∧
          placesKept s t p (s.placesLess p .holding tr.target) ∧
          (∀ c : Coil, ¬ claimsCoil s p c → t.coil c = s.coil c) ∧ (∀ c : Coil, claimsCoil s p c → recomputed s t c) ∧
          t.blocks.classifier = s.blocks.classifier ∧ t.blocks.monitor = s.blocks.monitor ∧ t.source = s.source ∧
          (heldConsistent s → reservedInTransition s → heldWalked s t p) ∧ (gateConsistent s → walked s t) ∧
          othersKept s t (ownOrWalked s p True) ∧ (p ∉ s.waiting → t.key p = s.key p) ∧
          ((s.port p).notices.length ≤ 4 → holdsNotice t p fun n => n.isRoute p .fault))) ∧
    ((∀ k ∈ (s.claims p).effective, (s.coil k.coil).blank = none) → s.station.mode = .normal →
      heldConsistent s → reservedInTransition s → ∀ r ∈ (s.context p).slot, r.cause.forced = false →
      ((∀ k ∈ (s.claims p).effective, (s.sense k.coil).latch = .none) →
        ∃ t, exec (.makeExpiry p) s = .next t ∧ blocksAndApply s t ∧ coilsKept s t ∧
          startExamined s t p ∧ (gateConsistent s → walked s t) ∧ othersKept s t (ownOrWalked s p False) ∧
          t.held.filter (fun q => decide (q ≠ p)) = s.held.filter (fun q => decide (q ≠ p)) ∧
          ∀ sel, sel = requestOutcome s.view t.blocks p r.kind →
            actedOn sel s.bank t p
              { s.context p with state := .routed, transition := none, mark := false, slot := none } r.kind r.cause ∧
            ((s.port p).notices.length ≤ 4 → holdsNotice t p fun n =>
              decide (n = routeNotice t.blocks p .routed (some sel.answer)))) ∧
      ((∃ k ∈ (s.claims p).effective, (s.sense k.coil).latch ≠ .none) →
        ∃ t, exec (.makeExpiry p) s = .next t ∧ blocksAndApply s t ∧ heldWalked s t p ∧ startExamined s t p ∧
          placesKept s t p (s.placesLess p .holding tr.target) ∧
          (gateConsistent s → walked s t) ∧ othersKept s t (ownOrWalked s p True) ∧
          ∀ sel, sel = requestOutcome s.view t.blocks p r.kind →
            actedOn sel s.bank t p
              { s.context p with state := .faulted, antenna := none, transition := none, mark := false, slot := none }
              r.kind r.cause ∧
            ((s.port p).notices.length ≤ 4 → holdsNotice t p fun n =>
              decide (n = routeNotice t.blocks p .fault (some sel.answer)))))

/-- QUIET_WAIT_EXPIRY (R57, R73, R74): a forced release stays in WAIT with its timer restarted; any other transition is abandoned,
its reservation, reserved claims and switch holds freed, the other places in their order, and the position back in its start
state, unless a latched coil of its old route faults it (R58); the held walk and the waiting walk are made (R54, R138, R139), in
the order of notes/assumptions/9.md; the link is told QUIET_TIMEOUT, or of the fault. The positions that are neither the command's
own nor in a walk stay as they were. -/
def Obligations.QuietWaitExpiryAbandons : Prop :=
  ∀ (s : State) (p : Pos) (tr : Transition),
    (s.context p).transition = some tr → tr.phase = .wait → tr.quietTimer.isSome = true → heldConsistent s →
    ((tr.cause = .commit ∨ tr.cause = .fault) → ∃ t, exec (.quietWaitExpiry p) s = .next t ∧
      t = { s.withContext p { s.context p with transition := some { tr with
        quietTimer := some (s.bank.timing.quietWaitS * 1000) } } with ports := t.ports } ∧
      noticesOnly s.ports t.ports ∧
      ((s.port p).notices.length ≤ 4 → holdsNotice t p fun n => n.isRoute p .quietTimeout)) ∧
    ((tr.cause = .request ∨ tr.cause = .follow) → ∃ t, exec (.quietWaitExpiry p) s = .next t ∧
      blocksOnly s t ∧ coilsKept s t ∧ (reservedInTransition s → heldWalked s t p) ∧ (gateConsistent s → walked s t) ∧
      othersKept s t (ownOrWalked s p True) ∧ ((s.key p).state ≠ .on → p ∉ s.waiting → t.key p = s.key p) ∧
      (t.claims p).effective = (s.claims p).effective ∧
      (t.context p).antenna = (s.context p).antenna ∧ (t.context p).history = (s.context p).history ∧
      (∀ a ∈ tr.target, (t.claims p).reserved = [] ∧ p ∉ (t.antenna a).reservations) ∧
      placesKept s t p (s.placesLess p .reserving tr.target) ∧
      ((tr.start ≠ .routed ∨ ∀ k ∈ (s.claims p).effective, (s.sense k.coil).latch = .none) →
        (t.context p).transition = none ∧ (t.context p).state = tr.start ∧
        (∀ a ∈ tr.old, (t.antenna a).holds.get p = false) ∧ (∀ a ∈ tr.target, (t.antenna a).holds.get p = false) ∧
        ((s.port p).notices.length ≤ 4 → holdsNotice t p fun n => n.isRoute p .quietTimeout)) ∧
      (tr.start = .routed → (∃ k ∈ (s.claims p).effective, (s.sense k.coil).latch ≠ .none) →
        (t.context p).state = .faulted ∧
        (∃ tr' ∈ (t.context p).transition, tr'.cause = .fault ∧ tr'.target = none ∧ tr'.phase = .wait) ∧
        startExamined s t p ∧
        ((s.port p).notices.length ≤ 4 → holdsNotice t p fun n => n.isRoute p .fault)))

/-! ### Coils and the supply (chapters 5 and 6) -/

/-- SENSE_EVENT while RESET is high (R110 to R114, R116): the class of the new current is recorded; nothing more without a change
of class, or when the coil is not under judgement; LOW latches OPEN and HIGH latches SHORT, which trips the coil; every ROUTED
position over the coil, in no transition, becomes FAULTED with a fault release, withdrawn if ON, and one waiting walk follows
(R145); a HELD request of one leaves the held list and is LATCHED, and a held walk is then made over the others (R53, R54); no
other coil and no other position is touched. That the current is recorded although its class has not changed is the model's choice
(notes/assumptions/20.md). -/
def Obligations.SenseEventLatches : Prop :=
  ∀ (s : State) (c : Coil) (current : Nat) (k : Sense),
    s.pins.resetLow = false →
    k = (if current < s.bank.diagnostics.openLimit then .low
      else if (match (s.bank.coils.get c).threshold with
        | .t0 => s.bank.diagnostics.t0
        | .t1 => s.bank.diagnostics.t1) < current then .high else .normal) →
    ((k = (s.sense c).sense ∨ ¬ judged s c ∨ k = .normal ∨ (k = .low ∧ (s.sense c).latch ≠ .none) ∨
        (k = .high ∧ (s.sense c).latch = .short)) →
      exec (.senseEvent c current) s = .next (s.withSense c ⟨current, k, (s.sense c).latch⟩)) ∧
    (∀ l : Latch, k ≠ (s.sense c).sense → judged s c →
      ((k = .low ∧ (s.sense c).latch = .none ∧ l = .open) ∨ (k = .high ∧ (s.sense c).latch ≠ .short ∧ l = .short)) →
      ∃ t, exec (.senseEvent c current) s = .next t ∧ blocksOnly s t ∧
        t.sense c = ⟨current, k, l⟩ ∧ (∀ d : Coil, d ≠ c → t.sense d = s.sense d ∧ t.coil d = s.coil d) ∧
        t.coil c = (if l = .short then { s.coil c with
          trip := true, commanded := false, drive := false, blank := some s.bank.timing.blankMs } else s.coil c) ∧
        t.blocks.classifier = s.blocks.classifier ∧ t.source = s.source ∧
        routesFaulted s t c ∧
        heldAfter s t (fun q => faultedBy s q c) (walkAtLatch s c) ∧
        (heldConsistent s → placesKeptBy s t (fun q => decide (faultedBy s q c)) fun a => (s.antenna a).occupants) ∧
        (onAirRouted s → othersKept s t fun q => faultedBy s q c ∨ (walkAtLatch s c ∧ q ∈ s.held)) ∧
        ∀ lp : Pos, (s.port lp).notices.length ≤ 4 →
          (if l = .open then s.bank.diagnostics.mask.openCoil else s.bank.diagnostics.mask.short) = false →
          holdsNotice t lp fun n => n.isCoilFault c l)

/-- BLANK_EXPIRY (R51, R53, R54, R58, R79 to R82, R106, R113, R114, R116). The blank ends and the coil is examined: LOW latches
OPEN, HIGH latches SHORT, which trips the coil under a fresh blank; a latch faults every ROUTED position over the coil, withdrawn
if ON, its HELD request LATCHED, and every link is told unless the mask suppresses it. A CHECK over the coil that waits on another
blanked coil goes on, and so does every one after a trip. A CHECK whose last blank this was ends: ROUTED over clean coils, and
FAULTED, its route shed and its coils recomputed, over a coil that is latched or latches here; then, and only then, a pending
commit is examined (R81, R158). A latch that takes a HELD request out of the held list and a CHECK that fails make one held walk,
and a latch that faults a route and an end of CHECK one waiting walk. A request latched in the slot of a position whose CHECK ends
starts after the held walk, in ascending order of the positions, each against what those before it left (State.atLatched), or is
refused with DISABLED (R41), and its answer goes into the notice (notes/assumptions/12.md). The other places keep their order, and the other positions stay as they
were. With no latch and no CHECK that ends, the blank alone ends. The order of latch, walk and CHECK ends is the model's reading
(notes/assumptions/10.md). A stray expiry changes nothing (the model's choice, notes/assumptions/3.md). -/
def Obligations.BlankExpiryExaminesAndEndsCheck : Prop :=
  ∀ (s : State) (c : Coil),
    ((s.coil c).blank = none → exec (.blankExpiry c) s = .next s) ∧
    ((s.coil c).blank.isSome = true → ¬ latchesOpen s c → ¬ latchesShort s c → checksStay s c →
      exec (.blankExpiry c) s = .next (s.withCoil c { s.coil c with blank := none })) ∧
    ((s.coil c).blank.isSome = true → ∃ t, exec (.blankExpiry c) s = .next t ∧
      ((∃ p : Pos, checkDone s p c) → ¬ latchesShort s c → blocksAndApply s t) ∧
      (((∀ p : Pos, ¬ checkDone s p c) ∨ latchesShort s c) → blocksOnly s t) ∧
      t.blocks.classifier = s.blocks.classifier ∧ t.source = s.source ∧
      t.sense c = { s.sense c with latch := if latchesOpen s c then .open else if latchesShort s c then .short
        else (s.sense c).latch } ∧
      (∀ d : Coil, d ≠ c → t.sense d = s.sense d) ∧
      ((latchesOpen s c ∨ latchesShort s c) → routesFaulted s t c) ∧
      (latchesOpen s c → (checksStay s c → t.coil c = { s.coil c with blank := none } ∧
          ∀ d : Coil, d ≠ c → t.coil d = s.coil d) ∧
        (s.bank.diagnostics.mask.openCoil = false → ∀ lp : Pos, (s.port lp).notices.length ≤ 4 →
          holdsNotice t lp fun n => n.isCoilFault c .open)) ∧
      (latchesShort s c → t.coil c = { s.coil c with
            trip := true, commanded := false, drive := false, blank := some s.bank.timing.blankMs } ∧
        (∀ d : Coil, d ≠ c → t.coil d = s.coil d) ∧
        (∀ p : Pos, claimsCoil s p c → notHeld (s.context p) → ∀ tr ∈ (s.context p).transition, tr.phase = .check →
          t.context p = s.context p ∧ t.claims p = s.claims p) ∧
        (s.bank.diagnostics.mask.short = false → ∀ lp : Pos, (s.port lp).notices.length ≤ 4 →
          holdsNotice t lp fun n => n.isCoilFault c .short)) ∧
      (¬ latchesShort s c → ∀ p : Pos, ∀ tr ∈ (s.context p).transition, tr.phase = .check → claimsCoil s p c →
        (s.context p).slot = none → (∀ k ∈ (s.claims p).effective, k.coil = c ∨ (s.coil k.coil).blank = none) →
        ((∀ k ∈ (s.claims p).effective, (s.sense k.coil).latch = .none) → ¬ latchesOpen s c →
          t.context p = { s.context p with state := .routed, transition := none, mark := false } ∧
          t.claims p = s.claims p ∧ (∀ a ∈ tr.old, (t.antenna a).holds.get p = false) ∧
          (∀ a ∈ tr.target, (t.antenna a).holds.get p = false) ∧ (gateConsistent s → walked s t) ∧
          ((s.port p).notices.length ≤ 4 → holdsNotice t p fun n => n.isRoute p .routed)) ∧
        (((∃ k ∈ (s.claims p).effective, (s.sense k.coil).latch ≠ .none) ∨ latchesOpen s c) →
          t.context p = { s.context p with state := .faulted, antenna := none, transition := none, mark := false } ∧
          t.claims p = { s.claims p with effective := [] } ∧
          (∀ a ∈ tr.target, p ∉ (t.antenna a).holders ∧ (t.antenna a).holds.get p = false) ∧
          ((∀ q : Pos, q ≠ p → claimsCoil s q c → ∀ tr' ∈ (s.context q).transition, tr'.phase ≠ .check) → ∀ d : Coil,
            (¬ claimsCoil s p d → t.coil d = s.coil d) ∧
            (claimsCoil s p d → recomputed (s.withCoil c { s.coil c with blank := none }) t d)) ∧
          (gateConsistent s → walked s t) ∧
          ((s.port p).notices.length ≤ 4 → holdsNotice t p fun n => n.isRoute p .fault))) ∧
      (s.station.mode = .normal → heldConsistent s → placesConsistent s →
        ∀ p : Pos, checkEndsHere s p c → ∀ r ∈ (s.context p).slot, r.cause.forced = false →
          ∀ sel, sel = requestOutcome s.view (t.atLatched p fun q => decide (checkEndsHere s q c)) p r.kind →
          startExamined s t p ∧
          (¬ checkFailsHere s p c →
            actedOn sel s.bank t p { s.context p with state := .routed, transition := none, mark := false, slot := none }
              r.kind r.cause ∧
            ((s.port p).notices.length ≤ 4 → holdsNotice t p fun n =>
              decide (n = routeNotice t.blocks p .routed (some sel.answer)))) ∧
          (checkFailsHere s p c →
            actedOn sel s.bank t p
              { s.context p with state := .faulted, antenna := none, transition := none, mark := false, slot := none }
              r.kind r.cause ∧
            ((s.port p).notices.length ≤ 4 → holdsNotice t p fun n =>
              decide (n = routeNotice t.blocks p .fault (some sel.answer))))) ∧
      heldAfter s t (actedOnAtBlank s c) (walkAtBlank s c) ∧
      (heldConsistent s → placesKeptBy s t (fun q => decide (actedOnAtBlank s c q)) fun a =>
        (s.antenna a).occupants.filter fun o => decide (¬ (o.role = .holding ∧ checkFailsHere s o.pos c ∧
          ∃ tr ∈ (s.context o.pos).transition, tr.target = some a))) ∧
      (onAirRouted s → othersKept s t fun q => actedOnAtBlank s c q ∨ (walkAtBlank s c ∧ q ∈ s.held)))

/-- CLEAR_FAULT of one coil (R105, R118): NONE is answered none; an OPEN latch still judged LOW is retained; any other latch is
cleared, and the clear of a SHORT releases the trip, commands the composed value and starts the blank. Nothing else moves. -/
def Obligations.ClearFaultClearsOneCoil : Prop :=
  ∀ (s : State) (lp : Pos) (c : Coil) (b : Byte),
    b.toNat = c.val → s.handlerNext = some (lp, ⟨0x0D, [b]⟩) →
    ((s.sense c).latch = .none →
      exec (.clearFault lp [b]) s = .next (s.answered lp 0x0D (.done [b, 0, 0]))) ∧
    ((s.sense c).latch = .open → judged s c → (s.sense c).sense = .low →
      exec (.clearFault lp [b]) s = .next (s.answered lp 0x0D (.done [b, 2, 1]))) ∧
    ((s.sense c).latch = .open → ¬ (judged s c ∧ (s.sense c).sense = .low) →
      exec (.clearFault lp [b]) s = .next ((s.answered lp 0x0D (.done [b, 1, 0])).withSense c
        { s.sense c with latch := .none })) ∧
    ((s.sense c).latch = .short →
      exec (.clearFault lp [b]) s = .next (((s.answered lp 0x0D (.done [b, 1, 0])).withSense c
        { s.sense c with latch := .none }).withCoil c { s.coil c with
          trip := false, commanded := composedValue s.view s.blocks c, drive := composedValue s.view s.blocks c,
          blank := some s.bank.timing.blankMs }))

/-- CLEAR_FAULT_ALL (R105, R118): every coil is cleared by the rule of CLEAR_FAULT, and the reply gives the number cleared and the
retained set. Nothing else moves. -/
def Obligations.ClearFaultAllClearsEveryCoil : Prop :=
  ∀ (s : State) (lp : Pos) (retained : Coil → Bool),
    s.handlerNext = some (lp, ⟨0x0D, [255]⟩) →
    (∀ c : Coil, retained c = true ↔ (s.sense c).latch = .open ∧ judged s c ∧ (s.sense c).sense = .low) →
    ∃ t, exec (.clearFaultAll lp [255]) s = .next t ∧
      t = { s.answered lp 0x0D (.done (byte (coils.filter fun c =>
          decide ((s.sense c).latch ≠ .none) && !retained c).length :: coilSetOf retained)) with
        blocks := { s.blocks with
          monitor := t.blocks.monitor, image := { s.blocks.image with coils := t.blocks.image.coils } } } ∧
      ∀ c : Coil, t.sense c = { s.sense c with latch := if retained c then .open else .none } ∧
        t.coil c = if (s.sense c).latch = .short then { s.coil c with
          trip := false, commanded := composedValue s.view s.blocks c, drive := composedValue s.view s.blocks c,
          blank := some s.bank.timing.blankMs } else s.coil c

/-- SELECTOR_LINE_CHANGE (R102): under SAFE every coil whose Active fail-safe value names the line and that is not tripped follows
its level, under a fresh blank; under every other source, and for every other coil, nothing moves. A command that gives the line the
level it has changes nothing (the model's choice, notes/assumptions/3.md). -/
def Obligations.SelectorLineMovesSafeCoils : Prop :=
  ∀ (s : State) (line : Selector) (level : Bool) (old : Bool) (v : FailSafeValue) (s' : State),
    (line = .sa → old = s.pins.sa ∧ v = .sa ∧ s' = { s with pins := { s.pins with sa := level } }) →
    (line = .sb → old = s.pins.sb ∧ v = .sb ∧ s' = { s with pins := { s.pins with sb := level } }) →
    (old = level → exec (.selectorLineChange line level) s = .next s) ∧
    (old ≠ level → s.source ≠ .safe → exec (.selectorLineChange line level) s = .next s') ∧
    (old ≠ level → s.source = .safe → ∃ t, exec (.selectorLineChange line level) s = .next t ∧
      t = { s' with blocks := { s.blocks with image := { s.blocks.image with coils := t.blocks.image.coils } } } ∧
      ∀ c : Coil, t.coil c =
        if (s.bank.coils.get c).failSafe = v ∧ (!(s.coil c).trip && level) ≠ (s.coil c).commanded then
          { s.coil c with
            commanded := (!(s.coil c).trip && level), drive := (!(s.coil c).trip && level),
            blank := some s.bank.timing.blankMs }
        else s.coil c)

/-- SUPPLY_EVENT (R123 to R126). In STARTING the first conversion sets the level without hysteresis and a later one with it, and
nothing else moves; while RESET is low the level is the one without hysteresis and the conversion does not count as the first (the
model's reading, notes/assumptions/14.md). Before the load the thresholds are those of the empty contents, 11.0 V and 9.5 V
(R123). While RESET is high and the station is not STARTING the level moves with the 0.5 V of hysteresis; an unchanged level
changes the measured voltage alone; LOW changes nothing else; GOOD examines every WAIT transition and walks the waiting list (R71,
R138, R139), each entry granted, kept or barred; FAIL enters fail-safe, and examines a pending commit (R158), or adds the cause in
FAILSAFE. Every link is told of the level, with the one before it, unless masked (R123, R125), and at FAIL of the ENTERED or
CAUSE_ADDED after it (R170, R171). -/
def Obligations.SupplyEventMovesLevel : Prop :=
  ∀ (s : State) (v : Nat) (level : SupplyLevel) (lo fa : Nat) (s' : State) (fault : List Notice),
    lo = s.bank.diagnostics.supplyLow → fa = s.bank.diagnostics.supplyFail →
    level = (match s.supply.level with
      | .good => if v < fa then .fail else if v < lo then .low else .good
      | .low => if v < fa then .fail else if lo + 5 ≤ v then .good else .low
      | .fail => if lo + 5 ≤ v then .good else if fa + 5 ≤ v then .low else .fail) →
    s' = { s with supply := ⟨v, level, true⟩ } →
    fault = levelNotice s.bank.diagnostics.mask (some s.supply.level) level v →
    (∀ fresh : SupplyLevel, fresh = (if lo ≤ v then .good else if fa ≤ v then .low else .fail) →
      (s.pins.resetLow = true → exec (.supplyEvent v) s = .next { s with supply := ⟨v, fresh, s.supply.converted⟩ }) ∧
      (s.pins.resetLow = false → s.station.mode = .starting → exec (.supplyEvent v) s =
        .next { s with supply := ⟨v, if s.supply.converted = true then level else fresh, true⟩ })) ∧
    (Bank.empty.diagnostics.supplyLow = 110 ∧ Bank.empty.diagnostics.supplyFail = 95) ∧
    (s.pins.resetLow = false → s.station.mode ≠ .starting →
      (level = s.supply.level → exec (.supplyEvent v) s = .next s') ∧
      (level ≠ s.supply.level → level = .low → ∃ t, exec (.supplyEvent v) s = .next t ∧
        t = { s' with ports := t.ports } ∧ told s t fault) ∧
      (level ≠ s.supply.level → level = .good → ∃ t, exec (.supplyEvent v) s = .next t ∧ blocksOnly s' t ∧
        coilsKept s t ∧ t.blocks.image = s.blocks.image ∧ t.blocks.routes.antennas = s.blocks.routes.antennas ∧
        t.held = s.held ∧ examined s' t (fun _ _ => True) ∧ (gateConsistent s → walked s' t) ∧
        (∀ q : Pos, q ∉ s.waiting → t.key q = s.key q ∧ toldOn s t q fault) ∧
        ∀ q : Pos, (s.port q).notices.length ≤ 4 → ∀ n ∈ fault, holdsNotice t q fun m => decide (m = n)) ∧
      (level ≠ s.supply.level → level = .fail → s.station.mode = .failsafe → ∃ t, exec (.supplyEvent v) s = .next t ∧
        t = { s' with
          station := { s.station with causes := { s.station.causes with supplyFail := true } }, ports := t.ports } ∧
        told s t (fault ++ if s.station.causes.supplyFail = true then [] else
          [causeNotice .causeAdded { s.station.causes with supplyFail := true } s.source 2])) ∧
      (level ≠ s.supply.level → level = .fail → s.station.mode = .normal → ∃ t, exec (.supplyEvent v) s = .next t ∧
        blocksAndApply { s' with station := { s.station with mode := .failsafe, causes := ⟨false, true, false⟩ } } t ∧
        failSafeEntered s t ∧ told s t (fault ++ [causeNotice .entered ⟨false, true, false⟩ t.source 2])))

/-! ### Keying (chapter 7) -/

/-- The grant test (R131, Table 7-2) is passed exactly when its ten conditions hold, and the obstacles come in the order of the
table: FAILSAFE, NOT_ROUTED, SWITCHING, NO_BAND, MISMATCH, SUPPLY_LOW, SWITCH_HOLD, HOLDER_LIVE, SINGLE_SIGNAL, LOCKOUT. With the
last three comes the conflicting position, the lowest-numbered live holder of the antenna, or ON position, that meets the
condition (R152). What a single-signal conflict and a lockout pair are is R16 and R133. -/
def Obligations.GrantTestIsTable : Prop :=
  ∀ (s : State) (p : Pos),
    (grantTest s.view s.blocks p = none ↔
      s.station.mode = .normal ∧ (s.bank.positions.get p).enabled = true ∧ (s.context p).state = .routed ∧
      (∃ n ∈ bandOf s.bank s.blocks p, ∀ a ∈ (s.context p).antenna, covers s.bank a n = true) ∧
      s.supply.level = .good ∧
      (∀ a ∈ (s.context p).antenna, (∀ q : Pos, (s.antenna a).holds.get q = false) ∧
        ∀ q : Pos, q ≠ p → q ∈ (s.antenna a).holders → (s.key q).permit = false ∧ (s.key q).tail = none) ∧
      ∀ q : Pos, q ≠ p → (s.key q).state = .on →
        singleSignalConflict s.bank s.blocks p q = false ∧ lockoutConflict s.bank s.blocks p q = false) ∧
    (s.station.mode ≠ .normal → grantTest s.view s.blocks p = some (.failsafe, none)) ∧
    (s.station.mode = .normal →
      ((s.bank.positions.get p).enabled = false ∨ ((s.context p).state ≠ .routed ∧ (s.context p).state ≠ .switching)) →
      grantTest s.view s.blocks p = some (.notRouted, none)) ∧
    (s.station.mode = .normal → (s.bank.positions.get p).enabled = true →
      ((s.context p).state = .switching → grantTest s.view s.blocks p = some (.switching, none)) ∧
      ((s.context p).state = .routed →
        (bandOf s.bank s.blocks p = none → grantTest s.view s.blocks p = some (.noBand, none)) ∧
        (∀ n ∈ bandOf s.bank s.blocks p,
          (∀ a ∈ (s.context p).antenna, covers s.bank a n = false →
            grantTest s.view s.blocks p = some (.mismatch, none)) ∧
          ((∀ a ∈ (s.context p).antenna, covers s.bank a n = true) → s.supply.level ≠ .good →
            grantTest s.view s.blocks p = some (.supplyLow, none)) ∧
          ((∀ a ∈ (s.context p).antenna, covers s.bank a n = true) → s.supply.level = .good →
            (∀ a ∈ (s.context p).antenna, (∃ q : Pos, (s.antenna a).holds.get q = true) →
              grantTest s.view s.blocks p = some (.switchHold, none)) ∧
            ((∀ a ∈ (s.context p).antenna, ∀ q : Pos, (s.antenna a).holds.get q = false) →
              (∀ a ∈ (s.context p).antenna, ∀ q : Pos, lowest (fun q : Pos => q ≠ p ∧ q ∈ (s.antenna a).holders ∧
                  ((s.key q).permit = true ∨ (s.key q).tail.isSome = true)) q →
                grantTest s.view s.blocks p = some (.holderLive, some q)) ∧
              ((∀ a ∈ (s.context p).antenna, ∀ q : Pos, q ≠ p → q ∈ (s.antenna a).holders →
                  (s.key q).permit = false ∧ (s.key q).tail = none) →
                (∀ q : Pos, lowest (fun q : Pos => q ≠ p ∧ (s.key q).state = .on ∧
                    singleSignalConflict s.bank s.blocks p q = true) q →
                  grantTest s.view s.blocks p = some (.singleSignal, some q)) ∧
                ((∀ q : Pos, q ≠ p → (s.key q).state = .on → singleSignalConflict s.bank s.blocks p q = false) →
                  ∀ q : Pos, lowest (fun q : Pos => q ≠ p ∧ (s.key q).state = .on ∧
                      lockoutConflict s.bank s.blocks p q = true) q →
                    grantTest s.view s.blocks p = some (.lockout, some q)))))))) ∧
    ∀ q : Pos,
      (singleSignalConflict s.bank s.blocks p q = true ↔ ∃ x ∈ bandOf s.bank s.blocks p, ∃ y ∈ bandOf s.bank s.blocks q,
        x = y ∧ s.bank.attributes.get x = true) ∧
      (lockoutConflict s.bank s.blocks p q = true ↔ ∃ x ∈ bandOf s.bank s.blocks p, ∃ y ∈ bandOf s.bank s.blocks q,
        ∃ i : LockIx, (s.bank.lockouts.get i).valid = true ∧
          ((s.bank.lockouts.get i).bandA = x ∧ (s.bank.lockouts.get i).bandB = y ∨
            (s.bank.lockouts.get i).bandA = y ∧ (s.bank.lockouts.get i).bandB = x))

/-- KEY_DOWN (R127, R135, R137, R142): a key-down in UP or TAIL is granted when the grant test passes, waits at the end of the list
on a transient obstacle, and is barred on a permanent one; the link is told of the two refusals, with the conflicting position
(R152). In STARTING the level alone is
recorded (R127). Three clauses are the model's choices: a command with KR high already changes nothing (notes/assumptions/3.md),
before start-up begins the level alone is recorded (notes/assumptions/14.md), and so it is in a key state other than UP and
TAIL (notes/assumptions/22.md). -/
def Obligations.KeyDownGrantedWaitingOrBarred : Prop :=
  ∀ (s : State) (p : Pos) (s' : State),
    s' = { s with pins := { s.pins with keys := put s.pins.keys p true } } →
    (s.pins.keys.get p = true → exec (.keyDown p) s = .next s) ∧
    (s.pins.keys.get p = false → (s.startUp = false ∨ s.station.mode = .starting ∨
        ((s.key p).state ≠ .up ∧ (s.key p).state ≠ .tail)) → exec (.keyDown p) s = .next s') ∧
    (s.pins.keys.get p = false → s.startUp = true → s.station.mode ≠ .starting →
      ((s.key p).state = .up ∨ (s.key p).state = .tail) →
      ∃ t, exec (.keyDown p) s = .next t ∧ noticesOnly s.ports t.ports ∧
        t = { s' with ports := t.ports, blocks := { s.blocks with gate := t.blocks.gate } } ∧
        (∀ q : Pos, q ≠ p → t.key q = s.key q) ∧
        (grantTest s.view s.blocks p = none →
          t.key p = ⟨.on, none, none, true⟩ ∧ t.waiting = s.waiting ∧ t.ports = s.ports) ∧
        ∀ (r : Reason) (q : Option Pos), grantTest s.view s.blocks p = some (r, q) →
          (r ∈ [.switching, .supplyLow, .switchHold, .holderLive, .singleSignal, .lockout] →
            t.key p = { s.key p with
              state := .waiting r
              keyWait := if s.bank.timing.keyWaitMs = 0 then none else some s.bank.timing.keyWaitMs } ∧
            t.waiting = s.waiting ++ [p] ∧
            ((s.port p).notices.length ≤ 4 → holdsNotice t p fun n => decide (n = t.keyTold p .waiting q))) ∧
          (r ∈ [.failsafe, .notRouted, .noBand, .mismatch] →
            t.key p = { s.key p with state := .barred r, keyWait := none } ∧ t.waiting = s.waiting ∧
            ((s.port p).notices.length ≤ 4 → holdsNotice t p fun n => decide (n = t.keyTold p .barred none))))

/-- KEY_UP (R71, R129, R130, R138, R139, R141): from ON TPn is de-asserted and the tail starts, TAIL, or UP with tail time 0, when
the WAIT transitions concerned are examined; and the waiting list is walked, oldest first, each entry granted with a KEY NOTICE,
kept in its place with the obstacle now found, or BARRED with a KEY NOTICE. From WAITING the position leaves the list; from BARRED
it is UP; in STARTING the level alone is recorded (R127). Three clauses are the model's choices: a command with KR low already
changes nothing (notes/assumptions/3.md), before start-up begins the level alone is recorded (notes/assumptions/14.md), and so it
is in UP and TAIL (notes/assumptions/22.md). -/
def Obligations.KeyUpEndsKeying : Prop :=
  ∀ (s : State) (p : Pos) (s' : State),
    s' = { s with pins := { s.pins with keys := put s.pins.keys p false } } →
    (s.pins.keys.get p = false → exec (.keyUp p) s = .next s) ∧
    (s.pins.keys.get p = true → (s.startUp = false ∨ s.station.mode = .starting ∨ (s.key p).state = .up ∨
      (s.key p).state = .tail) → exec (.keyUp p) s = .next s') ∧
    (s.pins.keys.get p = true → s.startUp = true → s.station.mode ≠ .starting →
      ((s.key p).state = .on → ∀ s'' : State, s'' = s'.withKey p { s.key p with
          permit := false
          state := if s.bank.timing.tailMs = 0 then .up else .tail
          tail := if s.bank.timing.tailMs = 0 then (s.key p).tail else some s.bank.timing.tailMs } →
        ∃ t, exec (.keyUp p) s = .next t ∧ blocksOnly s' t ∧ coilsKept s t ∧ t.key p = s''.key p ∧
        t.blocks.image = s.blocks.image ∧ t.blocks.routes.antennas = s.blocks.routes.antennas ∧ t.held = s.held ∧
        examined s'' t (fun q tr => s.bank.timing.tailMs = 0 ∧ concerns s p q tr) ∧ (gateConsistent s → walked s'' t) ∧
        ∀ q : Pos, q ∉ s.waiting → t.key q = s''.key q) ∧
      (∀ r, (s.key p).state = .waiting r → ∃ t, exec (.keyUp p) s = .next t ∧
        t = { s' with blocks := { s.blocks with gate := t.blocks.gate } } ∧
        t.key p = { s.key p with state := .up, keyWait := none } ∧ t.waiting = s.waiting.filter (· ≠ p) ∧
        ∀ q : Pos, q ≠ p → t.key q = s.key q) ∧
      (∀ r, (s.key p).state = .barred r → ∃ t, exec (.keyUp p) s = .next t ∧
        t = { s' with blocks := { s.blocks with gate := t.blocks.gate } } ∧ t.waiting = s.waiting ∧
        t.key p = { s.key p with state := .up } ∧ ∀ q : Pos, q ≠ p → t.key q = s.key q))

/-- TAIL_EXPIRY and KEY_WAIT_EXPIRY (R71, R101, R129, R130, R138 to R140): the tail is over, TAIL becomes UP; every WAIT
transition of the position, or of an antenna it holds, becomes due when its quiet condition now holds; the waiting list is
walked, oldest first, each entry granted with a KEY NOTICE, kept in its place with the obstacle now found, or BARRED with a KEY
NOTICE; and the last tail of a FROZEN drain brings SAFE with every coil at its fail-safe value, a fresh blank on each that
changes, and STATION NOTICE SAFE to every link (R97, R101, R173); any other tail expiry moves no coil. A WAITING position whose
wait is over is BARRED with reason WAIT_LIMIT, leaves the list, and its link is told. A stray tail expiry changes nothing (the
model's choice, notes/assumptions/3.md). -/
def Obligations.TailAndKeyWaitExpire : Prop :=
  ∀ (s : State) (p : Pos),
    ((s.key p).tail.isSome = true → ∀ s' : State, s' = s.withKey p { s.key p with
        tail := none, state := if (s.key p).state = .tail then .up else (s.key p).state } →
      ∃ t, exec (.tailExpiry p) s = .next t ∧ blocksOnly s t ∧ t.held = s.held ∧
      examined s' t (concerns s p) ∧ (gateConsistent s → walked s' t) ∧
      (∀ q : Pos, q ∉ s.waiting → t.key q = s'.key q) ∧
      (t.key p).tail = none ∧ ((s.key p).state = .tail → (t.key p).state = .up) ∧
      t.blocks.classifier = s.blocks.classifier ∧ t.blocks.monitor = s.blocks.monitor ∧
      t.blocks.routes.antennas = s.blocks.routes.antennas ∧
      (s.source = .frozen → (∀ q : Pos, q ≠ p → (s.key q).tail = none) → t.source = .safe ∧
        (∀ c : Coil, (t.coil c).commanded =
            (!(s.coil c).trip && (s.bank.coils.get c).failSafe.level s.pins.sa s.pins.sb) ∧ recomputed s t c) ∧
        (∀ q : Pos, q ∉ s.waiting → toldOn s t q [.station .safe s.station.mode s.station.causes .safe 0 false]) ∧
        ∀ q : Pos, (s.port q).notices.length ≤ 4 → holdsNotice t q fun n =>
          decide (n = .station .safe s.station.mode s.station.causes .safe 0 false)) ∧
      ((s.source ≠ .frozen ∨ ∃ q : Pos, q ≠ p ∧ q ∉ s.waiting ∧ (s.key q).tail.isSome = true) →
        t.blocks.image = s.blocks.image ∧ ∀ q : Pos, q ∉ s.waiting → t.port q = s.port q)) ∧
    ((s.key p).tail = none → exec (.tailExpiry p) s = .next s) ∧
    (∀ r, (s.key p).state = .waiting r → (s.key p).keyWait.isSome = true →
      ∃ t, exec (.keyWaitExpiry p) s = .next t ∧ noticesOnly s.ports t.ports ∧
        t = { s with ports := t.ports, blocks := { s.blocks with gate := t.blocks.gate } } ∧
        t.key p = { s.key p with state := .barred .waitLimit, keyWait := none } ∧
        t.waiting = s.waiting.filter (· ≠ p) ∧ (∀ q : Pos, q ≠ p → t.key q = s.key q) ∧
        ((s.port p).notices.length ≤ 4 → holdsNotice t p fun n => decide (n = t.keyTold p .barred none)))

/-! ### Tables, banks and commits (chapters 1, 8 and 11) -/

/-- SELECT and READ (R197, R199): SELECT sets the cursor of its link to an index of the table; READ gives as many records as asked
or left, from either bank, and advances the cursor by their number; values outside the ranges, and an unset cursor, are answered
without an effect. -/
def Obligations.SelectAndReadMoveCursor : Prop :=
  ∀ (s : State) (lp : Pos) (x y z : Byte),
    (s.handlerNext = some (lp, ⟨0x07, [x, y, z]⟩) →
      (∀ (b : BankName) (t : TableId), x.toNat = b.code → y.toNat = t.num →
        exec (.select lp [x, y, z]) s =
          if t.first ≤ z.toNat ∧ z.toNat < t.first + t.entries then
            .next ((s.answered lp 0x07 (.done [])).withPort lp { (s.answered lp 0x07 (.done [])).port lp with
              cursor := some ⟨b, t, z.toNat⟩ })
          else .next (s.answered lp 0x07 .badArg)) ∧
      ((1 < x.toNat ∨ y = 0 ∨ 12 < y.toNat) →
        exec (.select lp [x, y, z]) s = .next (s.answered lp 0x07 .badArg))) ∧
    (s.handlerNext = some (lp, ⟨0x09, [x]⟩) →
      ((x = 0 ∨ 4 < x.toNat) → exec (.read lp [x]) s = .next (s.answered lp 0x09 .badArg)) ∧
      (1 ≤ x.toNat → x.toNat ≤ 4 →
        ((s.port lp).cursor = none → exec (.read lp [x]) s = .next (s.answered lp 0x09 .noCursor)) ∧
        ∀ c ∈ (s.port lp).cursor, ∀ n, n = min x.toNat (c.table.first + c.table.entries - c.index) →
          exec (.read lp [x]) s = .next ((s.answered lp 0x09 .badArg).withPort lp
            { (s.answered lp 0x09 .badArg).port lp with
              reply := some ⟨0x09, .done ([byte c.bank.code, byte c.table.num, byte c.index, byte n] ++
                (match c.bank with
                | .active => s.banks.active
                | .staging => s.banks.staging).records c.table c.index n)⟩
              cursor := some { c with index := c.index + n } })))

/-- WRITE (R198): its checks in order, NO_CURSOR, REFUSED STATE for the Active bank, BUSY while PENDING, BAD_ARG at the end of a
table or for a record of another length or with a field that fails; a record that passes replaces the Staging entry at the cursor,
which advances. Every failure leaves the Staging bank and the cursor as they were. Which records pass, and what they store, is in
WrittenRecordReadsBack. -/
def Obligations.WriteChecksAndStores : Prop :=
  ∀ (s : State) (lp : Pos) (body : List Byte),
    s.handlerNext = some (lp, ⟨0x08, body⟩) →
    ((s.port lp).cursor = none → exec (.write lp body) s = .next (s.answered lp 0x08 .noCursor)) ∧
    ∀ c ∈ (s.port lp).cursor,
      (c.bank = .active → exec (.write lp body) s = .next (s.answered lp 0x08 (.refused .state))) ∧
      (c.bank = .staging → s.banks.pending = true → exec (.write lp body) s = .next (s.answered lp 0x08 .busy)) ∧
      (c.bank = .staging → s.banks.pending = false →
        ((c.table.first + c.table.entries ≤ c.index ∨ body.length ≠ c.table.recordLength ∨
            s.banks.staging.write c.table c.index body = none) →
          exec (.write lp body) s = .next (s.answered lp 0x08 .badArg)) ∧
        (c.index < c.table.first + c.table.entries → body.length = c.table.recordLength →
          ∀ b ∈ s.banks.staging.write c.table c.index body, exec (.write lp body) s =
            .next ({ s.answered lp 0x08 (.done []) with banks := { s.banks with staging := b } }.withPort lp
              { (s.answered lp 0x08 (.done [])).port lp with cursor := some { c with index := c.index + 1 } })))

/-- WRITE's effect on a bank (R3 to R18, R192, R198, R199): a record is stored exactly when its index lies in the table and its
fields pass the table's checks (recordPasses), and the entry then holds those fields (recordStored). It reads back as written, but
for the slots and claims beyond the count, which read back as 0, and for a path that is not defined, which keeps no claim (R9,
R12); written again, what was read changes nothing; and every other entry of the bank reads as before. That a path not defined is
not checked further and reads back as zeros, and that the claim bytes beyond the count of a defined path are not checked, is the
model's reading and choice (notes/assumptions/15.md and 23.md). -/
def Obligations.WrittenRecordReadsBack : Prop :=
  ∀ (b : Bank) (t : TableId) (i : Nat) (record : List Byte),
    ((b.write t i record).isSome = true ↔ indexIn t i ∧ recordPasses t record) ∧
    ∀ b' ∈ b.write t i record,
      recordStored b' t i record ∧ b'.write t i (b'.record t i) = some b' ∧ (b'.record t i).length = t.recordLength ∧
      b'.record t i = (match t with
        | .preferenceLists => record.take (1 + byteAt record 0) ++ List.replicate (4 - byteAt record 0) 0
        | .pathTable => if byteAt record 0 = 1
            then record.take (2 + byteAt record 1) ++ List.replicate (6 - byteAt record 1) 0 else List.replicate 8 0
        | _ => record) ∧
      ∀ (u : TableId) (j : Nat), ¬ (u = t ∧ j = i) → b'.record u j = b.record u j

/-- The five queries that clear nothing (R34, R63, R109, R153, R200): the reply is DONE with the target, the number and the contents
of R193, byte by byte; the cursor of the link is unset, and nothing else is changed. The codes are those of R191 and R193. -/
def Obligations.QueriesOnlyReport : Prop :=
  ∀ (s : State) (lp : Pos) (target n : Byte) (contents : List Byte) (t : State),
    s.handlerNext = some (lp, ⟨0x06, [target, n]⟩) →
    t = (s.answered lp 0x06 (.done (target :: n :: contents))).withPort lp
      { (s.answered lp 0x06 (.done (target :: n :: contents))).port lp with cursor := none } →
    (∀ p : Pos, target = 1 → n.toNat = p.val + 1 → contents = s.positionBytes p →
      exec (.queryPosition lp [target, n]) s = .next t ∧ contents.length = 34 ∧
      contents = [byte (s.context p).state.code, byte (numOr0 (s.context p).antenna),
          byte (phaseCode ((s.context p).transition.map Transition.phase)),
          byte (numOr0 ((s.context p).transition.bind Transition.old)),
          byte (numOr0 ((s.context p).transition.bind Transition.target)),
          byte (causeCode ((s.context p).transition.map Transition.cause)),
          byte ((s.context p).transition.elim 255 fun tr => tr.start.code),
          byte ((s.context p).slot.elim 0 fun r => r.kind.code), byte ((s.context p).slot.elim 0 fun r => r.kind.antennaCode),
          byte ((s.context p).slot.elim 0 fun r => r.status.code),
          byte (causeCode ((s.context p).slot.map PendingRequest.cause)),
          byte (if p ∈ s.held then s.held.idxOf p + 1 else 0), byte (s.context p).mode.code,
          byte (flag (s.context p).mark + 2 * flag (mismatch s.bank s.blocks p)
            + 4 * flag (s.classRecord p).settleTimer.isSome + 8 * flag (s.classRecord p).frequency.isSome
            + 16 * flag (s.pins.keys.get p) + 32 * flag (s.key p).permit + 64 * flag (s.key p).tail.isSome
            + 128 * flag (s.key p).keyWait.isSome),
          byte (s.context p).history.length] ++
        (List.range 8).map (fun i => byte (numOr0 (s.context p).history[i]?)) ++
        [byte (s.classRecord p).source.code, byte ((s.classRecord p).frequency.getD 0 / 256),
          byte ((s.classRecord p).frequency.getD 0), byte ((s.classRecord p).settled.elim 255 Fin.val),
          byte (numOr0 (s.classRecord p).entry),
          byte ((s.classRecord p).entry.elim 0 fun e => (s.bank.plan.get e).band.val + 1),
          byte ((s.classRecord p).entry.elim 0 fun e => (s.bank.plan.get e).list.val + 1),
          byte (flag (s.pinLevel p 0) + 2 * flag (s.pinLevel p 1) + 4 * flag (s.pinLevel p 2) + 8 * flag (s.pinLevel p 3)),
          byte (s.key p).state.code, byte (s.key p).state.reasonCode,
          byte (if p ∈ s.waiting then s.waiting.idxOf p + 1 else 0)]) ∧
    (∀ a : Ant, target = 2 → n.toNat = a.val + 1 → contents = s.antennaBytes a →
      exec (.queryAntenna lp [target, n]) s = .next t ∧ contents.length = 16 ∧
      contents = s.bank.record .antennaTable (a.val + 1) ++
        byte (s.antenna a).holders.length :: (List.range 4).map (fun i => byte (numOr0 (s.antenna a).holders[i]?)) ++
        byte (s.antenna a).reservations.length ::
          (List.range 4).map (fun i => byte (numOr0 (s.antenna a).reservations[i]?)) ++
        [posSetOf fun p => (s.antenna a).holds.get p]) ∧
    (target = 3 → n = 0 → contents = s.stationBytes →
      exec (.queryStation lp [target, n]) s = .next t ∧ contents.length = 35 ∧
      contents = [byte s.station.mode.code,
          byte (flag s.station.causes.store + 2 * flag s.station.causes.supplyFail + 4 * flag s.station.causes.forced),
          byte s.station.startCause.code,
          byte (flag s.banks.valid + 2 * flag s.banks.pending + 4 * flag (decide (s.store.state ≠ .idle))
            + 8 * flag s.station.storeFlag + 16 * flag s.pins.sa + 32 * flag s.pins.sb),
          byte (numOr0 s.banks.issuer),
          byte (match s.store.state with
            | .idle => 0
            | .writing _ q => q.val + 1),
          byte s.supply.level.code, byte (s.supply.measured / 256), byte s.supply.measured, byte s.source.code] ++
        coilSetOf (fun c => decide ((s.sense c).latch = .open)) ++ coilSetOf (fun c => decide ((s.sense c).latch = .short)) ++
        [byte (coils.filter fun c => decide ((s.sense c).latch = .open)).length,
          byte (coils.filter fun c => decide ((s.sense c).latch = .short)).length, byte s.waiting.length] ++
        (List.range 6).map (fun i => byte (numOr0 s.waiting[i]?))) ∧
    (target = 5 → n = 0 → contents = s.allLineBytes →
      exec (.queryLines lp [target, n]) s = .next t ∧ contents.length = 24 ∧
      ∀ (p : Pos) (k : LineNo), contents[4 * p.val + k.val]? = some (byte (
        flag (if (s.classRecord p).source = .link ∧ ((s.lines.get p).get k).out = true
          then ((s.lines.get p).get k).latch else (s.pins.lines.get p).get k)
        + 2 * flag ((s.lines.get p).get k).latch + 4 * flag ((s.lines.get p).get k).out
        + 8 * flag (decide ((s.classRecord p).source = .lines))))) ∧
    (∀ c : Coil, target = 6 → n.toNat = c.val → contents = s.coilBytes c →
      exec (.queryCoil lp [target, n]) s = .next t ∧ contents.length = 14 ∧
      contents = s.bank.record .coilTable c.val ++
        [byte (c.val / 8), byte (s.group (groupOf c)).inForce.code, byte (flag (s.group (groupOf c)).awaited),
          posSetOf fun p => decide (⟨c, true⟩ ∈ (s.claims p).effective),
          posSetOf fun p => decide (⟨c, false⟩ ∈ (s.claims p).effective),
          posSetOf fun p => decide (⟨c, true⟩ ∈ (s.claims p).reserved),
          posSetOf fun p => decide (⟨c, false⟩ ∈ (s.claims p).reserved),
          byte (flag (composedValue s.view s.blocks c) + 2 * flag (s.coil c).commanded + 4 * flag (s.coil c).trip
            + 8 * flag (s.coil c).blank.isSome + 16 * flag (s.coil c).drive),
          byte (s.sense c).sense.code, byte (s.sense c).latch.code]) ∧
    [RouteState.disabled, .idle, .switching, .routed, .faulted].map RouteState.code = [0, 1, 2, 3, 4] ∧
    [none, some Phase.wait, some .brk, some .make, some .check].map phaseCode = [0, 1, 2, 3, 4] ∧
    [none, some Cause.request, some .follow, some .commit, some .fault].map causeCode = [0, 1, 2, 3, 4] ∧
    (∀ a : Ant, [RequestKind.byPreference, .antenna a, .release].map (fun k => (k.code, k.antennaCode)) =
      [(1, 0), (2, a.val + 1), (3, 0)]) ∧
    [PendingStatus.latched, .held].map PendingStatus.code = [1, 2] ∧ [Mode.follow, .manual].map Mode.code = [0, 1] ∧
    [BandSource.link, .lines].map BandSource.code = [0, 1] ∧ (∀ r : Reason,
      [KeyState.up, .waiting r, .on, .tail, .barred r].map (fun k => (k.code, k.reasonCode)) =
        [(0, 0), (1, r.code), (2, 0), (3, 0), (4, r.code)]) ∧
    [Reason.failsafe, .notRouted, .switching, .noBand, .mismatch, .supplyLow, .switchHold, .holderLive, .singleSignal, .lockout,
      .waitLimit, .fault, .commit].map Reason.code = [1, 2, 3, 4, 5, 6, 7, 8, 9, 10, 11, 12, 13] ∧
    [Latch.none, .open, .short].map Latch.code = [0, 1, 2] ∧ [Sense.low, .normal, .high].map Sense.code = [0, 1, 2] ∧
    [SupplyLevel.good, .low, .fail].map SupplyLevel.code = [0, 1, 2] ∧
    [StationMode.starting, .normal, .failsafe].map StationMode.code = [0, 1, 2] ∧
    [OutputSource.none, .routing, .frozen, .safe].map OutputSource.code = [0, 1, 2, 3] ∧
    [StartCause.power, .line, .command].map StartCause.code = [1, 2, 3] ∧
    [GroupMode.shared, .exclusive].map GroupMode.code = [0, 1] ∧ (∀ c : Coil, (groupOf c).val = c.val / 8)

/-- QUERY_LINK (R201): the reply gives the link, its discarded count and notices-dropped flag, the frames that wait without the
query's own, the notices that wait and the rate code; the count and the flag are cleared, and the cursor is unset (R200). -/
def Obligations.QueryLinkReportsAndClears : Prop :=
  ∀ (s : State) (lp : Pos),
    s.handlerNext = some (lp, ⟨0x06, [4, 0]⟩) →
    ∃ t, exec (.queryLink lp [4, 0]) s = .next t ∧ t = { s with pointer := lp + 1, ports := put s.ports lp (t.port lp) } ∧
      t.port lp = { s.port lp with
        inbound := (s.port lp).inbound.tail, discarded := 0, dropped := false, cursor := none
        reply := some ⟨0x06, .done [4, 0, byte (lp.val + 1), byte (s.port lp).discarded, byte (flag (s.port lp).dropped),
          byte ((s.port lp).inbound.length - 1), byte (s.port lp).notices.length,
          byte (2 * flag s.rate.rate1 + flag s.rate.rate0)]⟩ }

/-- COMMIT (R19, R156, R158): BUSY while PENDING; INCONSISTENT with the offender when a check of the Staging bank fails; else
PENDING, with the issuing link, the commit timer and, when the apply condition holds, apply due. Neither bank and no block is
changed. The offender is the lowest index of the first of the six checks that fails (R19). -/
def Obligations.CommitAccepted : Prop :=
  ∀ (s : State) (lp : Pos) (s' : State),
    s.handlerNext = some (lp, ⟨0x0A, []⟩) →
    s' = { s with banks := { s.banks with
      pending := true, issuer := some lp, timer := some (s.bank.timing.commitWaitS * 1000) } } →
    (s.banks.pending = true → exec (.commit lp []) s = .next (s.answered lp 0x0A .busy)) ∧
    (s.banks.pending = false →
      (∀ (t : TableId) (i : Nat), s.banks.staging.inconsistency = some (t, i) →
        exec (.commit lp []) s = .next (s.answered lp 0x0A (.inconsistent t i))) ∧
      (s.banks.staging.inconsistency = none → applyReady s' → exec (.commit lp []) s =
        .next { s'.answered lp 0x0A (.accepted none) with banks := { s'.banks with due := true } }) ∧
      (s.banks.staging.inconsistency = none → ¬ applyReady s' → exec (.commit lp []) s =
        .next (s'.answered lp 0x0A (.accepted none)))) ∧
    (s.banks.staging.inconsistency = none ↔ ∀ (k : Nat) (t : TableId) (i : Nat), ¬ offends s.banks.staging k t i) ∧
    ∀ (t : TableId) (i : Nat), s.banks.staging.inconsistency = some (t, i) ↔
      ∃ k, offends s.banks.staging k t i ∧ (∀ j, j < k → ∀ (u : TableId) (m : Nat), ¬ offends s.banks.staging j u m) ∧
        ∀ m, m < i → ¬ offends s.banks.staging k t m

/-- DISCARD, STORE and RESTART (R155, R176, R179): DISCARD copies Active into Staging unless a commit is PENDING; STORE takes the
Active bank, leaves the stored image not checking and records its link; RESTART joins the restart-due set unless a store runs.
Each is answered BUSY otherwise, and changes nothing else. -/
def Obligations.DiscardStoreAndRestart : Prop :=
  ∀ (s : State) (lp : Pos),
    (s.handlerNext = some (lp, ⟨0x0B, []⟩) → exec (.discard lp []) s =
      if s.banks.pending = true then .next (s.answered lp 0x0B .busy)
      else .next { s.answered lp 0x0B (.done []) with banks := { s.banks with staging := s.banks.active } }) ∧
    (s.handlerNext = some (lp, ⟨0x0C, []⟩) → exec (.store lp []) s =
      if s.store.state = .idle then
        .next { s.answered lp 0x0C (.accepted none) with store := ⟨.torn, .writing s.banks.active lp⟩ }
      else .next (s.answered lp 0x0C .busy)) ∧
    (s.handlerNext = some (lp, ⟨0x10, []⟩) → exec (.restart lp []) s =
      if s.store.state = .idle then
        .next { s.answered lp 0x10 (.done []) with
          station := { s.station with restartDue := put s.station.restartDue lp true } }
      else .next (s.answered lp 0x10 .busy))

/-- STORE_COMPLETION with no restart waiting (R176, R177): the stored image holds the bank taken, with its check word, or does not
check; the store flag follows the outcome; apply becomes due when the apply condition now holds (R158); the links are told,
but for a FAILED outcome that the mask suppresses. No block is changed. -/
def Obligations.StoreCompletionEndsStore : Prop :=
  ∀ (s : State) (verified : Bool) (straps : Straps) (taken : Bank) (lp : Pos) (s' : State),
    s.store.state = .writing taken lp → s.station.restartWaits = false →
    s' = { s with
      store := ⟨if verified then .written taken (Config.imageCheckWord taken.bytes) else .torn, .idle⟩
      station := { s.station with storeFlag := !verified } } →
    ∃ t, exec (.storeCompletion verified straps) s = .next t ∧ noticesOnly s.ports t.ports ∧
      (applyReady s' → t = { s' with ports := t.ports, banks := { s.banks with due := true } }) ∧
      (¬ applyReady s' → t = { s' with ports := t.ports }) ∧
      ((verified = true ∨ s.bank.diagnostics.mask.store = false) → ∀ q : Pos, (s.port q).notices.length ≤ 4 →
        holdsNotice t q fun n => decide (n = .store verified (some lp))) ∧
      (verified = false → s.bank.diagnostics.mask.store = true → t.ports = s.ports)

/-- COMMIT_TIMER_EXPIRY (R159): the pending commit is abandoned, both banks stay as they are, every transition in WAIT whose quiet
condition now holds becomes due and nothing else of the blocks moves, all six links are told ABANDONED, with the issuing link
and no position released (R191), and an apply event that comes after it does nothing. -/
def Obligations.CommitTimerAbandons : Prop :=
  ∀ (s : State) (s' : State),
    s.banks.pending = true → s.banks.timer.isSome = true →
    s' = { s with banks := { s.banks with pending := false, due := false, issuer := none, timer := none } } →
    ∃ t, exec .commitTimerExpiry s = .next t ∧ told s t [.bank false s.banks.issuer 0] ∧
      t = { s' with ports := t.ports, blocks := { s.blocks with routes := { s.blocks.routes with
        contexts := t.blocks.routes.contexts } } } ∧
      (∀ p : Pos, (s.context p).transition = none → t.context p = s.context p) ∧
      (∀ p : Pos, ∀ tr ∈ (s.context p).transition,
        (tr.phase = .wait → quietCondition s' p tr →
          t.context p = { s.context p with transition := some { tr with due := true } }) ∧
        (¬ (tr.phase = .wait ∧ quietCondition s' p tr) → t.context p = s.context p)) ∧
      exec .commitApply t = .next t

/-- COMMIT_APPLY (R29, R95, R97, R120, R147, R158, R160 to R166): with the condition gone the due mark alone is removed; else
Staging is copied into Active, the bank-valid flag is set and the commit is over. No relay of a route moves and no holder leaves.
Step A abandons the transitions of REQUEST and FOLLOW and sets each position to its new entry; B and C force-release the routes
that are invalid and the holders over the limit, latest first; D sets the groups, takes every band entry from the new bank and
withdraws the ON positions that now fail; E takes the FOLLOW and the kept requests against the new bank; F recomputes, classifies
and examines every coil and moves the supply level, of which every link is told (R125), and a change to FAIL, and that alone,
makes a fail entry due; G leaves every quiet transition due and no held request with a target, and raises the BANK NOTICE. The
link of a position withdrawn is told WITHDRAWN with the conflicting position (R147, R152). The model's readings: the kind kept for
step E is that of the request that set the target (notes/assumptions/7.md), the walks of step G come once each
(notes/assumptions/9.md), and the BANK NOTICE counts the positions of steps B and C (notes/assumptions/16.md). -/
def Obligations.CommitApplyTakesBank : Prop :=
  ∀ (s : State),
    s.banks.due = true →
    (¬ applyReady s → exec .commitApply s = .next { s with banks := { s.banks with due := false } }) ∧
    (applyReady s → ∃ t, exec .commitApply s = .next t ∧ noticesOnly s.ports t.ports ∧
      t = { s with
        banks := ⟨s.banks.staging, s.banks.staging, true, false, none, none, false⟩
        supply := { s.supply with level := t.supply.level }
        station := { s.station with failEntryDue := t.station.failEntryDue }
        blocks := t.blocks, ports := t.ports } ∧
      t.supply.level = nextLevel s.banks.staging.diagnostics s.supply.level s.supply.measured ∧
      t.station.failEntryDue = (s.station.failEntryDue || decide (t.supply.level = .fail ∧ s.supply.level ≠ .fail)) ∧
      (∀ p : Pos, (t.classRecord p).source = (s.banks.staging.positions.get p).source ∧
        (t.classRecord p).frequency = (s.classRecord p).frequency ∧
        (t.classRecord p).entry = deriveEntry s.banks.staging (t.classRecord p)) ∧
      (∀ c : Coil, (t.sense c).current = (s.sense c).current ∧
        (t.sense c).sense = senseClass s.banks.staging c (s.sense c).current) ∧
      t.source = s.source ∧
      (∀ p : Pos, (t.context p).history = (s.context p).history ∧ (t.context p).antenna = (s.context p).antenna ∧
        (t.claims p).effective = (s.claims p).effective ∧
        ((s.bank.positions.get p).enabled = (s.banks.staging.positions.get p).enabled →
          (t.context p).mode = (s.context p).mode)) ∧
      (∀ a : Ant, (t.antenna a).holders = (s.antenna a).holders) ∧ (∀ c : Coil, coilApplied s t c) ∧
      (heldConsistent s → placesConsistent s →
        (∀ p : Pos, enablementApplied s t p ∧ releasesApplied s t p ∧ reselected s t p) ∧
        (∀ g : Group, groupApplied s t g) ∧ (onAirRouted s → ∀ p : Pos, permitApplied s t p) ∧ closeApplied s t))

/-! ### The station (chapter 9) -/

/-- FORCE_SAFE and APPLY_SUPPLY_FAIL_ENTRY (R165, R170 to R172): in NORMAL fail-safe entry with that one cause; in FAILSAFE the
cause is added and nothing else moves; in either case FORCE SAFE is answered DONE. The entry examines a pending commit (R158).
Every link is told ENTERED, or CAUSE_ADDED when the cause is new. -/
def Obligations.FailSafeEntryClearsRoutes : Prop :=
  ∀ (s : State) (lp : Pos),
    (s.handlerNext = some (lp, ⟨0x0F, []⟩) → s.station.mode = .normal → ∃ t, exec (.forceSafe lp []) s = .next t ∧
      blocksAndApply { s.answered lp 0x0F (.done []) with
        station := { s.station with mode := .failsafe, causes := ⟨false, false, true⟩ } } t ∧ failSafeEntered s t ∧
      told (s.answered lp 0x0F (.done [])) t [causeNotice .entered ⟨false, false, true⟩ t.source 3]) ∧
    (s.handlerNext = some (lp, ⟨0x0F, []⟩) → s.station.mode = .failsafe → ∃ t, exec (.forceSafe lp []) s = .next t ∧
      t = { s.answered lp 0x0F (.done []) with
        station := { s.station with causes := { s.station.causes with forced := true } }, ports := t.ports } ∧
      told (s.answered lp 0x0F (.done [])) t (if s.station.causes.forced = true then [] else
        [causeNotice .causeAdded { s.station.causes with forced := true } s.source 3])) ∧
    (s.station.failEntryDue = true → s.station.mode = .normal → ∃ t, exec .applySupplyFailEntry s = .next t ∧
      blocksAndApply { s with
        station := { s.station with mode := .failsafe, causes := ⟨false, true, false⟩, failEntryDue := false } } t ∧
      failSafeEntered s t ∧ told s t [causeNotice .entered ⟨false, true, false⟩ t.source 2]) ∧
    (s.station.failEntryDue = true → s.station.mode = .failsafe → ∃ t, exec .applySupplyFailEntry s = .next t ∧
      t = { s with ports := t.ports, station := { s.station with
        causes := { s.station.causes with supplyFail := true }, failEntryDue := false } } ∧
      told s t (if s.station.causes.supplyFail = true then [] else
        [causeNotice .causeAdded { s.station.causes with supplyFail := true } s.source 2]))

/-- RESUME (R30, R62, R97, R103, R150, R174): refused with STATE outside FAILSAFE, under FROZEN, with a supply that is not GOOD or
with bank-valid clear; else the station is NORMAL with no cause, the source ROUTING, every coil recomputed to the value R96 gives,
and every position in its default mode; the reply is DONE and every link is told. Where the station was quiet the key records
stand, and then, in ascending order, each enabled position in FOLLOW with a band has its FOLLOW request taken against what the one
before left, with its ROUTE NOTICE. -/
def Obligations.ResumeReturnsToNormal : Prop :=
  ∀ (s : State) (lp : Pos),
    s.handlerNext = some (lp, ⟨0x0E, []⟩) →
    ((s.station.mode ≠ .failsafe ∨ s.source = .frozen ∨ s.supply.level ≠ .good ∨ s.banks.valid = false) →
      exec (.resume lp []) s = .next (s.answered lp 0x0E (.refused .state))) ∧
    (s.station.mode = .failsafe → s.source ≠ .frozen → s.supply.level = .good → s.banks.valid = true →
      ∃ t, exec (.resume lp []) s = .next t ∧
        blocksOnly { s.answered lp 0x0E (.done []) with
          station := { s.station with mode := .normal, causes := ⟨false, false, false⟩ } } t ∧
        t.source = .routing ∧
        (∀ c : Coil, (t.coil c).trip = (s.coil c).trip ∧ (t.coil c).commanded =
          (!(s.coil c).trip && (claimedValue s.blocks c).getD (s.bank.coils.get c).rest) ∧ recomputed s t c) ∧
        (∀ p : Pos, (t.context p).mode = (s.bank.positions.get p).defaultMode ∧
          (t.context p).antenna = (s.context p).antenna) ∧
        t.blocks.classifier = s.blocks.classifier ∧ t.blocks.monitor = s.blocks.monitor ∧
        (∀ q : Pos, (s.port q).notices.length ≤ 4 → holdsNotice t q fun n =>
          decide (n = .station .resumed .normal ⟨false, false, false⟩ .routing (lp.val + 1) false)) ∧
        (quietUnlessNormal s → t.blocks.gate = s.blocks.gate ∧
          ∃ u : Nat → State, (∀ p : Pos, followAtResume (u p.val) (u (p.val + 1)) p) ∧ u 6 = t ∧
            told (s.answered lp 0x0E (.done [])) (u 0)
              [.station .resumed .normal ⟨false, false, false⟩ .routing (lp.val + 1) false] ∧
            u 0 = { s.answered lp 0x0E (.done []) with
              station := { s.station with mode := .normal, causes := ⟨false, false, false⟩ }
              ports := (u 0).ports
              blocks := { s.blocks with
                routes := { s.blocks.routes with contexts := Vector.ofFn fun p =>
                  { s.context p with mode := (s.bank.positions.get p).defaultMode } }
                image := { s.blocks.image with source := .routing, coils := t.blocks.image.coils } } }))

/-- LOAD_COMPLETION (R28, R35, R38, R108, R123, R150, R180, R181) with image `image`, or with none that checks: both banks take
its contents or the empty contents; NORMAL when it checks and the supply is not FAIL, else FAILSAFE with its causes; contexts,
classifier, groups, coils and keys take their starting state; each coil is recomputed, under a fresh blank where it changes; the
keys that are down join the waiting list in ascending order; and every link is told of a level that is not GOOD and of the start.
Before start-up, or after it, the command changes nothing (the model's choice, notes/assumptions/3.md). That every coil is
reclassified and none is judged, so that every latch stays, and that the level is set from the measured voltage held, is the
model's reading (notes/assumptions/21.md; R111, R117). -/
def Obligations.LoadCompletionStartsStation : Prop :=
  ∀ (s : State) (image : Option Bank) (b : Bank) (level : SupplyLevel) (normal : Bool),
    image = s.store.image.loaded → b = image.getD Bank.empty →
    level = (if b.diagnostics.supplyLow ≤ s.supply.measured then .good
      else if b.diagnostics.supplyFail ≤ s.supply.measured then .low else .fail) →
    normal = (image.isSome && decide (level ≠ .fail)) →
    ((s.startUp = false ∨ s.station.mode ≠ .starting) → exec .loadCompletion s = .next s) ∧
    (s.startUp = true → s.station.mode = .starting → ∃ t, exec .loadCompletion s = .next t ∧
      noticesOnly s.ports t.ports ∧
      t = { s with
        banks := ⟨b, b, image.isSome, false, none, none, false⟩
        supply := ⟨s.supply.measured, level, true⟩
        station := { s.station with
          mode := if normal then .normal else .failsafe
          causes := ⟨!image.isSome, decide (level = .fail), false⟩
          storeFlag := !image.isSome }
        blocks := t.blocks, ports := t.ports } ∧
      (∀ p : Pos, t.context p = { s.context p with
        state := if (b.positions.get p).enabled then .idle else .disabled, mode := (b.positions.get p).defaultMode }) ∧
      (∀ p : Pos, t.classRecord p = ⟨(b.positions.get p).source, none, none,
        if (b.positions.get p).source = .lines then some b.timing.settleMs else none, none⟩) ∧
      (∀ g : Group, t.group g = ⟨b.groups.get g, false⟩) ∧
      t.source = (if normal then .routing else .safe) ∧
      (∀ c : Coil, (t.coil c).commanded = (!(s.coil c).trip && if normal
        then (claimedValue s.blocks c).getD (b.coils.get c).rest
        else (b.coils.get c).failSafe.level s.pins.sa s.pins.sb) ∧ recomputed s t c) ∧
      (∀ c : Coil, t.sense c = { s.sense c with sense := senseClass b c (s.sense c).current }) ∧
      (∀ p : Pos, t.claims p = s.claims p) ∧ t.blocks.routes.antennas = s.blocks.routes.antennas ∧ t.held = s.held ∧
      (∀ p : Pos, t.key p = if s.pins.keys.get p = false then ⟨.up, none, none, false⟩
        else if normal = true then ⟨.waiting .notRouted, none,
          if b.timing.keyWaitMs = 0 then none else some b.timing.keyWaitMs, false⟩
        else ⟨.barred .failsafe, none, none, false⟩) ∧
      t.waiting = s.waiting ++ (if normal = true then positions.filter fun p => s.pins.keys.get p else []) ∧
      told s t ((if level = .good then [] else levelNotice b.diagnostics.mask none level s.supply.measured) ++
        [.station .started t.station.mode t.station.causes t.source s.station.startCause.code image.isSome]))

/-- The resets (R107, R149, R176, R178, R179): RESET going low, power, the completion of a restart-due link's reply, and the
completion of the store it waited for leave every register at its reset value with the start cause; start-up begins at once, or
when RESET returns high, with the straps sampled. The supply level before the first conversion is the model's choice
(notes/assumptions/14.md) and is not stated; a command that gives RESET the level it has changes nothing (the model's choice,
notes/assumptions/3.md). The model's choices are also that the commands that wait are kept (notes/assumptions/19.md), that the
pins, the sensed currents and the measured voltage are inputs and are kept (notes/assumptions/2.md), that both banks are empty
until the load (notes/assumptions/5.md), that the strap levels are operands (notes/assumptions/13.md), and that the link whose
reply has gone out leaves the restart-due set while the restart waits (notes/assumptions/24.md). -/
def Obligations.ResetsOfEveryKind : Prop :=
  ∀ (s : State) (lp : Pos) (low : Bool) (straps : Straps),
    (s.pins.resetLow = true → exec .resetLineLow s = .next s) ∧
    (s.pins.resetLow = false → ∃ t, exec .resetLineLow s = .next t ∧ t.supply.measured = s.supply.measured ∧
      t = { s.afterReset .line s.imageAfterReset t.supply with pins := { s.pins with resetLow := true } }) ∧
    (s.pins.resetLow = false → exec (.resetLineHigh straps) s = .next s) ∧
    (s.pins.resetLow = true → exec (.resetLineHigh straps) s =
      .next { s with pins := { s.pins with resetLow := false }, startUp := true, rate := straps }) ∧
    (∃ t, exec (.powerOn low straps) s = .next t ∧ t.supply.measured = s.supply.measured ∧
      t = { s.afterReset .power s.imageAfterReset t.supply with
        pins := { s.pins with resetLow := low }, startUp := !low, rate := if low then s.rate else straps }) ∧
    ((s.port lp).transmitter = .sendingReply → s.station.restartDue.get lp = true →
      (s.store.state = .idle → ∃ t, exec (.transmitCompletion lp straps) s = .next t ∧
        t.supply.measured = s.supply.measured ∧
        t = { s.afterReset .command s.store.image t.supply with startUp := true, rate := straps }) ∧
      (s.store.state ≠ .idle → exec (.transmitCompletion lp straps) s = .next { s with
        station := { s.station with restartDue := put s.station.restartDue lp false, restartWaits := true }
        ports := put s.ports lp { s.port lp with reply := none, transmitter := .idle } })) ∧
    (∀ (verified : Bool) (taken : Bank) (q : Pos), s.store.state = .writing taken q → s.station.restartWaits = true →
      ∃ t, exec (.storeCompletion verified straps) s = .next t ∧ t.supply.measured = s.supply.measured ∧
        t = { s.afterReset .command
            (if verified then .written taken (Config.imageCheckWord taken.bytes) else .torn) t.supply with
          startUp := true, rate := straps })

/-! ### Invariants that every step keeps -/

/-- The registers of the station, the commit unit and the store agree (R154, R168, R176), and in STARTING no commit is pending and
the Active bank is empty (R123; the model's choice, notes/assumptions/5.md); and with them the Active bank, a Staging bank whose
commit is PENDING, an image that checks and the bank a store has taken all pass the consistency checks (R19). -/
def Obligations.StepKeepsRegistersAgree : Prop :=
  ∀ (s t : State), step s = .next t →
    (registersAgree s → registersAgree t) ∧ (registersAgree s → banksConsistent s → banksConsistent t)

/-- Queues, counters and histories keep their limits (R56, R183, R185, R188). -/
def Obligations.StepKeepsQueuesBounded : Prop :=
  ∀ (s t : State), queuesBounded s → step s = .next t → queuesBounded t

/-- The drives follow the commanded values, and a coil is tripped, and OFF, exactly while its latch holds SHORT (R104, R105). -/
def Obligations.StepKeepsDriversFollow : Prop :=
  ∀ (s t : State), driversFollow s → step s = .next t → driversFollow t

/-- Every commanded value stays the one the table of R96 derives, spelt out here (commandedByTable): OFF under source none and
while tripped; under ROUTING the value of the claims on the coil, which are of one value, or its rest value unclaimed; its frozen
value under FROZEN; its fail-safe value under SAFE (R96, R97); and, under consistent banks, the claims keep their law: two
positions claim one coil only at one value and in a group with SHARED in force, and each group's mode in force is its Active mode,
or SHARED while EXCLUSIVE is awaited (R94), which it is only while two positions claim one of its coils (R95). -/
def Obligations.StepKeepsCommandedDerived : Prop :=
  (∀ (s : State) (c : Coil), composedByTable s c (composedValue s.view s.blocks c) ∧
    commandedByTable s c (derivedValue s.view s.blocks c) ∧
    (claimsLawful s → commandedDerived s → commandedByTable s c (s.coil c).commanded ∧
      (s.source = .routing → (s.coil c).trip = false → ∀ p : Pos, ∀ k ∈ (s.claims p).effective, k.coil = c →
        (s.coil c).commanded = k.on))) ∧
  ∀ (s t : State), step s = .next t →
    (commandedDerived s → commandedDerived t) ∧
      (quietUnlessNormal s → banksConsistent s → claimsLawful s → claimsLawful t) ∧
      (quietUnlessNormal s → heldConsistent s → placesConsistent s → commandedDerived s → groupsSettled s → groupsSettled t)

/-- TPn is asserted exactly in ON, and the waiting list holds exactly the WAITING positions (R127, R128, R137). -/
def Obligations.StepKeepsGateConsistent : Prop :=
  ∀ (s t : State), gateConsistent s → step s = .next t → gateConsistent t

/-- Outside NORMAL the station is quiet: no TP, no holder, no reservation, no held and no pending request (R169). -/
def Obligations.StepKeepsQuietUnlessNormal : Prop :=
  ∀ (s t : State), quietUnlessNormal s → step s = .next t → quietUnlessNormal t

/-- No two positions on the air conflict on single-signal or lockout (R133). -/
def Obligations.StepKeepsNoConflictOnAir : Prop :=
  ∀ (s t : State), noConflictOnAir s → step s = .next t → noConflictOnAir t

/-- A position on the air is ROUTED, in no transition, on an antenna that covers its band (R131, R144, R146); and with the
contexts and the antenna records what is on the air is still and whole: TPn only in NORMAL and over no latched coil (R116), at
most one live holder on an antenna (R132), and nothing live on the antennas of a transition from BREAK to its end (R90). -/
def Obligations.StepKeepsOnAirRouted : Prop :=
  ∀ (s t : State), onAirRouted s → step s = .next t → onAirRouted t ∧
    (quietUnlessNormal s → heldConsistent s → placesConsistent s → airClear s → airClear t)

/-- The pending slots and the held list agree (R52); and with them the contexts and the antenna records: what each route state
says of antenna and transition (R36), the holders, reservations and switch holds of every antenna (R39), and the bound of R45 on
the holders without the forced-release mark and the reservations together. -/
def Obligations.StepKeepsHeldConsistent : Prop :=
  ∀ (s t : State), step s = .next t →
    (heldConsistent s → heldConsistent t) ∧
      (quietUnlessNormal s → heldConsistent s → placesConsistent s → placesConsistent t)

/-- Every band entry is the one the Active bank gives (R20, R22, R24, R29). -/
def Obligations.StepKeepsEntriesDerived : Prop :=
  ∀ (s t : State), entriesDerived s → step s = .next t → entriesDerived t

/-- Every invariant holds right after reset. That both banks are then empty and the stored image does not check is the model's
choice (notes/assumptions/2.md and 5.md). -/
def Obligations.InvariantsHoldAtReset : Prop :=
  registersAgree State.reset ∧ queuesBounded State.reset ∧ driversFollow State.reset ∧ commandedDerived State.reset ∧
    gateConsistent State.reset ∧ quietUnlessNormal State.reset ∧ noConflictOnAir State.reset ∧
    onAirRouted State.reset ∧ heldConsistent State.reset ∧ entriesDerived State.reset ∧
    banksConsistent State.reset ∧ claimsLawful State.reset ∧ groupsSettled State.reset ∧ placesConsistent State.reset ∧
    airClear State.reset

end
end

