-- ==== Sys2Proof/Laws/State.lean ====
section
/-!
SUPPORT. The small lemmas of the state and of the accessors of a `Work`: a table with one entry replaced, and one lemma
per field per update, true by rfl, so that no later proof unfolds a record update.
-/
namespace Sys2Proof.Machine

/-! ### One entry replaced -/

@[simp] theorem put_get_same {α : Type} {n : Nat} (v : Vector α n) (i : Fin n) (x : α) : (put v i x).get i = x := by
  change (v.set i.val x i.isLt)[i.val] = x
  simp

theorem put_get_other {α : Type} {n : Nat} (v : Vector α n) {i j : Fin n} (x : α) (h : j ≠ i) :
    (put v i x).get j = v.get j := by
  have h1 : i.val ≠ j.val := fun e => h (Fin.ext e.symm)
  change (v.set i.val x i.isLt)[j.val] = v[j.val]
  simp [h1]

theorem put_get {α : Type} {n : Nat} (v : Vector α n) (i j : Fin n) (x : α) :
    (put v i x).get j = if j = i then x else v.get j := by
  by_cases h : j = i
  · subst h; simp
  · simp [put_get_other, h]

@[simp] theorem ofFn_get {α : Type} {n : Nat} (f : Fin n → α) (i : Fin n) : (Vector.ofFn f).get i = f i := by
  change (Vector.ofFn f)[i.val] = f i
  simp

@[simp] theorem replicate_get {α : Type} {n : Nat} (x : α) (i : Fin n) : (Vector.replicate n x).get i = x := by
  change (Vector.replicate n x)[i.val] = x
  simp

/-- Two tables with the same entries are equal. -/
theorem vector_ext {α : Type} {n : Nat} {v w : Vector α n} (h : ∀ i : Fin n, v.get i = w.get i) : v = w := by
  apply Vector.ext
  intro i hi
  exact h ⟨i, hi⟩

/-- A table with an entry replaced by itself. -/
@[simp] theorem put_get_self {α : Type} {n : Nat} (v : Vector α n) (i : Fin n) : put v i (v.get i) = v := by
  apply vector_ext
  intro j
  by_cases h : j = i
  · subst h; simp
  · simp [put_get_other, h]

/-- A part that every step of a fold leaves is left by the fold. -/
theorem foldl_frame {σ α β : Type} (g : σ → β) (f : σ → α → σ) (h : ∀ s a, g (f s a) = g s) (l : List α) (s : σ) :
    g (l.foldl f s) = g s := by
  induction l generalizing s with
  | nil => rfl
  | cons a l ih => rw [List.foldl_cons, ih, h]

/-- A property that every step of a fold keeps is kept by the fold. -/
theorem foldl_keeps {σ α : Type} (P : σ → Prop) (f : σ → α → σ) (h : ∀ s a, P s → P (f s a)) (l : List α) (s : σ)
    (hs : P s) : P (l.foldl f s) := by
  induction l generalizing s with
  | nil => exact hs
  | cons a l ih => exact ih _ (h s a hs)

/-! ### The updates of a work -/

namespace Work

@[simp] theorem raise_classifier (n : Raised) (w : Work) : (w.raise n).classifier = w.classifier := rfl
@[simp] theorem raise_routes (n : Raised) (w : Work) : (w.raise n).routes = w.routes := rfl
@[simp] theorem raise_image (n : Raised) (w : Work) : (w.raise n).image = w.image := rfl
@[simp] theorem raise_monitor (n : Raised) (w : Work) : (w.raise n).monitor = w.monitor := rfl
@[simp] theorem raise_gate (n : Raised) (w : Work) : (w.raise n).gate = w.gate := rfl
@[simp] theorem raise_heldWalk (n : Raised) (w : Work) : (w.raise n).heldWalk = w.heldWalk := rfl
@[simp] theorem raise_waitingWalk (n : Raised) (w : Work) : (w.raise n).waitingWalk = w.waitingWalk := rfl
@[simp] theorem raise_examineAll (n : Raised) (w : Work) : (w.raise n).examineAll = w.examineAll := rfl
@[simp] theorem raise_examine (n : Raised) (w : Work) : (w.raise n).examine = w.examine := rfl
@[simp] theorem raise_ended (n : Raised) (w : Work) : (w.raise n).ended = w.ended := rfl
@[simp] theorem raise_abandonFaults (n : Raised) (w : Work) : (w.raise n).abandonFaults = w.abandonFaults := rfl
@[simp] theorem raise_commitTold (n : Raised) (w : Work) : (w.raise n).commitTold = w.commitTold := rfl

@[simp] theorem setRecord_routes (p : Pos) (r : ClassRecord) (w : Work) : (w.setRecord p r).routes = w.routes := rfl
@[simp] theorem setRecord_image (p : Pos) (r : ClassRecord) (w : Work) : (w.setRecord p r).image = w.image := rfl
@[simp] theorem setRecord_monitor (p : Pos) (r : ClassRecord) (w : Work) : (w.setRecord p r).monitor = w.monitor := rfl
@[simp] theorem setRecord_gate (p : Pos) (r : ClassRecord) (w : Work) : (w.setRecord p r).gate = w.gate := rfl
@[simp] theorem setRecord_raised (p : Pos) (r : ClassRecord) (w : Work) : (w.setRecord p r).raised = w.raised := rfl
@[simp] theorem setRecord_heldWalk (p : Pos) (r : ClassRecord) (w : Work) : (w.setRecord p r).heldWalk = w.heldWalk := rfl
@[simp] theorem setRecord_waitingWalk (p : Pos) (r : ClassRecord) (w : Work) : (w.setRecord p r).waitingWalk = w.waitingWalk := rfl
@[simp] theorem setRecord_examineAll (p : Pos) (r : ClassRecord) (w : Work) : (w.setRecord p r).examineAll = w.examineAll := rfl
@[simp] theorem setRecord_examine (p : Pos) (r : ClassRecord) (w : Work) : (w.setRecord p r).examine = w.examine := rfl
@[simp] theorem setRecord_ended (p : Pos) (r : ClassRecord) (w : Work) : (w.setRecord p r).ended = w.ended := rfl
@[simp] theorem setRecord_abandonFaults (p : Pos) (r : ClassRecord) (w : Work) : (w.setRecord p r).abandonFaults = w.abandonFaults := rfl
@[simp] theorem setRecord_commitTold (p : Pos) (r : ClassRecord) (w : Work) : (w.setRecord p r).commitTold = w.commitTold := rfl

@[simp] theorem setContext_classifier (p : Pos) (c : Context) (w : Work) : (w.setContext p c).classifier = w.classifier := rfl
@[simp] theorem setContext_image (p : Pos) (c : Context) (w : Work) : (w.setContext p c).image = w.image := rfl
@[simp] theorem setContext_monitor (p : Pos) (c : Context) (w : Work) : (w.setContext p c).monitor = w.monitor := rfl
@[simp] theorem setContext_gate (p : Pos) (c : Context) (w : Work) : (w.setContext p c).gate = w.gate := rfl
@[simp] theorem setContext_raised (p : Pos) (c : Context) (w : Work) : (w.setContext p c).raised = w.raised := rfl
@[simp] theorem setContext_heldWalk (p : Pos) (c : Context) (w : Work) : (w.setContext p c).heldWalk = w.heldWalk := rfl
@[simp] theorem setContext_waitingWalk (p : Pos) (c : Context) (w : Work) : (w.setContext p c).waitingWalk = w.waitingWalk := rfl
@[simp] theorem setContext_examineAll (p : Pos) (c : Context) (w : Work) : (w.setContext p c).examineAll = w.examineAll := rfl
@[simp] theorem setContext_examine (p : Pos) (c : Context) (w : Work) : (w.setContext p c).examine = w.examine := rfl
@[simp] theorem setContext_ended (p : Pos) (c : Context) (w : Work) : (w.setContext p c).ended = w.ended := rfl
@[simp] theorem setContext_abandonFaults (p : Pos) (c : Context) (w : Work) : (w.setContext p c).abandonFaults = w.abandonFaults := rfl
@[simp] theorem setContext_commitTold (p : Pos) (c : Context) (w : Work) : (w.setContext p c).commitTold = w.commitTold := rfl

@[simp] theorem setAntenna_classifier (a : Ant) (r : AntennaRecord) (w : Work) : (w.setAntenna a r).classifier = w.classifier := rfl
@[simp] theorem setAntenna_image (a : Ant) (r : AntennaRecord) (w : Work) : (w.setAntenna a r).image = w.image := rfl
@[simp] theorem setAntenna_monitor (a : Ant) (r : AntennaRecord) (w : Work) : (w.setAntenna a r).monitor = w.monitor := rfl
@[simp] theorem setAntenna_gate (a : Ant) (r : AntennaRecord) (w : Work) : (w.setAntenna a r).gate = w.gate := rfl
@[simp] theorem setAntenna_raised (a : Ant) (r : AntennaRecord) (w : Work) : (w.setAntenna a r).raised = w.raised := rfl
@[simp] theorem setAntenna_heldWalk (a : Ant) (r : AntennaRecord) (w : Work) : (w.setAntenna a r).heldWalk = w.heldWalk := rfl
@[simp] theorem setAntenna_waitingWalk (a : Ant) (r : AntennaRecord) (w : Work) : (w.setAntenna a r).waitingWalk = w.waitingWalk := rfl
@[simp] theorem setAntenna_examineAll (a : Ant) (r : AntennaRecord) (w : Work) : (w.setAntenna a r).examineAll = w.examineAll := rfl
@[simp] theorem setAntenna_examine (a : Ant) (r : AntennaRecord) (w : Work) : (w.setAntenna a r).examine = w.examine := rfl
@[simp] theorem setAntenna_ended (a : Ant) (r : AntennaRecord) (w : Work) : (w.setAntenna a r).ended = w.ended := rfl
@[simp] theorem setAntenna_abandonFaults (a : Ant) (r : AntennaRecord) (w : Work) : (w.setAntenna a r).abandonFaults = w.abandonFaults := rfl
@[simp] theorem setAntenna_commitTold (a : Ant) (r : AntennaRecord) (w : Work) : (w.setAntenna a r).commitTold = w.commitTold := rfl

@[simp] theorem setHeld_classifier (l : List Pos) (w : Work) : (w.setHeld l).classifier = w.classifier := rfl
@[simp] theorem setHeld_image (l : List Pos) (w : Work) : (w.setHeld l).image = w.image := rfl
@[simp] theorem setHeld_monitor (l : List Pos) (w : Work) : (w.setHeld l).monitor = w.monitor := rfl
@[simp] theorem setHeld_gate (l : List Pos) (w : Work) : (w.setHeld l).gate = w.gate := rfl
@[simp] theorem setHeld_raised (l : List Pos) (w : Work) : (w.setHeld l).raised = w.raised := rfl
@[simp] theorem setHeld_heldWalk (l : List Pos) (w : Work) : (w.setHeld l).heldWalk = w.heldWalk := rfl
@[simp] theorem setHeld_waitingWalk (l : List Pos) (w : Work) : (w.setHeld l).waitingWalk = w.waitingWalk := rfl
@[simp] theorem setHeld_examineAll (l : List Pos) (w : Work) : (w.setHeld l).examineAll = w.examineAll := rfl
@[simp] theorem setHeld_examine (l : List Pos) (w : Work) : (w.setHeld l).examine = w.examine := rfl
@[simp] theorem setHeld_ended (l : List Pos) (w : Work) : (w.setHeld l).ended = w.ended := rfl
@[simp] theorem setHeld_abandonFaults (l : List Pos) (w : Work) : (w.setHeld l).abandonFaults = w.abandonFaults := rfl
@[simp] theorem setHeld_commitTold (l : List Pos) (w : Work) : (w.setHeld l).commitTold = w.commitTold := rfl

@[simp] theorem setClaims_classifier (p : Pos) (c : ClaimLists) (w : Work) : (w.setClaims p c).classifier = w.classifier := rfl
@[simp] theorem setClaims_routes (p : Pos) (c : ClaimLists) (w : Work) : (w.setClaims p c).routes = w.routes := rfl
@[simp] theorem setClaims_monitor (p : Pos) (c : ClaimLists) (w : Work) : (w.setClaims p c).monitor = w.monitor := rfl
@[simp] theorem setClaims_gate (p : Pos) (c : ClaimLists) (w : Work) : (w.setClaims p c).gate = w.gate := rfl
@[simp] theorem setClaims_raised (p : Pos) (c : ClaimLists) (w : Work) : (w.setClaims p c).raised = w.raised := rfl
@[simp] theorem setClaims_heldWalk (p : Pos) (c : ClaimLists) (w : Work) : (w.setClaims p c).heldWalk = w.heldWalk := rfl
@[simp] theorem setClaims_waitingWalk (p : Pos) (c : ClaimLists) (w : Work) : (w.setClaims p c).waitingWalk = w.waitingWalk := rfl
@[simp] theorem setClaims_examineAll (p : Pos) (c : ClaimLists) (w : Work) : (w.setClaims p c).examineAll = w.examineAll := rfl
@[simp] theorem setClaims_examine (p : Pos) (c : ClaimLists) (w : Work) : (w.setClaims p c).examine = w.examine := rfl
@[simp] theorem setClaims_ended (p : Pos) (c : ClaimLists) (w : Work) : (w.setClaims p c).ended = w.ended := rfl
@[simp] theorem setClaims_abandonFaults (p : Pos) (c : ClaimLists) (w : Work) : (w.setClaims p c).abandonFaults = w.abandonFaults := rfl
@[simp] theorem setClaims_commitTold (p : Pos) (c : ClaimLists) (w : Work) : (w.setClaims p c).commitTold = w.commitTold := rfl

@[simp] theorem setGroup_classifier (g : Group) (r : GroupRecord) (w : Work) : (w.setGroup g r).classifier = w.classifier := rfl
@[simp] theorem setGroup_routes (g : Group) (r : GroupRecord) (w : Work) : (w.setGroup g r).routes = w.routes := rfl
@[simp] theorem setGroup_monitor (g : Group) (r : GroupRecord) (w : Work) : (w.setGroup g r).monitor = w.monitor := rfl
@[simp] theorem setGroup_gate (g : Group) (r : GroupRecord) (w : Work) : (w.setGroup g r).gate = w.gate := rfl
@[simp] theorem setGroup_raised (g : Group) (r : GroupRecord) (w : Work) : (w.setGroup g r).raised = w.raised := rfl
@[simp] theorem setGroup_heldWalk (g : Group) (r : GroupRecord) (w : Work) : (w.setGroup g r).heldWalk = w.heldWalk := rfl
@[simp] theorem setGroup_waitingWalk (g : Group) (r : GroupRecord) (w : Work) : (w.setGroup g r).waitingWalk = w.waitingWalk := rfl
@[simp] theorem setGroup_examineAll (g : Group) (r : GroupRecord) (w : Work) : (w.setGroup g r).examineAll = w.examineAll := rfl
@[simp] theorem setGroup_examine (g : Group) (r : GroupRecord) (w : Work) : (w.setGroup g r).examine = w.examine := rfl
@[simp] theorem setGroup_ended (g : Group) (r : GroupRecord) (w : Work) : (w.setGroup g r).ended = w.ended := rfl
@[simp] theorem setGroup_abandonFaults (g : Group) (r : GroupRecord) (w : Work) : (w.setGroup g r).abandonFaults = w.abandonFaults := rfl
@[simp] theorem setGroup_commitTold (g : Group) (r : GroupRecord) (w : Work) : (w.setGroup g r).commitTold = w.commitTold := rfl

@[simp] theorem setCoil_classifier (c : Coil) (r : CoilRecord) (w : Work) : (w.setCoil c r).classifier = w.classifier := rfl
@[simp] theorem setCoil_routes (c : Coil) (r : CoilRecord) (w : Work) : (w.setCoil c r).routes = w.routes := rfl
@[simp] theorem setCoil_monitor (c : Coil) (r : CoilRecord) (w : Work) : (w.setCoil c r).monitor = w.monitor := rfl
@[simp] theorem setCoil_gate (c : Coil) (r : CoilRecord) (w : Work) : (w.setCoil c r).gate = w.gate := rfl
@[simp] theorem setCoil_raised (c : Coil) (r : CoilRecord) (w : Work) : (w.setCoil c r).raised = w.raised := rfl
@[simp] theorem setCoil_heldWalk (c : Coil) (r : CoilRecord) (w : Work) : (w.setCoil c r).heldWalk = w.heldWalk := rfl
@[simp] theorem setCoil_waitingWalk (c : Coil) (r : CoilRecord) (w : Work) : (w.setCoil c r).waitingWalk = w.waitingWalk := rfl
@[simp] theorem setCoil_examineAll (c : Coil) (r : CoilRecord) (w : Work) : (w.setCoil c r).examineAll = w.examineAll := rfl
@[simp] theorem setCoil_examine (c : Coil) (r : CoilRecord) (w : Work) : (w.setCoil c r).examine = w.examine := rfl
@[simp] theorem setCoil_ended (c : Coil) (r : CoilRecord) (w : Work) : (w.setCoil c r).ended = w.ended := rfl
@[simp] theorem setCoil_abandonFaults (c : Coil) (r : CoilRecord) (w : Work) : (w.setCoil c r).abandonFaults = w.abandonFaults := rfl
@[simp] theorem setCoil_commitTold (c : Coil) (r : CoilRecord) (w : Work) : (w.setCoil c r).commitTold = w.commitTold := rfl

@[simp] theorem setSource_classifier (o : OutputSource) (w : Work) : (w.setSource o).classifier = w.classifier := rfl
@[simp] theorem setSource_routes (o : OutputSource) (w : Work) : (w.setSource o).routes = w.routes := rfl
@[simp] theorem setSource_monitor (o : OutputSource) (w : Work) : (w.setSource o).monitor = w.monitor := rfl
@[simp] theorem setSource_gate (o : OutputSource) (w : Work) : (w.setSource o).gate = w.gate := rfl
@[simp] theorem setSource_raised (o : OutputSource) (w : Work) : (w.setSource o).raised = w.raised := rfl
@[simp] theorem setSource_heldWalk (o : OutputSource) (w : Work) : (w.setSource o).heldWalk = w.heldWalk := rfl
@[simp] theorem setSource_waitingWalk (o : OutputSource) (w : Work) : (w.setSource o).waitingWalk = w.waitingWalk := rfl
@[simp] theorem setSource_examineAll (o : OutputSource) (w : Work) : (w.setSource o).examineAll = w.examineAll := rfl
@[simp] theorem setSource_examine (o : OutputSource) (w : Work) : (w.setSource o).examine = w.examine := rfl
@[simp] theorem setSource_ended (o : OutputSource) (w : Work) : (w.setSource o).ended = w.ended := rfl
@[simp] theorem setSource_abandonFaults (o : OutputSource) (w : Work) : (w.setSource o).abandonFaults = w.abandonFaults := rfl
@[simp] theorem setSource_commitTold (o : OutputSource) (w : Work) : (w.setSource o).commitTold = w.commitTold := rfl

@[simp] theorem setSense_classifier (c : Coil) (r : SenseRecord) (w : Work) : (w.setSense c r).classifier = w.classifier := rfl
@[simp] theorem setSense_routes (c : Coil) (r : SenseRecord) (w : Work) : (w.setSense c r).routes = w.routes := rfl
@[simp] theorem setSense_image (c : Coil) (r : SenseRecord) (w : Work) : (w.setSense c r).image = w.image := rfl
@[simp] theorem setSense_gate (c : Coil) (r : SenseRecord) (w : Work) : (w.setSense c r).gate = w.gate := rfl
@[simp] theorem setSense_raised (c : Coil) (r : SenseRecord) (w : Work) : (w.setSense c r).raised = w.raised := rfl
@[simp] theorem setSense_heldWalk (c : Coil) (r : SenseRecord) (w : Work) : (w.setSense c r).heldWalk = w.heldWalk := rfl
@[simp] theorem setSense_waitingWalk (c : Coil) (r : SenseRecord) (w : Work) : (w.setSense c r).waitingWalk = w.waitingWalk := rfl
@[simp] theorem setSense_examineAll (c : Coil) (r : SenseRecord) (w : Work) : (w.setSense c r).examineAll = w.examineAll := rfl
@[simp] theorem setSense_examine (c : Coil) (r : SenseRecord) (w : Work) : (w.setSense c r).examine = w.examine := rfl
@[simp] theorem setSense_ended (c : Coil) (r : SenseRecord) (w : Work) : (w.setSense c r).ended = w.ended := rfl
@[simp] theorem setSense_abandonFaults (c : Coil) (r : SenseRecord) (w : Work) : (w.setSense c r).abandonFaults = w.abandonFaults := rfl
@[simp] theorem setSense_commitTold (c : Coil) (r : SenseRecord) (w : Work) : (w.setSense c r).commitTold = w.commitTold := rfl

@[simp] theorem setKey_classifier (p : Pos) (k : KeyRecord) (w : Work) : (w.setKey p k).classifier = w.classifier := rfl
@[simp] theorem setKey_routes (p : Pos) (k : KeyRecord) (w : Work) : (w.setKey p k).routes = w.routes := rfl
@[simp] theorem setKey_image (p : Pos) (k : KeyRecord) (w : Work) : (w.setKey p k).image = w.image := rfl
@[simp] theorem setKey_monitor (p : Pos) (k : KeyRecord) (w : Work) : (w.setKey p k).monitor = w.monitor := rfl
@[simp] theorem setKey_raised (p : Pos) (k : KeyRecord) (w : Work) : (w.setKey p k).raised = w.raised := rfl
@[simp] theorem setKey_heldWalk (p : Pos) (k : KeyRecord) (w : Work) : (w.setKey p k).heldWalk = w.heldWalk := rfl
@[simp] theorem setKey_waitingWalk (p : Pos) (k : KeyRecord) (w : Work) : (w.setKey p k).waitingWalk = w.waitingWalk := rfl
@[simp] theorem setKey_examineAll (p : Pos) (k : KeyRecord) (w : Work) : (w.setKey p k).examineAll = w.examineAll := rfl
@[simp] theorem setKey_examine (p : Pos) (k : KeyRecord) (w : Work) : (w.setKey p k).examine = w.examine := rfl
@[simp] theorem setKey_ended (p : Pos) (k : KeyRecord) (w : Work) : (w.setKey p k).ended = w.ended := rfl
@[simp] theorem setKey_abandonFaults (p : Pos) (k : KeyRecord) (w : Work) : (w.setKey p k).abandonFaults = w.abandonFaults := rfl
@[simp] theorem setKey_commitTold (p : Pos) (k : KeyRecord) (w : Work) : (w.setKey p k).commitTold = w.commitTold := rfl

@[simp] theorem setWaiting_classifier (l : List Pos) (w : Work) : (w.setWaiting l).classifier = w.classifier := rfl
@[simp] theorem setWaiting_routes (l : List Pos) (w : Work) : (w.setWaiting l).routes = w.routes := rfl
@[simp] theorem setWaiting_image (l : List Pos) (w : Work) : (w.setWaiting l).image = w.image := rfl
@[simp] theorem setWaiting_monitor (l : List Pos) (w : Work) : (w.setWaiting l).monitor = w.monitor := rfl
@[simp] theorem setWaiting_raised (l : List Pos) (w : Work) : (w.setWaiting l).raised = w.raised := rfl
@[simp] theorem setWaiting_heldWalk (l : List Pos) (w : Work) : (w.setWaiting l).heldWalk = w.heldWalk := rfl
@[simp] theorem setWaiting_waitingWalk (l : List Pos) (w : Work) : (w.setWaiting l).waitingWalk = w.waitingWalk := rfl
@[simp] theorem setWaiting_examineAll (l : List Pos) (w : Work) : (w.setWaiting l).examineAll = w.examineAll := rfl
@[simp] theorem setWaiting_examine (l : List Pos) (w : Work) : (w.setWaiting l).examine = w.examine := rfl
@[simp] theorem setWaiting_ended (l : List Pos) (w : Work) : (w.setWaiting l).ended = w.ended := rfl
@[simp] theorem setWaiting_abandonFaults (l : List Pos) (w : Work) : (w.setWaiting l).abandonFaults = w.abandonFaults := rfl
@[simp] theorem setWaiting_commitTold (l : List Pos) (w : Work) : (w.setWaiting l).commitTold = w.commitTold := rfl

@[simp] theorem raise_all (n : Raised) (w : Work) : (w.raise n).raised = w.raised ++ [n] := rfl
@[simp] theorem setRecord_new (p : Pos) (r : ClassRecord) (w : Work) : (w.setRecord p r).classifier = put w.classifier p r := rfl
@[simp] theorem setContext_contexts (p : Pos) (c : Context) (w : Work) : (w.setContext p c).routes.contexts = put w.routes.contexts p c := rfl
@[simp] theorem setContext_antennas (p : Pos) (c : Context) (w : Work) : (w.setContext p c).routes.antennas = w.routes.antennas := rfl
@[simp] theorem setContext_held (p : Pos) (c : Context) (w : Work) : (w.setContext p c).routes.held = w.routes.held := rfl
@[simp] theorem setAntenna_contexts (a : Ant) (r : AntennaRecord) (w : Work) : (w.setAntenna a r).routes.contexts = w.routes.contexts := rfl
@[simp] theorem setAntenna_antennas (a : Ant) (r : AntennaRecord) (w : Work) : (w.setAntenna a r).routes.antennas = put w.routes.antennas a r := rfl
@[simp] theorem setAntenna_held (a : Ant) (r : AntennaRecord) (w : Work) : (w.setAntenna a r).routes.held = w.routes.held := rfl
@[simp] theorem setHeld_contexts (l : List Pos) (w : Work) : (w.setHeld l).routes.contexts = w.routes.contexts := rfl
@[simp] theorem setHeld_antennas (l : List Pos) (w : Work) : (w.setHeld l).routes.antennas = w.routes.antennas := rfl
@[simp] theorem setHeld_held (l : List Pos) (w : Work) : (w.setHeld l).routes.held = l := rfl
@[simp] theorem setClaims_image_claims (p : Pos) (c : ClaimLists) (w : Work) : (w.setClaims p c).image.claims = put w.image.claims p c := rfl
@[simp] theorem setClaims_image_groups (p : Pos) (c : ClaimLists) (w : Work) : (w.setClaims p c).image.groups = w.image.groups := rfl
@[simp] theorem setClaims_image_source (p : Pos) (c : ClaimLists) (w : Work) : (w.setClaims p c).image.source = w.image.source := rfl
@[simp] theorem setClaims_image_coils (p : Pos) (c : ClaimLists) (w : Work) : (w.setClaims p c).image.coils = w.image.coils := rfl
@[simp] theorem setGroup_image_claims (g : Group) (r : GroupRecord) (w : Work) : (w.setGroup g r).image.claims = w.image.claims := rfl
@[simp] theorem setGroup_image_groups (g : Group) (r : GroupRecord) (w : Work) : (w.setGroup g r).image.groups = put w.image.groups g r := rfl
@[simp] theorem setGroup_image_source (g : Group) (r : GroupRecord) (w : Work) : (w.setGroup g r).image.source = w.image.source := rfl
@[simp] theorem setGroup_image_coils (g : Group) (r : GroupRecord) (w : Work) : (w.setGroup g r).image.coils = w.image.coils := rfl
@[simp] theorem setCoil_image_claims (c : Coil) (r : CoilRecord) (w : Work) : (w.setCoil c r).image.claims = w.image.claims := rfl
@[simp] theorem setCoil_image_groups (c : Coil) (r : CoilRecord) (w : Work) : (w.setCoil c r).image.groups = w.image.groups := rfl
@[simp] theorem setCoil_image_source (c : Coil) (r : CoilRecord) (w : Work) : (w.setCoil c r).image.source = w.image.source := rfl
@[simp] theorem setCoil_image_coils (c : Coil) (r : CoilRecord) (w : Work) : (w.setCoil c r).image.coils = put w.image.coils c r := rfl
@[simp] theorem setSource_image_claims (o : OutputSource) (w : Work) : (w.setSource o).image.claims = w.image.claims := rfl
@[simp] theorem setSource_image_groups (o : OutputSource) (w : Work) : (w.setSource o).image.groups = w.image.groups := rfl
@[simp] theorem setSource_image_source (o : OutputSource) (w : Work) : (w.setSource o).image.source = o := rfl
@[simp] theorem setSource_image_coils (o : OutputSource) (w : Work) : (w.setSource o).image.coils = w.image.coils := rfl
@[simp] theorem setSense_new (c : Coil) (r : SenseRecord) (w : Work) : (w.setSense c r).monitor = put w.monitor c r := rfl
@[simp] theorem setKey_keys (p : Pos) (k : KeyRecord) (w : Work) : (w.setKey p k).gate.keys = put w.gate.keys p k := rfl
@[simp] theorem setKey_waiting (p : Pos) (k : KeyRecord) (w : Work) : (w.setKey p k).gate.waiting = w.gate.waiting := rfl
@[simp] theorem setWaiting_keys (l : List Pos) (w : Work) : (w.setWaiting l).gate.keys = w.gate.keys := rfl
@[simp] theorem setWaiting_waiting (l : List Pos) (w : Work) : (w.setWaiting l).gate.waiting = l := rfl

/-! ### The accessors, in the tables they read -/

@[simp] theorem record_eq (w : Work) (p : Pos) : w.record p = w.classifier.get p := rfl
@[simp] theorem context_eq (w : Work) (p : Pos) : w.context p = w.routes.contexts.get p := rfl
@[simp] theorem antenna_eq (w : Work) (a : Ant) : w.antenna a = w.routes.antennas.get a := rfl
@[simp] theorem claims_eq (w : Work) (p : Pos) : w.claims p = w.image.claims.get p := rfl
@[simp] theorem group_eq (w : Work) (g : Group) : w.group g = w.image.groups.get g := rfl
@[simp] theorem coil_eq (w : Work) (c : Coil) : w.coil c = w.image.coils.get c := rfl
@[simp] theorem senseOf_eq (w : Work) (c : Coil) : w.senseOf c = w.monitor.get c := rfl
@[simp] theorem key_eq (w : Work) (p : Pos) : w.key p = w.gate.keys.get p := rfl

/-- A work starts with the blocks it is given. -/
@[simp] theorem start_blocks (b : Blocks) : (Work.start b).toBlocks = b := rfl
@[simp] theorem start_raised (b : Blocks) : (Work.start b).raised = [] := rfl
@[simp] theorem start_heldWalk (b : Blocks) : (Work.start b).heldWalk = false := rfl
@[simp] theorem start_waitingWalk (b : Blocks) : (Work.start b).waitingWalk = false := rfl
@[simp] theorem start_examineAll (b : Blocks) : (Work.start b).examineAll = false := rfl
@[simp] theorem start_examine (b : Blocks) : (Work.start b).examine = [] := rfl
@[simp] theorem start_ended (b : Blocks) : (Work.start b).ended = [] := rfl
@[simp] theorem start_abandonFaults (b : Blocks) : (Work.start b).abandonFaults = [] := rfl
@[simp] theorem start_commitTold (b : Blocks) : (Work.start b).commitTold = false := rfl

end Work

end Sys2Proof.Machine
end

