-- ==== Sys2Proof/Laws/Ops.lean ====
section
/-!
SUPPORT. What each shared operation of Machine/Ops.lean changes: one lemma for each that names every part it leaves, and,
where a proof needs it, one for the part it changes.
-/
namespace Sys2Proof.Machine

/-! ### Coils -/

@[simp] theorem startBlank_frame (v : View) (c : Coil) (w : Work) :
    (startBlank v c w).classifier = w.classifier ∧ (startBlank v c w).monitor = w.monitor ∧
    (startBlank v c w).routes = w.routes ∧ (startBlank v c w).image.claims = w.image.claims ∧
    (startBlank v c w).image.groups = w.image.groups ∧ (startBlank v c w).image.source = w.image.source ∧
    (startBlank v c w).gate = w.gate ∧ (startBlank v c w).raised = w.raised ∧
    (startBlank v c w).heldWalk = w.heldWalk ∧ (startBlank v c w).waitingWalk = w.waitingWalk ∧
    (startBlank v c w).examineAll = w.examineAll ∧ (startBlank v c w).examine = w.examine ∧
    (startBlank v c w).ended = w.ended ∧ (startBlank v c w).abandonFaults = w.abandonFaults ∧
    (startBlank v c w).commitTold = w.commitTold := by
  simp [startBlank]

@[simp] theorem driveCoil_frame (v : View) (c : Coil) (x : Bool) (w : Work) :
    (driveCoil v c x w).classifier = w.classifier ∧ (driveCoil v c x w).monitor = w.monitor ∧
    (driveCoil v c x w).routes = w.routes ∧ (driveCoil v c x w).image.claims = w.image.claims ∧
    (driveCoil v c x w).image.groups = w.image.groups ∧ (driveCoil v c x w).image.source = w.image.source ∧
    (driveCoil v c x w).gate = w.gate ∧ (driveCoil v c x w).raised = w.raised ∧
    (driveCoil v c x w).heldWalk = w.heldWalk ∧ (driveCoil v c x w).waitingWalk = w.waitingWalk ∧
    (driveCoil v c x w).examineAll = w.examineAll ∧ (driveCoil v c x w).examine = w.examine ∧
    (driveCoil v c x w).ended = w.ended ∧ (driveCoil v c x w).abandonFaults = w.abandonFaults ∧
    (driveCoil v c x w).commitTold = w.commitTold := by
  simp [driveCoil]

@[simp] theorem tripCoil_frame (v : View) (c : Coil) (w : Work) :
    (tripCoil v c w).classifier = w.classifier ∧ (tripCoil v c w).monitor = w.monitor ∧
    (tripCoil v c w).routes = w.routes ∧ (tripCoil v c w).image.claims = w.image.claims ∧
    (tripCoil v c w).image.groups = w.image.groups ∧ (tripCoil v c w).image.source = w.image.source ∧
    (tripCoil v c w).gate = w.gate ∧ (tripCoil v c w).raised = w.raised ∧ (tripCoil v c w).heldWalk = w.heldWalk ∧
    (tripCoil v c w).waitingWalk = w.waitingWalk ∧ (tripCoil v c w).examineAll = w.examineAll ∧
    (tripCoil v c w).examine = w.examine ∧ (tripCoil v c w).ended = w.ended ∧
    (tripCoil v c w).abandonFaults = w.abandonFaults ∧ (tripCoil v c w).commitTold = w.commitTold := by
  simp [tripCoil]

@[simp] theorem releaseTrip_frame (v : View) (c : Coil) (w : Work) :
    (releaseTrip v c w).classifier = w.classifier ∧ (releaseTrip v c w).monitor = w.monitor ∧
    (releaseTrip v c w).routes = w.routes ∧ (releaseTrip v c w).image.claims = w.image.claims ∧
    (releaseTrip v c w).image.groups = w.image.groups ∧ (releaseTrip v c w).image.source = w.image.source ∧
    (releaseTrip v c w).gate = w.gate ∧ (releaseTrip v c w).raised = w.raised ∧
    (releaseTrip v c w).heldWalk = w.heldWalk ∧ (releaseTrip v c w).waitingWalk = w.waitingWalk ∧
    (releaseTrip v c w).examineAll = w.examineAll ∧ (releaseTrip v c w).examine = w.examine ∧
    (releaseTrip v c w).ended = w.ended ∧ (releaseTrip v c w).abandonFaults = w.abandonFaults ∧
    (releaseTrip v c w).commitTold = w.commitTold := by
  simp [releaseTrip]

@[simp] theorem recompute_frame (v : View) (w : Work) (c : Coil) :
    (recompute v w c).classifier = w.classifier ∧ (recompute v w c).monitor = w.monitor ∧
    (recompute v w c).routes = w.routes ∧ (recompute v w c).image.claims = w.image.claims ∧
    (recompute v w c).image.groups = w.image.groups ∧ (recompute v w c).image.source = w.image.source ∧
    (recompute v w c).gate = w.gate ∧ (recompute v w c).raised = w.raised ∧ (recompute v w c).heldWalk = w.heldWalk ∧
    (recompute v w c).waitingWalk = w.waitingWalk ∧ (recompute v w c).examineAll = w.examineAll ∧
    (recompute v w c).examine = w.examine ∧ (recompute v w c).ended = w.ended ∧
    (recompute v w c).abandonFaults = w.abandonFaults ∧ (recompute v w c).commitTold = w.commitTold := by
  unfold recompute; split <;> simp

@[simp] theorem recomputeAll_frame (v : View) (cs : List Coil) (w : Work) :
    (recomputeAll v cs w).classifier = w.classifier ∧ (recomputeAll v cs w).monitor = w.monitor ∧
    (recomputeAll v cs w).routes = w.routes ∧ (recomputeAll v cs w).image.claims = w.image.claims ∧
    (recomputeAll v cs w).image.groups = w.image.groups ∧ (recomputeAll v cs w).image.source = w.image.source ∧
    (recomputeAll v cs w).gate = w.gate ∧ (recomputeAll v cs w).raised = w.raised ∧
    (recomputeAll v cs w).heldWalk = w.heldWalk ∧ (recomputeAll v cs w).waitingWalk = w.waitingWalk ∧
    (recomputeAll v cs w).examineAll = w.examineAll ∧ (recomputeAll v cs w).examine = w.examine ∧
    (recomputeAll v cs w).ended = w.ended ∧ (recomputeAll v cs w).abandonFaults = w.abandonFaults ∧
    (recomputeAll v cs w).commitTold = w.commitTold := by
  induction cs generalizing w with
  | nil => simp [recomputeAll]
  | cons c cs ih =>
    simp only [recomputeAll, List.foldl_cons] at ih ⊢
    simp [ih]

/-! ### Groups and claims -/

@[simp] theorem settleGroup_frame (w : Work) (g : Group) :
    (settleGroup w g).classifier = w.classifier ∧ (settleGroup w g).monitor = w.monitor ∧
    (settleGroup w g).routes = w.routes ∧ (settleGroup w g).image.claims = w.image.claims ∧
    (settleGroup w g).image.source = w.image.source ∧ (settleGroup w g).image.coils = w.image.coils ∧
    (settleGroup w g).gate = w.gate ∧ (settleGroup w g).raised = w.raised ∧ (settleGroup w g).heldWalk = w.heldWalk ∧
    (settleGroup w g).waitingWalk = w.waitingWalk ∧ (settleGroup w g).examineAll = w.examineAll ∧
    (settleGroup w g).examine = w.examine ∧ (settleGroup w g).ended = w.ended ∧
    (settleGroup w g).abandonFaults = w.abandonFaults ∧ (settleGroup w g).commitTold = w.commitTold := by
  unfold settleGroup; split <;> simp

@[simp] theorem settleGroups_frame (cs : List Claim) (w : Work) :
    (settleGroups cs w).classifier = w.classifier ∧ (settleGroups cs w).monitor = w.monitor ∧
    (settleGroups cs w).routes = w.routes ∧ (settleGroups cs w).image.claims = w.image.claims ∧
    (settleGroups cs w).image.source = w.image.source ∧ (settleGroups cs w).image.coils = w.image.coils ∧
    (settleGroups cs w).gate = w.gate ∧ (settleGroups cs w).raised = w.raised ∧
    (settleGroups cs w).heldWalk = w.heldWalk ∧ (settleGroups cs w).waitingWalk = w.waitingWalk ∧
    (settleGroups cs w).examineAll = w.examineAll ∧ (settleGroups cs w).examine = w.examine ∧
    (settleGroups cs w).ended = w.ended ∧ (settleGroups cs w).abandonFaults = w.abandonFaults ∧
    (settleGroups cs w).commitTold = w.commitTold := by
  induction cs generalizing w with
  | nil => simp [settleGroups]
  | cons c cs ih =>
    simp only [settleGroups, List.map_cons, List.foldl_cons] at ih ⊢
    simp [ih]

@[simp] theorem reserveClaims_frame (p : Pos) (cs : List Claim) (w : Work) :
    (reserveClaims p cs w).classifier = w.classifier ∧ (reserveClaims p cs w).monitor = w.monitor ∧
    (reserveClaims p cs w).routes = w.routes ∧ (reserveClaims p cs w).image.groups = w.image.groups ∧
    (reserveClaims p cs w).image.source = w.image.source ∧ (reserveClaims p cs w).image.coils = w.image.coils ∧
    (reserveClaims p cs w).gate = w.gate ∧ (reserveClaims p cs w).raised = w.raised ∧
    (reserveClaims p cs w).heldWalk = w.heldWalk ∧ (reserveClaims p cs w).waitingWalk = w.waitingWalk ∧
    (reserveClaims p cs w).examineAll = w.examineAll ∧ (reserveClaims p cs w).examine = w.examine ∧
    (reserveClaims p cs w).ended = w.ended ∧ (reserveClaims p cs w).abandonFaults = w.abandonFaults ∧
    (reserveClaims p cs w).commitTold = w.commitTold := by
  simp [reserveClaims]

@[simp] theorem dropReserved_frame (p : Pos) (w : Work) :
    (dropReserved p w).classifier = w.classifier ∧ (dropReserved p w).monitor = w.monitor ∧
    (dropReserved p w).routes = w.routes ∧ (dropReserved p w).image.source = w.image.source ∧
    (dropReserved p w).image.coils = w.image.coils ∧ (dropReserved p w).gate = w.gate ∧
    (dropReserved p w).raised = w.raised ∧ (dropReserved p w).heldWalk = w.heldWalk ∧
    (dropReserved p w).waitingWalk = w.waitingWalk ∧ (dropReserved p w).examineAll = w.examineAll ∧
    (dropReserved p w).examine = w.examine ∧ (dropReserved p w).ended = w.ended ∧
    (dropReserved p w).abandonFaults = w.abandonFaults ∧ (dropReserved p w).commitTold = w.commitTold := by
  simp [dropReserved]

@[simp] theorem dropEffective_frame (v : View) (p : Pos) (w : Work) :
    (dropEffective v p w).classifier = w.classifier ∧ (dropEffective v p w).monitor = w.monitor ∧
    (dropEffective v p w).routes = w.routes ∧ (dropEffective v p w).image.source = w.image.source ∧
    (dropEffective v p w).gate = w.gate ∧ (dropEffective v p w).raised = w.raised ∧
    (dropEffective v p w).heldWalk = w.heldWalk ∧ (dropEffective v p w).waitingWalk = w.waitingWalk ∧
    (dropEffective v p w).examineAll = w.examineAll ∧ (dropEffective v p w).examine = w.examine ∧
    (dropEffective v p w).ended = w.ended ∧ (dropEffective v p w).abandonFaults = w.abandonFaults ∧
    (dropEffective v p w).commitTold = w.commitTold := by
  simp [dropEffective]

@[simp] theorem effectClaims_frame (v : View) (p : Pos) (w : Work) :
    (effectClaims v p w).classifier = w.classifier ∧ (effectClaims v p w).monitor = w.monitor ∧
    (effectClaims v p w).routes = w.routes ∧ (effectClaims v p w).image.groups = w.image.groups ∧
    (effectClaims v p w).image.source = w.image.source ∧ (effectClaims v p w).gate = w.gate ∧
    (effectClaims v p w).raised = w.raised ∧ (effectClaims v p w).heldWalk = w.heldWalk ∧
    (effectClaims v p w).waitingWalk = w.waitingWalk ∧ (effectClaims v p w).examineAll = w.examineAll ∧
    (effectClaims v p w).examine = w.examine ∧ (effectClaims v p w).ended = w.ended ∧
    (effectClaims v p w).abandonFaults = w.abandonFaults ∧ (effectClaims v p w).commitTold = w.commitTold := by
  simp [effectClaims]

/-! ### Antenna records -/

@[simp] theorem addReservation_frame (p : Pos) (a : Ant) (w : Work) :
    (addReservation p a w).classifier = w.classifier ∧ (addReservation p a w).monitor = w.monitor ∧
    (addReservation p a w).routes.contexts = w.routes.contexts ∧ (addReservation p a w).routes.held = w.routes.held ∧
    (addReservation p a w).image = w.image ∧ (addReservation p a w).gate = w.gate ∧
    (addReservation p a w).raised = w.raised ∧ (addReservation p a w).heldWalk = w.heldWalk ∧
    (addReservation p a w).waitingWalk = w.waitingWalk ∧ (addReservation p a w).examineAll = w.examineAll ∧
    (addReservation p a w).examine = w.examine ∧ (addReservation p a w).ended = w.ended ∧
    (addReservation p a w).abandonFaults = w.abandonFaults ∧ (addReservation p a w).commitTold = w.commitTold := by
  simp [addReservation]

@[simp] theorem dropReservation_frame (p : Pos) (a : Ant) (w : Work) :
    (dropReservation p a w).classifier = w.classifier ∧ (dropReservation p a w).monitor = w.monitor ∧
    (dropReservation p a w).routes.contexts = w.routes.contexts ∧
    (dropReservation p a w).routes.held = w.routes.held ∧ (dropReservation p a w).image = w.image ∧
    (dropReservation p a w).gate = w.gate ∧ (dropReservation p a w).raised = w.raised ∧
    (dropReservation p a w).heldWalk = w.heldWalk ∧ (dropReservation p a w).waitingWalk = w.waitingWalk ∧
    (dropReservation p a w).examineAll = w.examineAll ∧ (dropReservation p a w).examine = w.examine ∧
    (dropReservation p a w).ended = w.ended ∧ (dropReservation p a w).abandonFaults = w.abandonFaults ∧
    (dropReservation p a w).commitTold = w.commitTold := by
  simp [dropReservation]

@[simp] theorem dropHolder_frame (p : Pos) (a : Ant) (w : Work) :
    (dropHolder p a w).classifier = w.classifier ∧ (dropHolder p a w).monitor = w.monitor ∧
    (dropHolder p a w).routes.contexts = w.routes.contexts ∧ (dropHolder p a w).routes.held = w.routes.held ∧
    (dropHolder p a w).image = w.image ∧ (dropHolder p a w).gate = w.gate ∧ (dropHolder p a w).raised = w.raised ∧
    (dropHolder p a w).heldWalk = w.heldWalk ∧ (dropHolder p a w).waitingWalk = w.waitingWalk ∧
    (dropHolder p a w).examineAll = w.examineAll ∧ (dropHolder p a w).examine = w.examine ∧
    (dropHolder p a w).ended = w.ended ∧ (dropHolder p a w).abandonFaults = w.abandonFaults ∧
    (dropHolder p a w).commitTold = w.commitTold := by
  simp [dropHolder]

@[simp] theorem reservationToHolder_frame (p : Pos) (a : Ant) (w : Work) :
    (reservationToHolder p a w).classifier = w.classifier ∧ (reservationToHolder p a w).monitor = w.monitor ∧
    (reservationToHolder p a w).routes.contexts = w.routes.contexts ∧
    (reservationToHolder p a w).routes.held = w.routes.held ∧ (reservationToHolder p a w).image = w.image ∧
    (reservationToHolder p a w).gate = w.gate ∧ (reservationToHolder p a w).raised = w.raised ∧
    (reservationToHolder p a w).heldWalk = w.heldWalk ∧ (reservationToHolder p a w).waitingWalk = w.waitingWalk ∧
    (reservationToHolder p a w).examineAll = w.examineAll ∧ (reservationToHolder p a w).examine = w.examine ∧
    (reservationToHolder p a w).ended = w.ended ∧ (reservationToHolder p a w).abandonFaults = w.abandonFaults ∧
    (reservationToHolder p a w).commitTold = w.commitTold := by
  simp [reservationToHolder]

@[simp] theorem addHold_frame (p : Pos) (a : Option Ant) (w : Work) :
    (addHold p a w).classifier = w.classifier ∧ (addHold p a w).monitor = w.monitor ∧
    (addHold p a w).routes.contexts = w.routes.contexts ∧ (addHold p a w).routes.held = w.routes.held ∧
    (addHold p a w).image = w.image ∧ (addHold p a w).gate = w.gate ∧ (addHold p a w).raised = w.raised ∧
    (addHold p a w).heldWalk = w.heldWalk ∧ (addHold p a w).waitingWalk = w.waitingWalk ∧
    (addHold p a w).examineAll = w.examineAll ∧ (addHold p a w).examine = w.examine ∧
    (addHold p a w).ended = w.ended ∧ (addHold p a w).abandonFaults = w.abandonFaults ∧
    (addHold p a w).commitTold = w.commitTold := by
  cases a <;> simp [addHold]

@[simp] theorem dropHold_frame (p : Pos) (a : Option Ant) (w : Work) :
    (dropHold p a w).classifier = w.classifier ∧ (dropHold p a w).monitor = w.monitor ∧
    (dropHold p a w).routes.contexts = w.routes.contexts ∧ (dropHold p a w).routes.held = w.routes.held ∧
    (dropHold p a w).image = w.image ∧ (dropHold p a w).gate = w.gate ∧ (dropHold p a w).raised = w.raised ∧
    (dropHold p a w).heldWalk = w.heldWalk ∧ (dropHold p a w).waitingWalk = w.waitingWalk ∧
    (dropHold p a w).examineAll = w.examineAll ∧ (dropHold p a w).examine = w.examine ∧
    (dropHold p a w).ended = w.ended ∧ (dropHold p a w).abandonFaults = w.abandonFaults ∧
    (dropHold p a w).commitTold = w.commitTold := by
  cases a <;> simp [dropHold]

/-! ### The held list -/

@[simp] theorem dropHeld_frame (p : Pos) (w : Work) :
    (dropHeld p w).classifier = w.classifier ∧ (dropHeld p w).monitor = w.monitor ∧
    (dropHeld p w).routes.antennas = w.routes.antennas ∧ (dropHeld p w).image = w.image ∧
    (dropHeld p w).gate = w.gate ∧ (dropHeld p w).raised = w.raised ∧ (dropHeld p w).waitingWalk = w.waitingWalk ∧
    (dropHeld p w).examineAll = w.examineAll ∧ (dropHeld p w).examine = w.examine ∧ (dropHeld p w).ended = w.ended ∧
    (dropHeld p w).abandonFaults = w.abandonFaults ∧ (dropHeld p w).commitTold = w.commitTold := by
  unfold dropHeld; split
  · simp
  · split <;> simp

@[simp] theorem heldToLatched_frame (p : Pos) (w : Work) :
    (heldToLatched p w).classifier = w.classifier ∧ (heldToLatched p w).monitor = w.monitor ∧
    (heldToLatched p w).routes.antennas = w.routes.antennas ∧ (heldToLatched p w).image = w.image ∧
    (heldToLatched p w).gate = w.gate ∧ (heldToLatched p w).raised = w.raised ∧
    (heldToLatched p w).waitingWalk = w.waitingWalk ∧ (heldToLatched p w).examineAll = w.examineAll ∧
    (heldToLatched p w).examine = w.examine ∧ (heldToLatched p w).ended = w.ended ∧
    (heldToLatched p w).abandonFaults = w.abandonFaults ∧ (heldToLatched p w).commitTold = w.commitTold := by
  unfold heldToLatched; split
  · simp
  · split <;> simp

@[simp] theorem placeHeld_frame (p : Pos) (kind : RequestKind) (cause : Cause) (w : Work) :
    (placeHeld p kind cause w).classifier = w.classifier ∧ (placeHeld p kind cause w).monitor = w.monitor ∧
    (placeHeld p kind cause w).routes.antennas = w.routes.antennas ∧ (placeHeld p kind cause w).image = w.image ∧
    (placeHeld p kind cause w).gate = w.gate ∧ (placeHeld p kind cause w).raised = w.raised ∧
    (placeHeld p kind cause w).heldWalk = w.heldWalk ∧ (placeHeld p kind cause w).waitingWalk = w.waitingWalk ∧
    (placeHeld p kind cause w).examineAll = w.examineAll ∧ (placeHeld p kind cause w).examine = w.examine ∧
    (placeHeld p kind cause w).ended = w.ended ∧ (placeHeld p kind cause w).abandonFaults = w.abandonFaults ∧
    (placeHeld p kind cause w).commitTold = w.commitTold := by
  simp [placeHeld]

@[simp] theorem placeLatched_frame (p : Pos) (kind : RequestKind) (cause : Cause) (w : Work) :
    (placeLatched p kind cause w).classifier = w.classifier ∧ (placeLatched p kind cause w).monitor = w.monitor ∧
    (placeLatched p kind cause w).routes.antennas = w.routes.antennas ∧
    (placeLatched p kind cause w).routes.held = w.routes.held ∧ (placeLatched p kind cause w).image = w.image ∧
    (placeLatched p kind cause w).gate = w.gate ∧ (placeLatched p kind cause w).raised = w.raised ∧
    (placeLatched p kind cause w).heldWalk = w.heldWalk ∧ (placeLatched p kind cause w).waitingWalk = w.waitingWalk ∧
    (placeLatched p kind cause w).examineAll = w.examineAll ∧ (placeLatched p kind cause w).examine = w.examine ∧
    (placeLatched p kind cause w).ended = w.ended ∧ (placeLatched p kind cause w).abandonFaults = w.abandonFaults ∧
    (placeLatched p kind cause w).commitTold = w.commitTold := by
  simp [placeLatched]

/-! ### Permits and the waiting list -/

@[simp] theorem endPermit_frame (v : View) (p : Pos) (next : KeyState) (w : Work) :
    (endPermit v p next w).classifier = w.classifier ∧ (endPermit v p next w).monitor = w.monitor ∧
    (endPermit v p next w).routes = w.routes ∧ (endPermit v p next w).image = w.image ∧
    (endPermit v p next w).gate.waiting = w.gate.waiting ∧ (endPermit v p next w).raised = w.raised ∧
    (endPermit v p next w).heldWalk = w.heldWalk ∧ (endPermit v p next w).waitingWalk = w.waitingWalk ∧
    (endPermit v p next w).examineAll = w.examineAll ∧ (endPermit v p next w).examine = w.examine ∧
    (endPermit v p next w).abandonFaults = w.abandonFaults ∧ (endPermit v p next w).commitTold = w.commitTold := by
  unfold endPermit; split <;> simp

@[simp] theorem withdraw_frame (v : View) (p : Pos) (reason : Reason) (conflict : Option Pos) (w : Work) :
    (withdraw v p reason conflict w).classifier = w.classifier ∧
    (withdraw v p reason conflict w).monitor = w.monitor ∧ (withdraw v p reason conflict w).routes = w.routes ∧
    (withdraw v p reason conflict w).image = w.image ∧
    (withdraw v p reason conflict w).gate.waiting = w.gate.waiting ∧
    (withdraw v p reason conflict w).heldWalk = w.heldWalk ∧
    (withdraw v p reason conflict w).examineAll = w.examineAll ∧
    (withdraw v p reason conflict w).examine = w.examine ∧
    (withdraw v p reason conflict w).abandonFaults = w.abandonFaults ∧
    (withdraw v p reason conflict w).commitTold = w.commitTold := by
  unfold withdraw; split <;> simp

@[simp] theorem grant_frame (p : Pos) (w : Work) :
    (grant p w).classifier = w.classifier ∧ (grant p w).monitor = w.monitor ∧ (grant p w).routes = w.routes ∧
    (grant p w).image = w.image ∧ (grant p w).gate.waiting = w.gate.waiting ∧ (grant p w).raised = w.raised ∧
    (grant p w).heldWalk = w.heldWalk ∧ (grant p w).waitingWalk = w.waitingWalk ∧
    (grant p w).examineAll = w.examineAll ∧ (grant p w).examine = w.examine ∧ (grant p w).ended = w.ended ∧
    (grant p w).abandonFaults = w.abandonFaults ∧ (grant p w).commitTold = w.commitTold := by
  simp [grant]

@[simp] theorem leaveWaiting_frame (p : Pos) (w : Work) :
    (leaveWaiting p w).classifier = w.classifier ∧ (leaveWaiting p w).monitor = w.monitor ∧
    (leaveWaiting p w).routes = w.routes ∧ (leaveWaiting p w).image = w.image ∧
    (leaveWaiting p w).gate.keys = w.gate.keys ∧ (leaveWaiting p w).raised = w.raised ∧
    (leaveWaiting p w).heldWalk = w.heldWalk ∧ (leaveWaiting p w).waitingWalk = w.waitingWalk ∧
    (leaveWaiting p w).examineAll = w.examineAll ∧ (leaveWaiting p w).examine = w.examine ∧
    (leaveWaiting p w).ended = w.ended ∧ (leaveWaiting p w).abandonFaults = w.abandonFaults ∧
    (leaveWaiting p w).commitTold = w.commitTold := by
  simp [leaveWaiting]

@[simp] theorem bar_frame (p : Pos) (reason : Reason) (w : Work) :
    (bar p reason w).classifier = w.classifier ∧ (bar p reason w).monitor = w.monitor ∧
    (bar p reason w).routes = w.routes ∧ (bar p reason w).image = w.image ∧
    (bar p reason w).gate.waiting = w.gate.waiting ∧ (bar p reason w).raised = w.raised ∧
    (bar p reason w).heldWalk = w.heldWalk ∧ (bar p reason w).waitingWalk = w.waitingWalk ∧
    (bar p reason w).examineAll = w.examineAll ∧ (bar p reason w).examine = w.examine ∧
    (bar p reason w).ended = w.ended ∧ (bar p reason w).abandonFaults = w.abandonFaults ∧
    (bar p reason w).commitTold = w.commitTold := by
  simp [bar]

@[simp] theorem enterWaiting_frame (v : View) (p : Pos) (obstacle : Reason) (w : Work) :
    (enterWaiting v p obstacle w).classifier = w.classifier ∧ (enterWaiting v p obstacle w).monitor = w.monitor ∧
    (enterWaiting v p obstacle w).routes = w.routes ∧ (enterWaiting v p obstacle w).image = w.image ∧
    (enterWaiting v p obstacle w).raised = w.raised ∧ (enterWaiting v p obstacle w).heldWalk = w.heldWalk ∧
    (enterWaiting v p obstacle w).waitingWalk = w.waitingWalk ∧
    (enterWaiting v p obstacle w).examineAll = w.examineAll ∧ (enterWaiting v p obstacle w).examine = w.examine ∧
    (enterWaiting v p obstacle w).ended = w.ended ∧ (enterWaiting v p obstacle w).abandonFaults = w.abandonFaults ∧
    (enterWaiting v p obstacle w).commitTold = w.commitTold := by
  simp [enterWaiting]

/-! ### The part each operation changes -/

theorem startBlank_coils (v : View) (c : Coil) (w : Work) : (startBlank v c w).image.coils =
    put w.image.coils c { w.image.coils.get c with blank := some v.bank.timing.blankMs } := rfl

theorem driveCoil_coils (v : View) (c : Coil) (x : Bool) (w : Work) : (driveCoil v c x w).image.coils =
    put w.image.coils c { w.image.coils.get c with
      commanded := x, drive := x, blank := some v.bank.timing.blankMs } := rfl

theorem tripCoil_coils (v : View) (c : Coil) (w : Work) : (tripCoil v c w).image.coils =
    put w.image.coils c { w.image.coils.get c with
      trip := true, commanded := false, drive := false, blank := some v.bank.timing.blankMs } := rfl

theorem releaseTrip_coils (v : View) (c : Coil) (w : Work) : (releaseTrip v c w).image.coils =
    put w.image.coils c { w.image.coils.get c with
      trip := false, commanded := composedValue v w.toBlocks c, drive := composedValue v w.toBlocks c,
      blank := some v.bank.timing.blankMs } := rfl

/-- A recompute to the value the coil has changes nothing; any other drives the coil (R97). -/
theorem recompute_cases (v : View) (w : Work) (c : Coil) :
    (derivedValue v w.toBlocks c = (w.image.coils.get c).commanded ∧ recompute v w c = w) ∨
    (derivedValue v w.toBlocks c ≠ (w.image.coils.get c).commanded ∧
      recompute v w c = driveCoil v c (derivedValue v w.toBlocks c) w) := by
  unfold recompute
  split
  · rename_i h; exact .inl ⟨h, rfl⟩
  · rename_i h; exact .inr ⟨h, rfl⟩

theorem reserveClaims_claims (p : Pos) (cs : List Claim) (w : Work) : (reserveClaims p cs w).image.claims =
    put w.image.claims p { w.image.claims.get p with reserved := cs } := rfl

theorem dropReserved_claims (p : Pos) (w : Work) : (dropReserved p w).image.claims =
    put w.image.claims p { w.image.claims.get p with reserved := [] } := by
  simp [dropReserved]

theorem dropEffective_claims (v : View) (p : Pos) (w : Work) : (dropEffective v p w).image.claims =
    put w.image.claims p { w.image.claims.get p with effective := [] } := by
  simp [dropEffective]

theorem effectClaims_claims (v : View) (p : Pos) (w : Work) : (effectClaims v p w).image.claims =
    put w.image.claims p ⟨(w.image.claims.get p).reserved, []⟩ := by
  simp [effectClaims]

theorem addHold_some (p : Pos) (a : Ant) (w : Work) : (addHold p (some a) w).routes.antennas =
    put w.routes.antennas a { w.routes.antennas.get a with holds := put (w.routes.antennas.get a).holds p true } := rfl

theorem dropHold_some (p : Pos) (a : Ant) (w : Work) : (dropHold p (some a) w).routes.antennas =
    put w.routes.antennas a { w.routes.antennas.get a with holds := put (w.routes.antennas.get a).holds p false } := rfl

@[simp] theorem addHold_none (p : Pos) (w : Work) : addHold p none w = w := rfl

@[simp] theorem dropHold_none (p : Pos) (w : Work) : dropHold p none w = w := rfl

/-- A position whose slot holds no HELD request has none to drop (R48). -/
theorem dropHeld_of_not_held (p : Pos) (w : Work)
    (h : ∀ r, (w.routes.contexts.get p).slot = some r → r.status = .latched) : dropHeld p w = w := by
  unfold dropHeld
  split
  · rfl
  · rename_i r hr
    have := h r hr
    split
    · rfl
    · rename_i hs; rw [this] at hs; cases hs

theorem endPermit_keys (v : View) (p : Pos) (next : KeyState) (w : Work) : (endPermit v p next w).gate.keys =
    put w.gate.keys p { w.gate.keys.get p with
      permit := false, state := next
      tail := if v.bank.timing.tailMs = 0 then (w.gate.keys.get p).tail else some v.bank.timing.tailMs } := by
  unfold endPermit
  split <;> simp

/-- A withdrawal of a position that is not ON withdraws nothing (R143). -/
theorem withdraw_of_not_on (v : View) (p : Pos) (reason : Reason) (conflict : Option Pos) (w : Work)
    (h : isOn w.toBlocks p = false) : withdraw v p reason conflict w = w := by
  simp [withdraw, h]

/-- A withdrawal of an ON position takes its permit and bars it (R143). -/
theorem withdraw_keys_of_on (v : View) (p : Pos) (reason : Reason) (conflict : Option Pos) (w : Work)
    (h : isOn w.toBlocks p = true) : (withdraw v p reason conflict w).gate.keys =
    put w.gate.keys p { w.gate.keys.get p with
      permit := false, state := .barred reason
      tail := if v.bank.timing.tailMs = 0 then (w.gate.keys.get p).tail else some v.bank.timing.tailMs } := by
  simp [withdraw, h, endPermit_keys]

theorem grant_keys (p : Pos) (w : Work) : (grant p w).gate.keys =
    put w.gate.keys p { state := .on, tail := none, keyWait := none, permit := true } := rfl

theorem bar_keys (p : Pos) (reason : Reason) (w : Work) : (bar p reason w).gate.keys =
    put w.gate.keys p { w.gate.keys.get p with state := .barred reason, keyWait := none } := rfl

theorem leaveWaiting_waiting (p : Pos) (w : Work) : (leaveWaiting p w).gate.waiting =
    w.gate.waiting.filter (· ≠ p) := rfl

theorem enterWaiting_keys (v : View) (p : Pos) (obstacle : Reason) (w : Work) : (enterWaiting v p obstacle w).gate.keys =
    put w.gate.keys p { w.gate.keys.get p with state := .waiting obstacle, keyWait := keyWaitTimer v } := rfl

theorem enterWaiting_waiting (v : View) (p : Pos) (obstacle : Reason) (w : Work) :
    (enterWaiting v p obstacle w).gate.waiting = w.gate.waiting ++ [p] := rfl

end Sys2Proof.Machine
end

