-- ==== Sys2Proof/Laws/Gate.lean ====
section
/-!
SUPPORT. What each operation of the Keying Gate in Machine/Gate.lean leaves unchanged, and what a waiting walk does to each entry.
-/
namespace Sys2Proof.Machine

@[simp] theorem walkEntry_frame (v : View) (w : Work) (p : Pos) :
    (walkEntry v w p).classifier = w.classifier ∧ (walkEntry v w p).monitor = w.monitor ∧
    (walkEntry v w p).routes = w.routes ∧ (walkEntry v w p).image = w.image ∧
    (walkEntry v w p).heldWalk = w.heldWalk ∧ (walkEntry v w p).waitingWalk = w.waitingWalk ∧
    (walkEntry v w p).examineAll = w.examineAll ∧ (walkEntry v w p).examine = w.examine ∧
    (walkEntry v w p).ended = w.ended ∧ (walkEntry v w p).abandonFaults = w.abandonFaults ∧
    (walkEntry v w p).commitTold = w.commitTold := by
  unfold walkEntry
  split
  · split
    · simp
    · split <;> simp
  all_goals simp

@[simp] theorem walkEntries_frame (v : View) (l : List Pos) (w : Work) :
    (l.foldl (walkEntry v) w).classifier = w.classifier ∧ (l.foldl (walkEntry v) w).monitor = w.monitor ∧
    (l.foldl (walkEntry v) w).routes = w.routes ∧ (l.foldl (walkEntry v) w).image = w.image ∧
    (l.foldl (walkEntry v) w).heldWalk = w.heldWalk ∧ (l.foldl (walkEntry v) w).waitingWalk = w.waitingWalk ∧
    (l.foldl (walkEntry v) w).examineAll = w.examineAll ∧ (l.foldl (walkEntry v) w).examine = w.examine ∧
    (l.foldl (walkEntry v) w).ended = w.ended ∧ (l.foldl (walkEntry v) w).abandonFaults = w.abandonFaults ∧
    (l.foldl (walkEntry v) w).commitTold = w.commitTold := by
  induction l generalizing w with
  | nil => simp
  | cons a l ih => simp [ih]

@[simp] theorem waitingWalk_frame (v : View) (w : Work) :
    (Sys2Proof.Machine.waitingWalk v w).classifier = w.classifier ∧
    (Sys2Proof.Machine.waitingWalk v w).monitor = w.monitor ∧ (Sys2Proof.Machine.waitingWalk v w).routes = w.routes ∧
    (Sys2Proof.Machine.waitingWalk v w).image = w.image ∧ (Sys2Proof.Machine.waitingWalk v w).heldWalk = w.heldWalk ∧
    (Sys2Proof.Machine.waitingWalk v w).examineAll = w.examineAll ∧
    (Sys2Proof.Machine.waitingWalk v w).examine = w.examine ∧ (Sys2Proof.Machine.waitingWalk v w).ended = w.ended ∧
    (Sys2Proof.Machine.waitingWalk v w).abandonFaults = w.abandonFaults ∧
    (Sys2Proof.Machine.waitingWalk v w).commitTold = w.commitTold := by
  simp [Sys2Proof.Machine.waitingWalk]

@[simp] theorem keyDown_frame (v : View) (p : Pos) (w : Work) :
    (keyDown v p w).classifier = w.classifier ∧ (keyDown v p w).monitor = w.monitor ∧
    (keyDown v p w).routes = w.routes ∧ (keyDown v p w).image = w.image ∧ (keyDown v p w).heldWalk = w.heldWalk ∧
    (keyDown v p w).waitingWalk = w.waitingWalk ∧ (keyDown v p w).examineAll = w.examineAll ∧
    (keyDown v p w).examine = w.examine ∧ (keyDown v p w).ended = w.ended ∧
    (keyDown v p w).abandonFaults = w.abandonFaults ∧ (keyDown v p w).commitTold = w.commitTold := by
  unfold keyDown
  split
  · simp
  · split <;> simp

@[simp] theorem keyUp_frame (v : View) (p : Pos) (w : Work) :
    (keyUp v p w).classifier = w.classifier ∧ (keyUp v p w).monitor = w.monitor ∧ (keyUp v p w).routes = w.routes ∧
    (keyUp v p w).image = w.image ∧ (keyUp v p w).raised = w.raised ∧ (keyUp v p w).heldWalk = w.heldWalk ∧
    (keyUp v p w).examineAll = w.examineAll ∧ (keyUp v p w).examine = w.examine ∧
    (keyUp v p w).abandonFaults = w.abandonFaults ∧ (keyUp v p w).commitTold = w.commitTold := by
  unfold keyUp; split <;> simp

@[simp] theorem tailEnd_frame (p : Pos) (w : Work) :
    (tailEnd p w).classifier = w.classifier ∧ (tailEnd p w).monitor = w.monitor ∧ (tailEnd p w).routes = w.routes ∧
    (tailEnd p w).image = w.image ∧ (tailEnd p w).gate.waiting = w.gate.waiting ∧ (tailEnd p w).raised = w.raised ∧
    (tailEnd p w).heldWalk = w.heldWalk ∧ (tailEnd p w).examineAll = w.examineAll ∧
    (tailEnd p w).examine = w.examine ∧ (tailEnd p w).abandonFaults = w.abandonFaults ∧
    (tailEnd p w).commitTold = w.commitTold := by
  simp [tailEnd]

@[simp] theorem keyWaitEnd_frame (p : Pos) (w : Work) :
    (keyWaitEnd p w).classifier = w.classifier ∧ (keyWaitEnd p w).monitor = w.monitor ∧
    (keyWaitEnd p w).routes = w.routes ∧ (keyWaitEnd p w).image = w.image ∧ (keyWaitEnd p w).heldWalk = w.heldWalk ∧
    (keyWaitEnd p w).waitingWalk = w.waitingWalk ∧ (keyWaitEnd p w).examineAll = w.examineAll ∧
    (keyWaitEnd p w).examine = w.examine ∧ (keyWaitEnd p w).ended = w.ended ∧
    (keyWaitEnd p w).abandonFaults = w.abandonFaults ∧ (keyWaitEnd p w).commitTold = w.commitTold := by
  simp [keyWaitEnd]

@[simp] theorem recheck_frame (v : View) (p : Pos) (w : Work) :
    (recheck v p w).classifier = w.classifier ∧ (recheck v p w).monitor = w.monitor ∧
    (recheck v p w).routes = w.routes ∧ (recheck v p w).image = w.image ∧
    (recheck v p w).gate.waiting = w.gate.waiting ∧ (recheck v p w).heldWalk = w.heldWalk ∧
    (recheck v p w).examineAll = w.examineAll ∧ (recheck v p w).examine = w.examine ∧
    (recheck v p w).abandonFaults = w.abandonFaults ∧ (recheck v p w).commitTold = w.commitTold := by
  unfold recheck
  split
  · split <;> simp
  · simp

@[simp] theorem withdrawEach_frame (v : View) (l : List (Pos × Reason × Option Pos)) (w : Work) :
    (l.foldl (fun w f => withdraw v f.1 f.2.1 f.2.2 w) w).classifier = w.classifier ∧
    (l.foldl (fun w f => withdraw v f.1 f.2.1 f.2.2 w) w).monitor = w.monitor ∧
    (l.foldl (fun w f => withdraw v f.1 f.2.1 f.2.2 w) w).routes = w.routes ∧
    (l.foldl (fun w f => withdraw v f.1 f.2.1 f.2.2 w) w).image = w.image ∧
    (l.foldl (fun w f => withdraw v f.1 f.2.1 f.2.2 w) w).gate.waiting = w.gate.waiting ∧
    (l.foldl (fun w f => withdraw v f.1 f.2.1 f.2.2 w) w).heldWalk = w.heldWalk ∧
    (l.foldl (fun w f => withdraw v f.1 f.2.1 f.2.2 w) w).examineAll = w.examineAll ∧
    (l.foldl (fun w f => withdraw v f.1 f.2.1 f.2.2 w) w).examine = w.examine ∧
    (l.foldl (fun w f => withdraw v f.1 f.2.1 f.2.2 w) w).abandonFaults = w.abandonFaults ∧
    (l.foldl (fun w f => withdraw v f.1 f.2.1 f.2.2 w) w).commitTold = w.commitTold := by
  induction l generalizing w with
  | nil => simp
  | cons a l ih => simp [ih]

@[simp] theorem recheckAll_frame (v : View) (w : Work) :
    (recheckAll v w).classifier = w.classifier ∧ (recheckAll v w).monitor = w.monitor ∧
    (recheckAll v w).routes = w.routes ∧ (recheckAll v w).image = w.image ∧
    (recheckAll v w).gate.waiting = w.gate.waiting ∧ (recheckAll v w).heldWalk = w.heldWalk ∧
    (recheckAll v w).examineAll = w.examineAll ∧ (recheckAll v w).examine = w.examine ∧
    (recheckAll v w).abandonFaults = w.abandonFaults ∧ (recheckAll v w).commitTold = w.commitTold := by
  simp [recheckAll]

@[simp] theorem gateFailSafe_frame (v : View) (w : Work) (p : Pos) :
    (gateFailSafe v w p).classifier = w.classifier ∧ (gateFailSafe v w p).monitor = w.monitor ∧
    (gateFailSafe v w p).routes = w.routes ∧ (gateFailSafe v w p).image = w.image ∧
    (gateFailSafe v w p).gate.waiting = w.gate.waiting ∧ (gateFailSafe v w p).raised = w.raised ∧
    (gateFailSafe v w p).heldWalk = w.heldWalk ∧ (gateFailSafe v w p).waitingWalk = w.waitingWalk ∧
    (gateFailSafe v w p).examineAll = w.examineAll ∧ (gateFailSafe v w p).examine = w.examine ∧
    (gateFailSafe v w p).abandonFaults = w.abandonFaults ∧ (gateFailSafe v w p).commitTold = w.commitTold := by
  unfold gateFailSafe; split <;> simp

/-! ### What a waiting walk does to each entry (R138) -/

/-- The grant test reads the bands, the position's route state and antenna, the antenna records and the key records (R131). -/
theorem grantTest_congr (v : View) (w w' : Blocks) (p : Pos) (hc : w'.classifier = w.classifier)
    (ha : w'.routes.antennas = w.routes.antennas) (hk : w'.gate.keys = w.gate.keys)
    (hs : (w'.routes.contexts.get p).state = (w.routes.contexts.get p).state)
    (hn : (w'.routes.contexts.get p).antenna = (w.routes.contexts.get p).antenna) : grantTest v w' p = grantTest v w p := by
  have hb : ∀ q, bandOf v.bank w' q = bandOf v.bank w q := fun q => by simp [bandOf, hc]
  have hm : mismatch v.bank w' p = mismatch v.bank w p := by simp [mismatch, hb, hn]
  have ho : ∀ q, isOn w' q = isOn w q := fun q => by simp [isOn, hk]
  have hss : singleSignalConflict v.bank w' p = singleSignalConflict v.bank w p := by
    funext q; simp [singleSignalConflict, hb]
  have hlo : lockoutConflict v.bank w' p = lockoutConflict v.bank w p := by funext q; simp [lockoutConflict, hb]
  have hbc : bandConflict v.bank w' p = bandConflict v.bank w p := by
    simp [bandConflict, conflicting, ho, hss, hlo]
  have hl : ∀ a, liveHolder w' p a = liveHolder w p a := fun a => by simp [liveHolder, isHolder, live, ha, hk]
  simp [grantTest, hb, hm, hbc, hl, hs, hn, ha]

theorem walkEntry_granted (v : View) (w : Work) (p : Pos) {r : Reason} (hp : (w.key p).state = .waiting r)
    (h : grantTest v w.toBlocks p = none) :
    walkEntry v w p = (leaveWaiting p (grant p w)).raise (.key p .granted none) := by
  simp only [walkEntry, hp, h]

theorem walkEntry_kept (v : View) (w : Work) (p : Pos) {r o : Reason} {c : Option Pos} (hp : (w.key p).state = .waiting r)
    (h : grantTest v w.toBlocks p = some (o, c)) (ho : o.transient = true) :
    walkEntry v w p = w.setKey p { w.key p with state := .waiting o } := by
  simp only [walkEntry, hp, h, ho, if_true]

theorem walkEntry_barred (v : View) (w : Work) (p : Pos) {r o : Reason} {c : Option Pos} (hp : (w.key p).state = .waiting r)
    (h : grantTest v w.toBlocks p = some (o, c)) (ho : o.transient = false) :
    walkEntry v w p = (leaveWaiting p (bar p o w)).raise (.key p .barred none) := by
  simp only [walkEntry, hp, h, ho, Bool.false_eq_true, if_false]

/-- An entry of a walk that is not WAITING is passed over. -/
theorem walkEntry_of_not_waiting (v : View) (w : Work) (p : Pos) (h : ∀ r, (w.key p).state ≠ .waiting r) :
    walkEntry v w p = w := by
  unfold walkEntry
  split
  · rename_i r hr; exact absurd hr (h r)
  all_goals rfl

/-- An entry of a walk changes no key record but its own. -/
theorem walkEntry_key_other (v : View) (w : Work) {p q : Pos} (h : q ≠ p) :
    (walkEntry v w p).gate.keys.get q = w.gate.keys.get q := by
  unfold walkEntry
  split
  · split
    · simp [grant_keys, put_get_other _ _ h]
    · split
      · exact put_get_other _ _ h
      · simp [bar_keys, put_get_other _ _ h]
  all_goals rfl

/-- An entry of a walk leaves the waiting list as it is, or leaves the list. -/
theorem walkEntry_waiting (v : View) (w : Work) (p : Pos) :
    (walkEntry v w p).gate.waiting = w.gate.waiting ∨ (walkEntry v w p).gate.waiting = w.gate.waiting.filter (· ≠ p) := by
  unfold walkEntry
  split
  · split
    · exact .inr (by simp [leaveWaiting_waiting])
    · split
      · exact .inl rfl
      · exact .inr (by simp [leaveWaiting_waiting])
  all_goals exact .inl rfl

/-- A position that a walk does not take keeps its key record. -/
theorem walkEntries_key_of_notMem (v : View) (l : List Pos) (w : Work) {q : Pos} (h : q ∉ l) :
    (l.foldl (walkEntry v) w).gate.keys.get q = w.gate.keys.get q := by
  induction l generalizing w with
  | nil => rfl
  | cons a l ih =>
    rw [List.foldl_cons, ih _ fun m => h (List.mem_cons_of_mem _ m)]
    exact walkEntry_key_other v w fun e => h (e ▸ List.mem_cons_self)

/-- The key record of an entry after a walk is the one its own turn gives it, against the state the entries before it left. -/
theorem walkEntries_key_at_turn (v : View) (before after : List Pos) (w : Work) {q : Pos} (h : q ∉ after) :
    ((before ++ q :: after).foldl (walkEntry v) w).gate.keys.get q =
      (walkEntry v (before.foldl (walkEntry v) w) q).gate.keys.get q := by
  rw [List.foldl_append, List.foldl_cons, walkEntries_key_of_notMem v after _ h]

/-- A position that a walk has not come to has the key record the walk found. -/
theorem walkEntries_key_before_turn (v : View) (before after : List Pos) (w : Work) {q r : Pos}
    (hn : (before ++ q :: after).Nodup) (hr : r ∈ q :: after) :
    (before.foldl (walkEntry v) w).gate.keys.get r = w.gate.keys.get r :=
  walkEntries_key_of_notMem v before w fun m => (List.nodup_append.mp hn).2.2 r m r hr rfl

/-- A walk takes entries out of the waiting list, and changes neither the order nor the place of the others. -/
theorem walkEntries_waiting (v : View) (l : List Pos) (w : Work) :
    ∃ f : Pos → Bool, (l.foldl (walkEntry v) w).gate.waiting = w.gate.waiting.filter f ∧ ∀ q, q ∉ l → f q = true := by
  induction l generalizing w with
  | nil => exact ⟨fun _ => true, (List.filter_eq_self.mpr fun _ _ => rfl).symm, fun _ _ => rfl⟩
  | cons a l ih =>
    obtain ⟨f, hf, hq⟩ := ih (walkEntry v w a)
    rcases walkEntry_waiting v w a with e | e
    · exact ⟨f, by rw [List.foldl_cons, hf, e], fun q m => hq q fun h => m (List.mem_cons_of_mem _ h)⟩
    · refine ⟨fun q => f q && decide (q ≠ a), ?_, fun q m => ?_⟩
      · rw [List.foldl_cons, hf, e, List.filter_filter]
      · have h1 := hq q fun h => m (List.mem_cons_of_mem _ h)
        have h2 : q ≠ a := fun h => m (h ▸ List.mem_cons_self)
        simp [h1, h2]

end Sys2Proof.Machine
end

