-- ==== Sys2Proof/Laws/Engine.lean ====
section
/-!
SUPPORT. What each operation of the Route Engine in Machine/Engine.lean leaves unchanged.
-/
namespace Sys2Proof.Machine

@[simp] theorem reserve_frame (v : View) (p : Pos) (target : Option Ant) (w : Work) :
    (reserve v p target w).classifier = w.classifier ∧ (reserve v p target w).monitor = w.monitor ∧
    (reserve v p target w).routes.contexts = w.routes.contexts ∧ (reserve v p target w).routes.held = w.routes.held ∧
    (reserve v p target w).image.groups = w.image.groups ∧ (reserve v p target w).image.source = w.image.source ∧
    (reserve v p target w).image.coils = w.image.coils ∧ (reserve v p target w).gate = w.gate ∧
    (reserve v p target w).raised = w.raised ∧ (reserve v p target w).heldWalk = w.heldWalk ∧
    (reserve v p target w).waitingWalk = w.waitingWalk ∧ (reserve v p target w).examineAll = w.examineAll ∧
    (reserve v p target w).examine = w.examine ∧ (reserve v p target w).ended = w.ended ∧
    (reserve v p target w).abandonFaults = w.abandonFaults ∧ (reserve v p target w).commitTold = w.commitTold := by
  cases target <;> simp [reserve]

@[simp] theorem unreserve_frame (p : Pos) (target : Option Ant) (w : Work) :
    (unreserve p target w).classifier = w.classifier ∧ (unreserve p target w).monitor = w.monitor ∧
    (unreserve p target w).routes.contexts = w.routes.contexts ∧ (unreserve p target w).routes.held = w.routes.held ∧
    (unreserve p target w).image.source = w.image.source ∧ (unreserve p target w).image.coils = w.image.coils ∧
    (unreserve p target w).gate = w.gate ∧ (unreserve p target w).raised = w.raised ∧
    (unreserve p target w).heldWalk = w.heldWalk ∧ (unreserve p target w).waitingWalk = w.waitingWalk ∧
    (unreserve p target w).examineAll = w.examineAll ∧ (unreserve p target w).examine = w.examine ∧
    (unreserve p target w).ended = w.ended ∧ (unreserve p target w).abandonFaults = w.abandonFaults ∧
    (unreserve p target w).commitTold = w.commitTold := by
  cases target <;> simp [unreserve]

@[simp] theorem startTransition_frame (v : View) (p : Pos) (kind : RequestKind) (cause : Cause)
    (target : Option Ant) (start : RouteState) (w : Work) :
    (startTransition v p kind cause target start w).classifier = w.classifier ∧
    (startTransition v p kind cause target start w).monitor = w.monitor ∧
    (startTransition v p kind cause target start w).routes.held = w.routes.held ∧
    (startTransition v p kind cause target start w).image.groups = w.image.groups ∧
    (startTransition v p kind cause target start w).image.source = w.image.source ∧
    (startTransition v p kind cause target start w).image.coils = w.image.coils ∧
    (startTransition v p kind cause target start w).gate.waiting = w.gate.waiting ∧
    (startTransition v p kind cause target start w).heldWalk = w.heldWalk ∧
    (startTransition v p kind cause target start w).examineAll = w.examineAll ∧
    (startTransition v p kind cause target start w).abandonFaults = w.abandonFaults ∧
    (startTransition v p kind cause target start w).commitTold = w.commitTold := by
  simp [startTransition]

@[simp] theorem faultRoute_frame (v : View) (p : Pos) (w : Work) :
    (faultRoute v p w).classifier = w.classifier ∧ (faultRoute v p w).monitor = w.monitor ∧
    (faultRoute v p w).image.groups = w.image.groups ∧ (faultRoute v p w).image.source = w.image.source ∧
    (faultRoute v p w).image.coils = w.image.coils ∧ (faultRoute v p w).gate.waiting = w.gate.waiting ∧
    (faultRoute v p w).examineAll = w.examineAll ∧ (faultRoute v p w).abandonFaults = w.abandonFaults ∧
    (faultRoute v p w).commitTold = w.commitTold := by
  simp [faultRoute]

@[simp] theorem abandon_frame (v : View) (p : Pos) (w : Work) :
    (abandon v p w).classifier = w.classifier ∧ (abandon v p w).monitor = w.monitor ∧
    (abandon v p w).image.source = w.image.source ∧ (abandon v p w).image.coils = w.image.coils ∧
    (abandon v p w).gate.waiting = w.gate.waiting ∧ (abandon v p w).examineAll = w.examineAll ∧
    (abandon v p w).commitTold = w.commitTold := by
  unfold abandon
  split
  · simp
  · dsimp only
    split <;> simp

@[simp] theorem replaceTarget_frame (v : View) (p : Pos) (t : Transition) (kind : RequestKind)
    (cause : Cause) (target : Option Ant) (w : Work) :
    (replaceTarget v p t kind cause target w).classifier = w.classifier ∧
    (replaceTarget v p t kind cause target w).monitor = w.monitor ∧
    (replaceTarget v p t kind cause target w).routes.held = w.routes.held ∧
    (replaceTarget v p t kind cause target w).image.source = w.image.source ∧
    (replaceTarget v p t kind cause target w).image.coils = w.image.coils ∧
    (replaceTarget v p t kind cause target w).gate = w.gate ∧
    (replaceTarget v p t kind cause target w).raised = w.raised ∧
    (replaceTarget v p t kind cause target w).examineAll = w.examineAll ∧
    (replaceTarget v p t kind cause target w).ended = w.ended ∧
    (replaceTarget v p t kind cause target w).abandonFaults = w.abandonFaults ∧
    (replaceTarget v p t kind cause target w).commitTold = w.commitTold := by
  unfold replaceTarget; dsimp only; split <;> simp

@[simp] theorem actOnSelection_frame (v : View) (p : Pos) (kind : RequestKind) (cause : Cause) (w : Work) :
    ((actOnSelection v p kind cause w).1).classifier = w.classifier ∧
    ((actOnSelection v p kind cause w).1).monitor = w.monitor ∧
    ((actOnSelection v p kind cause w).1).image.source = w.image.source ∧
    ((actOnSelection v p kind cause w).1).image.coils = w.image.coils ∧
    ((actOnSelection v p kind cause w).1).gate.waiting = w.gate.waiting ∧
    ((actOnSelection v p kind cause w).1).examineAll = w.examineAll ∧
    ((actOnSelection v p kind cause w).1).commitTold = w.commitTold := by
  unfold actOnSelection
  split
  · simp
  · dsimp only
    split <;> simp
  · simp
  · simp

@[simp] theorem takeInWait_frame (v : View) (p : Pos) (t : Transition) (kind : RequestKind) (cause : Cause) (w : Work) :
    ((takeInWait v p t kind cause w).1).classifier = w.classifier ∧
    ((takeInWait v p t kind cause w).1).monitor = w.monitor ∧
    ((takeInWait v p t kind cause w).1).image.source = w.image.source ∧
    ((takeInWait v p t kind cause w).1).image.coils = w.image.coils ∧
    ((takeInWait v p t kind cause w).1).gate.waiting = w.gate.waiting ∧
    ((takeInWait v p t kind cause w).1).examineAll = w.examineAll ∧
    ((takeInWait v p t kind cause w).1).commitTold = w.commitTold := by
  unfold takeInWait
  split
  · simp
  · split <;> simp
  · simp
  · dsimp only
    split <;> simp

@[simp] theorem takeRequest_frame (v : View) (p : Pos) (kind : RequestKind) (cause : Cause) (w : Work) :
    ((takeRequest v p kind cause w).1).classifier = w.classifier ∧
    ((takeRequest v p kind cause w).1).monitor = w.monitor ∧
    ((takeRequest v p kind cause w).1).image.source = w.image.source ∧
    ((takeRequest v p kind cause w).1).image.coils = w.image.coils ∧
    ((takeRequest v p kind cause w).1).gate.waiting = w.gate.waiting ∧
    ((takeRequest v p kind cause w).1).examineAll = w.examineAll ∧
    ((takeRequest v p kind cause w).1).commitTold = w.commitTold := by
  unfold takeRequest
  split
  · simp
  · split <;> simp

@[simp] theorem request_frame (v : View) (p : Pos) (kind : RequestKind) (cause : Cause) (w : Work) :
    ((request v p kind cause w).1).classifier = w.classifier ∧ ((request v p kind cause w).1).monitor = w.monitor ∧
    ((request v p kind cause w).1).image.source = w.image.source ∧
    ((request v p kind cause w).1).image.coils = w.image.coils ∧
    ((request v p kind cause w).1).gate.waiting = w.gate.waiting ∧
    ((request v p kind cause w).1).examineAll = w.examineAll ∧
    ((request v p kind cause w).1).commitTold = w.commitTold := by
  unfold request; split <;> simp

@[simp] theorem revertRequest_frame (v : View) (p : Pos) (w : Work) :
    ((revertRequest v p w).1).classifier = w.classifier ∧ ((revertRequest v p w).1).monitor = w.monitor ∧
    ((revertRequest v p w).1).image.source = w.image.source ∧ ((revertRequest v p w).1).image.coils = w.image.coils ∧
    ((revertRequest v p w).1).gate.waiting = w.gate.waiting ∧ ((revertRequest v p w).1).examineAll = w.examineAll ∧
    ((revertRequest v p w).1).commitTold = w.commitTold := by
  unfold revertRequest
  split
  · simp
  · split <;> simp

@[simp] theorem leaveHeld_frame (p : Pos) (w : Work) :
    (leaveHeld p w).classifier = w.classifier ∧ (leaveHeld p w).monitor = w.monitor ∧
    (leaveHeld p w).routes.antennas = w.routes.antennas ∧ (leaveHeld p w).image = w.image ∧
    (leaveHeld p w).gate = w.gate ∧ (leaveHeld p w).raised = w.raised ∧ (leaveHeld p w).heldWalk = w.heldWalk ∧
    (leaveHeld p w).waitingWalk = w.waitingWalk ∧ (leaveHeld p w).examineAll = w.examineAll ∧
    (leaveHeld p w).examine = w.examine ∧ (leaveHeld p w).ended = w.ended ∧
    (leaveHeld p w).abandonFaults = w.abandonFaults ∧ (leaveHeld p w).commitTold = w.commitTold := by
  simp [leaveHeld]

@[simp] theorem heldEntry_frame (v : View) (w : Work) (p : Pos) :
    (heldEntry v w p).classifier = w.classifier ∧ (heldEntry v w p).monitor = w.monitor ∧
    (heldEntry v w p).image.groups = w.image.groups ∧ (heldEntry v w p).image.source = w.image.source ∧
    (heldEntry v w p).image.coils = w.image.coils ∧ (heldEntry v w p).gate.waiting = w.gate.waiting ∧
    (heldEntry v w p).heldWalk = w.heldWalk ∧ (heldEntry v w p).examineAll = w.examineAll ∧
    (heldEntry v w p).abandonFaults = w.abandonFaults ∧ (heldEntry v w p).commitTold = w.commitTold := by
  unfold heldEntry
  split
  · simp
  · split
    · simp
    · split <;> simp

@[simp] theorem heldEntries_frame (v : View) (l : List Pos) (w : Work) :
    (l.foldl (heldEntry v) w).classifier = w.classifier ∧ (l.foldl (heldEntry v) w).monitor = w.monitor ∧
    (l.foldl (heldEntry v) w).image.groups = w.image.groups ∧
    (l.foldl (heldEntry v) w).image.source = w.image.source ∧ (l.foldl (heldEntry v) w).image.coils = w.image.coils ∧
    (l.foldl (heldEntry v) w).gate.waiting = w.gate.waiting ∧ (l.foldl (heldEntry v) w).heldWalk = w.heldWalk ∧
    (l.foldl (heldEntry v) w).examineAll = w.examineAll ∧ (l.foldl (heldEntry v) w).abandonFaults = w.abandonFaults ∧
    (l.foldl (heldEntry v) w).commitTold = w.commitTold := by
  induction l generalizing w with
  | nil => simp
  | cons a l ih => simp [ih]

@[simp] theorem heldWalk_frame (v : View) (w : Work) :
    (Sys2Proof.Machine.heldWalk v w).classifier = w.classifier ∧
    (Sys2Proof.Machine.heldWalk v w).monitor = w.monitor ∧
    (Sys2Proof.Machine.heldWalk v w).image.groups = w.image.groups ∧
    (Sys2Proof.Machine.heldWalk v w).image.source = w.image.source ∧
    (Sys2Proof.Machine.heldWalk v w).image.coils = w.image.coils ∧
    (Sys2Proof.Machine.heldWalk v w).gate.waiting = w.gate.waiting ∧
    (Sys2Proof.Machine.heldWalk v w).examineAll = w.examineAll ∧
    (Sys2Proof.Machine.heldWalk v w).abandonFaults = w.abandonFaults ∧
    (Sys2Proof.Machine.heldWalk v w).commitTold = w.commitTold := by
  simp [Sys2Proof.Machine.heldWalk]

@[simp] theorem heldWalkIfOwed_frame (v : View) (w : Work) :
    (heldWalkIfOwed v w).classifier = w.classifier ∧ (heldWalkIfOwed v w).monitor = w.monitor ∧
    (heldWalkIfOwed v w).image.groups = w.image.groups ∧ (heldWalkIfOwed v w).image.source = w.image.source ∧
    (heldWalkIfOwed v w).image.coils = w.image.coils ∧ (heldWalkIfOwed v w).gate.waiting = w.gate.waiting ∧
    (heldWalkIfOwed v w).examineAll = w.examineAll ∧ (heldWalkIfOwed v w).abandonFaults = w.abandonFaults ∧
    (heldWalkIfOwed v w).commitTold = w.commitTold := by
  unfold heldWalkIfOwed; split <;> simp

@[simp] theorem examineOne_frame (v : View) (w : Work) (p : Pos) :
    (examineOne v w p).classifier = w.classifier ∧ (examineOne v w p).monitor = w.monitor ∧
    (examineOne v w p).routes.antennas = w.routes.antennas ∧ (examineOne v w p).routes.held = w.routes.held ∧
    (examineOne v w p).image = w.image ∧ (examineOne v w p).gate = w.gate ∧ (examineOne v w p).raised = w.raised ∧
    (examineOne v w p).heldWalk = w.heldWalk ∧ (examineOne v w p).waitingWalk = w.waitingWalk ∧
    (examineOne v w p).examineAll = w.examineAll ∧ (examineOne v w p).examine = w.examine ∧
    (examineOne v w p).ended = w.ended ∧ (examineOne v w p).abandonFaults = w.abandonFaults ∧
    (examineOne v w p).commitTold = w.commitTold := by
  unfold examineOne
  split
  · simp
  · split <;> simp

@[simp] theorem examineEach_frame (v : View) (l : List Pos) (w : Work) :
    (l.foldl (examineOne v) w).classifier = w.classifier ∧ (l.foldl (examineOne v) w).monitor = w.monitor ∧
    (l.foldl (examineOne v) w).routes.antennas = w.routes.antennas ∧
    (l.foldl (examineOne v) w).routes.held = w.routes.held ∧ (l.foldl (examineOne v) w).image = w.image ∧
    (l.foldl (examineOne v) w).gate = w.gate ∧ (l.foldl (examineOne v) w).raised = w.raised ∧
    (l.foldl (examineOne v) w).heldWalk = w.heldWalk ∧ (l.foldl (examineOne v) w).waitingWalk = w.waitingWalk ∧
    (l.foldl (examineOne v) w).examineAll = w.examineAll ∧ (l.foldl (examineOne v) w).examine = w.examine ∧
    (l.foldl (examineOne v) w).ended = w.ended ∧ (l.foldl (examineOne v) w).abandonFaults = w.abandonFaults ∧
    (l.foldl (examineOne v) w).commitTold = w.commitTold := by
  induction l generalizing w with
  | nil => simp
  | cons a l ih => simp [ih]

@[simp] theorem examineOwed_frame (v : View) (w : Work) :
    (examineOwed v w).classifier = w.classifier ∧ (examineOwed v w).monitor = w.monitor ∧
    (examineOwed v w).routes.antennas = w.routes.antennas ∧ (examineOwed v w).routes.held = w.routes.held ∧
    (examineOwed v w).image = w.image ∧ (examineOwed v w).gate = w.gate ∧ (examineOwed v w).raised = w.raised ∧
    (examineOwed v w).heldWalk = w.heldWalk ∧ (examineOwed v w).waitingWalk = w.waitingWalk ∧
    (examineOwed v w).abandonFaults = w.abandonFaults ∧ (examineOwed v w).commitTold = w.commitTold := by
  simp [examineOwed, -List.foldl_cons, positions]

@[simp] theorem waitingWalkIfOwed_frame (v : View) (w : Work) :
    (waitingWalkIfOwed v w).classifier = w.classifier ∧ (waitingWalkIfOwed v w).monitor = w.monitor ∧
    (waitingWalkIfOwed v w).routes = w.routes ∧ (waitingWalkIfOwed v w).image = w.image ∧
    (waitingWalkIfOwed v w).heldWalk = w.heldWalk ∧ (waitingWalkIfOwed v w).examineAll = w.examineAll ∧
    (waitingWalkIfOwed v w).examine = w.examine ∧ (waitingWalkIfOwed v w).ended = w.ended ∧
    (waitingWalkIfOwed v w).abandonFaults = w.abandonFaults ∧ (waitingWalkIfOwed v w).commitTold = w.commitTold := by
  unfold waitingWalkIfOwed; split <;> simp

@[simp] theorem close_frame (v : View) (w : Work) :
    (close v w).classifier = w.classifier ∧ (close v w).monitor = w.monitor ∧
    (close v w).image.groups = w.image.groups ∧ (close v w).image.source = w.image.source ∧
    (close v w).image.coils = w.image.coils ∧ (close v w).abandonFaults = w.abandonFaults ∧
    (close v w).commitTold = w.commitTold := by
  simp [close]

@[simp] theorem raiseFaults_frame (l : List Pos) (w : Work) :
    (l.foldl (fun w p => w.raise (.route p .fault none)) w).classifier = w.classifier ∧
    (l.foldl (fun w p => w.raise (.route p .fault none)) w).monitor = w.monitor ∧
    (l.foldl (fun w p => w.raise (.route p .fault none)) w).routes = w.routes ∧
    (l.foldl (fun w p => w.raise (.route p .fault none)) w).image = w.image ∧
    (l.foldl (fun w p => w.raise (.route p .fault none)) w).gate = w.gate ∧
    (l.foldl (fun w p => w.raise (.route p .fault none)) w).heldWalk = w.heldWalk ∧
    (l.foldl (fun w p => w.raise (.route p .fault none)) w).waitingWalk = w.waitingWalk ∧
    (l.foldl (fun w p => w.raise (.route p .fault none)) w).examineAll = w.examineAll ∧
    (l.foldl (fun w p => w.raise (.route p .fault none)) w).examine = w.examine ∧
    (l.foldl (fun w p => w.raise (.route p .fault none)) w).ended = w.ended ∧
    (l.foldl (fun w p => w.raise (.route p .fault none)) w).abandonFaults = w.abandonFaults ∧
    (l.foldl (fun w p => w.raise (.route p .fault none)) w).commitTold = w.commitTold := by
  induction l generalizing w with
  | nil => simp
  | cons a l ih => simp [ih]

@[simp] theorem raiseAbandonFaults_frame (w : Work) :
    (raiseAbandonFaults w).classifier = w.classifier ∧ (raiseAbandonFaults w).monitor = w.monitor ∧
    (raiseAbandonFaults w).routes = w.routes ∧ (raiseAbandonFaults w).image = w.image ∧
    (raiseAbandonFaults w).gate = w.gate ∧ (raiseAbandonFaults w).heldWalk = w.heldWalk ∧
    (raiseAbandonFaults w).waitingWalk = w.waitingWalk ∧ (raiseAbandonFaults w).examineAll = w.examineAll ∧
    (raiseAbandonFaults w).examine = w.examine ∧ (raiseAbandonFaults w).ended = w.ended ∧
    (raiseAbandonFaults w).commitTold = w.commitTold := by
  simp [raiseAbandonFaults]

@[simp] theorem closeRequest_frame (v : View) (r : Work × Answer) :
    ((closeRequest v r).1).classifier = r.1.classifier ∧ ((closeRequest v r).1).monitor = r.1.monitor ∧
    ((closeRequest v r).1).image.source = r.1.image.source ∧ ((closeRequest v r).1).image.coils = r.1.image.coils ∧
    ((closeRequest v r).1).commitTold = r.1.commitTold := by
  simp [closeRequest]

@[simp] theorem raiseFollow_frame (p : Pos) (answer : Answer) (w : Work) :
    (raiseFollow p answer w).classifier = w.classifier ∧ (raiseFollow p answer w).monitor = w.monitor ∧
    (raiseFollow p answer w).routes = w.routes ∧ (raiseFollow p answer w).image = w.image ∧
    (raiseFollow p answer w).gate = w.gate ∧ (raiseFollow p answer w).heldWalk = w.heldWalk ∧
    (raiseFollow p answer w).waitingWalk = w.waitingWalk ∧ (raiseFollow p answer w).examineAll = w.examineAll ∧
    (raiseFollow p answer w).examine = w.examine ∧ (raiseFollow p answer w).ended = w.ended ∧
    (raiseFollow p answer w).abandonFaults = w.abandonFaults ∧
    (raiseFollow p answer w).commitTold = w.commitTold := by
  cases answer <;> simp [raiseFollow]

@[simp] theorem followRequest_frame (v : View) (p : Pos) (w : Work) :
    (followRequest v p w).classifier = w.classifier ∧ (followRequest v p w).monitor = w.monitor ∧
    (followRequest v p w).image.source = w.image.source ∧ (followRequest v p w).image.coils = w.image.coils ∧
    (followRequest v p w).commitTold = w.commitTold := by
  simp [followRequest]

@[simp] theorem forceRelease_frame (v : View) (p : Pos) (w : Work) :
    (forceRelease v p w).classifier = w.classifier ∧ (forceRelease v p w).monitor = w.monitor ∧
    (forceRelease v p w).image.groups = w.image.groups ∧ (forceRelease v p w).image.source = w.image.source ∧
    (forceRelease v p w).image.coils = w.image.coils ∧ (forceRelease v p w).gate.waiting = w.gate.waiting ∧
    (forceRelease v p w).examineAll = w.examineAll ∧ (forceRelease v p w).abandonFaults = w.abandonFaults ∧
    (forceRelease v p w).commitTold = w.commitTold := by
  simp [forceRelease]

@[simp] theorem beginBreak_frame (v : View) (p : Pos) (t : Transition) (w : Work) :
    (beginBreak v p t w).classifier = w.classifier ∧ (beginBreak v p t w).monitor = w.monitor ∧
    (beginBreak v p t w).routes.antennas = w.routes.antennas ∧ (beginBreak v p t w).routes.held = w.routes.held ∧
    (beginBreak v p t w).image.source = w.image.source ∧ (beginBreak v p t w).gate = w.gate ∧
    (beginBreak v p t w).raised = w.raised ∧ (beginBreak v p t w).waitingWalk = w.waitingWalk ∧
    (beginBreak v p t w).examineAll = w.examineAll ∧ (beginBreak v p t w).examine = w.examine ∧
    (beginBreak v p t w).ended = w.ended ∧ (beginBreak v p t w).abandonFaults = w.abandonFaults ∧
    (beginBreak v p t w).commitTold = w.commitTold := by
  simp [beginBreak]

@[simp] theorem beginMake_frame (v : View) (p : Pos) (t : Transition) (a : Ant) (w : Work) :
    (beginMake v p t a w).classifier = w.classifier ∧ (beginMake v p t a w).monitor = w.monitor ∧
    (beginMake v p t a w).routes.held = w.routes.held ∧ (beginMake v p t a w).image.groups = w.image.groups ∧
    (beginMake v p t a w).image.source = w.image.source ∧ (beginMake v p t a w).gate = w.gate ∧
    (beginMake v p t a w).raised = w.raised ∧ (beginMake v p t a w).waitingWalk = w.waitingWalk ∧
    (beginMake v p t a w).examineAll = w.examineAll ∧ (beginMake v p t a w).examine = w.examine ∧
    (beginMake v p t a w).ended = w.ended ∧ (beginMake v p t a w).abandonFaults = w.abandonFaults ∧
    (beginMake v p t a w).commitTold = w.commitTold := by
  simp [beginMake]

@[simp] theorem depart_frame (v : View) (p : Pos) (t : Transition) (w : Work) :
    (depart v p t w).classifier = w.classifier ∧ (depart v p t w).monitor = w.monitor ∧
    (depart v p t w).routes.held = w.routes.held ∧ (depart v p t w).image.source = w.image.source ∧
    (depart v p t w).gate = w.gate ∧ (depart v p t w).raised = w.raised ∧
    (depart v p t w).waitingWalk = w.waitingWalk ∧ (depart v p t w).examineAll = w.examineAll ∧
    (depart v p t w).examine = w.examine ∧ (depart v p t w).ended = w.ended ∧
    (depart v p t w).abandonFaults = w.abandonFaults ∧ (depart v p t w).commitTold = w.commitTold := by
  unfold depart
  split
  · split <;> simp
  · simp

@[simp] theorem leaveOld_frame (p : Pos) (t : Transition) (w : Work) :
    (leaveOld p t w).classifier = w.classifier ∧ (leaveOld p t w).monitor = w.monitor ∧
    (leaveOld p t w).routes.held = w.routes.held ∧ (leaveOld p t w).image.claims = w.image.claims ∧
    (leaveOld p t w).image.source = w.image.source ∧ (leaveOld p t w).image.coils = w.image.coils ∧
    (leaveOld p t w).gate = w.gate ∧ (leaveOld p t w).raised = w.raised ∧ (leaveOld p t w).heldWalk = w.heldWalk ∧
    (leaveOld p t w).waitingWalk = w.waitingWalk ∧ (leaveOld p t w).examineAll = w.examineAll ∧
    (leaveOld p t w).examine = w.examine ∧ (leaveOld p t w).ended = w.ended ∧
    (leaveOld p t w).abandonFaults = w.abandonFaults ∧ (leaveOld p t w).commitTold = w.commitTold := by
  unfold leaveOld; split <;> simp

@[simp] theorem failCheck_frame (v : View) (p : Pos) (t : Transition) (w : Work) :
    (failCheck v p t w).classifier = w.classifier ∧ (failCheck v p t w).monitor = w.monitor ∧
    (failCheck v p t w).routes.held = w.routes.held ∧ (failCheck v p t w).image.source = w.image.source ∧
    (failCheck v p t w).gate = w.gate ∧ (failCheck v p t w).raised = w.raised ∧
    (failCheck v p t w).heldWalk = w.heldWalk ∧ (failCheck v p t w).waitingWalk = w.waitingWalk ∧
    (failCheck v p t w).examineAll = w.examineAll ∧ (failCheck v p t w).examine = w.examine ∧
    (failCheck v p t w).ended = w.ended ∧ (failCheck v p t w).abandonFaults = w.abandonFaults ∧
    (failCheck v p t w).commitTold = w.commitTold := by
  unfold failCheck; cases t.target <;> simp

@[simp] theorem clearTransition_frame (w : Work) (e : Ending) :
    (clearTransition w e).classifier = w.classifier ∧ (clearTransition w e).monitor = w.monitor ∧
    (clearTransition w e).routes.held = w.routes.held ∧ (clearTransition w e).image = w.image ∧
    (clearTransition w e).gate = w.gate ∧ (clearTransition w e).raised = w.raised ∧
    (clearTransition w e).heldWalk = w.heldWalk ∧ (clearTransition w e).waitingWalk = w.waitingWalk ∧
    (clearTransition w e).examineAll = w.examineAll ∧ (clearTransition w e).examine = w.examine ∧
    (clearTransition w e).ended = w.ended ∧ (clearTransition w e).abandonFaults = w.abandonFaults ∧
    (clearTransition w e).commitTold = w.commitTold := by
  unfold clearTransition; split <;> simp

@[simp] theorem clearTransitions_frame (l : List Ending) (w : Work) :
    (l.foldl clearTransition w).classifier = w.classifier ∧ (l.foldl clearTransition w).monitor = w.monitor ∧
    (l.foldl clearTransition w).routes.held = w.routes.held ∧ (l.foldl clearTransition w).image = w.image ∧
    (l.foldl clearTransition w).gate = w.gate ∧ (l.foldl clearTransition w).raised = w.raised ∧
    (l.foldl clearTransition w).heldWalk = w.heldWalk ∧ (l.foldl clearTransition w).waitingWalk = w.waitingWalk ∧
    (l.foldl clearTransition w).examineAll = w.examineAll ∧ (l.foldl clearTransition w).examine = w.examine ∧
    (l.foldl clearTransition w).ended = w.ended ∧ (l.foldl clearTransition w).abandonFaults = w.abandonFaults ∧
    (l.foldl clearTransition w).commitTold = w.commitTold := by
  induction l generalizing w with
  | nil => simp
  | cons a l ih => simp [ih]

@[simp] theorem startLatched_frame (v : View) (p : Pos) (w : Work) :
    ((startLatched v p w).1).classifier = w.classifier ∧ ((startLatched v p w).1).monitor = w.monitor ∧
    ((startLatched v p w).1).image.source = w.image.source ∧ ((startLatched v p w).1).image.coils = w.image.coils ∧
    ((startLatched v p w).1).gate.waiting = w.gate.waiting ∧ ((startLatched v p w).1).examineAll = w.examineAll ∧
    ((startLatched v p w).1).commitTold = w.commitTold := by
  unfold startLatched
  split
  · simp
  · dsimp only
    split <;> simp

@[simp] theorem startLatchedAll_frame (v : View) (l : List Ending) (w : Work) :
    ((startLatchedAll v l w).1).classifier = w.classifier ∧ ((startLatchedAll v l w).1).monitor = w.monitor ∧
    ((startLatchedAll v l w).1).image.source = w.image.source ∧
    ((startLatchedAll v l w).1).image.coils = w.image.coils ∧
    ((startLatchedAll v l w).1).gate.waiting = w.gate.waiting ∧
    ((startLatchedAll v l w).1).examineAll = w.examineAll ∧
    ((startLatchedAll v l w).1).commitTold = w.commitTold := by
  induction l generalizing w with
  | nil => simp [startLatchedAll]
  | cons a l ih => simp [startLatchedAll, ih]

@[simp] theorem commitReleaseFollow_frame (v : View) (w : Work) (e : Ending) :
    (commitReleaseFollow v w e).classifier = w.classifier ∧ (commitReleaseFollow v w e).monitor = w.monitor ∧
    (commitReleaseFollow v w e).image.source = w.image.source ∧
    (commitReleaseFollow v w e).image.coils = w.image.coils ∧
    (commitReleaseFollow v w e).gate.waiting = w.gate.waiting ∧
    (commitReleaseFollow v w e).examineAll = w.examineAll ∧
    (commitReleaseFollow v w e).commitTold = w.commitTold := by
  unfold commitReleaseFollow; dsimp only; split <;> simp

@[simp] theorem commitReleaseFollows_frame (v : View) (l : List Ending) (w : Work) :
    (l.foldl (commitReleaseFollow v) w).classifier = w.classifier ∧
    (l.foldl (commitReleaseFollow v) w).monitor = w.monitor ∧
    (l.foldl (commitReleaseFollow v) w).image.source = w.image.source ∧
    (l.foldl (commitReleaseFollow v) w).image.coils = w.image.coils ∧
    (l.foldl (commitReleaseFollow v) w).gate.waiting = w.gate.waiting ∧
    (l.foldl (commitReleaseFollow v) w).examineAll = w.examineAll ∧
    (l.foldl (commitReleaseFollow v) w).commitTold = w.commitTold := by
  induction l generalizing w with
  | nil => simp
  | cons a l ih => simp [ih]

@[simp] theorem raiseEndings_frame (l : List (Ending × Option Answer)) (w : Work) :
    (l.foldl (fun w e => w.raise (.route e.1.pos e.1.notice e.2)) w).classifier = w.classifier ∧
    (l.foldl (fun w e => w.raise (.route e.1.pos e.1.notice e.2)) w).monitor = w.monitor ∧
    (l.foldl (fun w e => w.raise (.route e.1.pos e.1.notice e.2)) w).routes = w.routes ∧
    (l.foldl (fun w e => w.raise (.route e.1.pos e.1.notice e.2)) w).image = w.image ∧
    (l.foldl (fun w e => w.raise (.route e.1.pos e.1.notice e.2)) w).gate = w.gate ∧
    (l.foldl (fun w e => w.raise (.route e.1.pos e.1.notice e.2)) w).heldWalk = w.heldWalk ∧
    (l.foldl (fun w e => w.raise (.route e.1.pos e.1.notice e.2)) w).waitingWalk = w.waitingWalk ∧
    (l.foldl (fun w e => w.raise (.route e.1.pos e.1.notice e.2)) w).examineAll = w.examineAll ∧
    (l.foldl (fun w e => w.raise (.route e.1.pos e.1.notice e.2)) w).examine = w.examine ∧
    (l.foldl (fun w e => w.raise (.route e.1.pos e.1.notice e.2)) w).ended = w.ended ∧
    (l.foldl (fun w e => w.raise (.route e.1.pos e.1.notice e.2)) w).abandonFaults = w.abandonFaults ∧
    (l.foldl (fun w e => w.raise (.route e.1.pos e.1.notice e.2)) w).commitTold = w.commitTold := by
  induction l generalizing w with
  | nil => simp
  | cons a l ih => simp [ih]

@[simp] theorem endTransitions_frame (v : View) (l : List Ending) (removed : Bool) (w : Work) :
    (endTransitions v l removed w).classifier = w.classifier ∧ (endTransitions v l removed w).monitor = w.monitor ∧
    (endTransitions v l removed w).image.source = w.image.source ∧
    (endTransitions v l removed w).image.coils = w.image.coils := by
  unfold endTransitions
  split
  · simp
  · simp [-List.foldl_cons]

@[simp] theorem breakEnd_frame (v : View) (p : Pos) (t : Transition) (w : Work) :
    (breakEnd v p t w).classifier = w.classifier ∧ (breakEnd v p t w).monitor = w.monitor ∧
    (breakEnd v p t w).image.source = w.image.source := by
  unfold breakEnd; dsimp only; split <;> simp

@[simp] theorem checkOutcome_frame (v : View) (r : Work × List Ending) (p : Pos) :
    ((checkOutcome v r p).1).classifier = r.1.classifier ∧ ((checkOutcome v r p).1).monitor = r.1.monitor ∧
    ((checkOutcome v r p).1).routes.held = r.1.routes.held ∧ ((checkOutcome v r p).1).image.source = r.1.image.source ∧
    ((checkOutcome v r p).1).gate = r.1.gate ∧ ((checkOutcome v r p).1).raised = r.1.raised ∧
    ((checkOutcome v r p).1).heldWalk = r.1.heldWalk ∧ ((checkOutcome v r p).1).waitingWalk = r.1.waitingWalk ∧
    ((checkOutcome v r p).1).examineAll = r.1.examineAll ∧ ((checkOutcome v r p).1).examine = r.1.examine ∧
    ((checkOutcome v r p).1).ended = r.1.ended ∧ ((checkOutcome v r p).1).abandonFaults = r.1.abandonFaults ∧
    ((checkOutcome v r p).1).commitTold = r.1.commitTold := by
  unfold checkOutcome
  split
  · simp
  · split <;> simp

@[simp] theorem checkOutcomes_frame (v : View) (l : List Pos) (r : Work × List Ending) :
    ((l.foldl (checkOutcome v) r).1).classifier = r.1.classifier ∧
    ((l.foldl (checkOutcome v) r).1).monitor = r.1.monitor ∧
    ((l.foldl (checkOutcome v) r).1).routes.held = r.1.routes.held ∧
    ((l.foldl (checkOutcome v) r).1).image.source = r.1.image.source ∧ ((l.foldl (checkOutcome v) r).1).gate = r.1.gate ∧
    ((l.foldl (checkOutcome v) r).1).raised = r.1.raised ∧ ((l.foldl (checkOutcome v) r).1).heldWalk = r.1.heldWalk ∧
    ((l.foldl (checkOutcome v) r).1).waitingWalk = r.1.waitingWalk ∧
    ((l.foldl (checkOutcome v) r).1).examineAll = r.1.examineAll ∧
    ((l.foldl (checkOutcome v) r).1).examine = r.1.examine ∧ ((l.foldl (checkOutcome v) r).1).ended = r.1.ended ∧
    ((l.foldl (checkOutcome v) r).1).abandonFaults = r.1.abandonFaults ∧
    ((l.foldl (checkOutcome v) r).1).commitTold = r.1.commitTold := by
  induction l generalizing r with
  | nil => simp
  | cons a l ih => simp [ih]

@[simp] theorem endChecks_frame (v : View) (l : List Pos) (w : Work) :
    (endChecks v l w).classifier = w.classifier ∧ (endChecks v l w).monitor = w.monitor ∧
    (endChecks v l w).image.source = w.image.source := by
  simp [endChecks]

@[simp] theorem makeEnd_frame (v : View) (p : Pos) (t : Transition) (w : Work) :
    (makeEnd v p t w).classifier = w.classifier ∧ (makeEnd v p t w).monitor = w.monitor ∧
    (makeEnd v p t w).image.source = w.image.source := by
  unfold makeEnd; dsimp only; split <;> simp

@[simp] theorem takeFault_frame (v : View) (c : Coil) (w : Work) (p : Pos) :
    (takeFault v c w p).classifier = w.classifier ∧ (takeFault v c w p).monitor = w.monitor ∧
    (takeFault v c w p).image.groups = w.image.groups ∧ (takeFault v c w p).image.source = w.image.source ∧
    (takeFault v c w p).image.coils = w.image.coils ∧ (takeFault v c w p).gate.waiting = w.gate.waiting ∧
    (takeFault v c w p).examineAll = w.examineAll ∧ (takeFault v c w p).abandonFaults = w.abandonFaults ∧
    (takeFault v c w p).commitTold = w.commitTold := by
  unfold takeFault
  split
  · split
    · split <;> simp
    · split <;> simp
  · simp

@[simp] theorem takeFaults_frame (v : View) (c : Coil) (l : List Pos) (w : Work) :
    (l.foldl (takeFault v c) w).classifier = w.classifier ∧ (l.foldl (takeFault v c) w).monitor = w.monitor ∧
    (l.foldl (takeFault v c) w).image.groups = w.image.groups ∧
    (l.foldl (takeFault v c) w).image.source = w.image.source ∧
    (l.foldl (takeFault v c) w).image.coils = w.image.coils ∧
    (l.foldl (takeFault v c) w).gate.waiting = w.gate.waiting ∧
    (l.foldl (takeFault v c) w).examineAll = w.examineAll ∧
    (l.foldl (takeFault v c) w).abandonFaults = w.abandonFaults ∧
    (l.foldl (takeFault v c) w).commitTold = w.commitTold := by
  induction l generalizing w with
  | nil => simp
  | cons a l ih => simp [ih]

/-! ### The context of a position -/

/-- The context that the start of a transition leaves (R67). -/
theorem startTransition_contexts (v : View) (p : Pos) (kind : RequestKind) (cause : Cause) (target : Option Ant)
    (start : RouteState) (w : Work) : (startTransition v p kind cause target start w).routes.contexts =
    put w.routes.contexts p { w.routes.contexts.get p with
      transition := some
        { old := (w.routes.contexts.get p).antenna, target := target, kind := kind, cause := cause, phase := .wait
          phaseTimer := none, quietTimer := quietWait v, start := start, due := false, broken := [] }
      state := if cause = .fault then (w.routes.contexts.get p).state else .switching
      mark := (w.routes.contexts.get p).mark || cause.forced } := by
  simp [startTransition]

/-- An examination changes a context by at most the due mark of its transition (R72). -/
theorem examineOne_context (v : View) (w : Work) (p q : Pos) :
    (examineOne v w p).routes.contexts.get q = w.routes.contexts.get q ∨
    ∃ t, (w.routes.contexts.get q).transition = some t ∧ t.phase = .wait ∧
      (examineOne v w p).routes.contexts.get q = { w.routes.contexts.get q with transition := some { t with due := true } } := by
  unfold examineOne
  split
  · exact .inl rfl
  · rename_i t ht
    split
    · rename_i h
      by_cases hq : q = p
      · subst hq
        exact .inr ⟨t, ht, h.1, by simp⟩
      · exact .inl (by simp [put_get_other, hq])
    · exact .inl rfl

/-- No transition with a quiet condition that holds stands outside WAIT when it becomes due, and no other part of a context
moves at the examinations of an event (R71, R72). -/
theorem examineEach_context (v : View) (l : List Pos) (w : Work) (q : Pos) :
    (l.foldl (examineOne v) w).routes.contexts.get q = w.routes.contexts.get q ∨
    ∃ t, (w.routes.contexts.get q).transition = some t ∧ t.phase = .wait ∧
      (l.foldl (examineOne v) w).routes.contexts.get q
        = { w.routes.contexts.get q with transition := some { t with due := true } } := by
  induction l generalizing w with
  | nil => exact .inl rfl
  | cons p l ih =>
    rw [List.foldl_cons]
    rcases examineOne_context v w p q with h | ⟨t, ht, hw, h⟩
    · rcases ih (examineOne v w p) with h' | ⟨t, ht, hw, h'⟩
      · exact .inl (h'.trans h)
      · exact .inr ⟨t, by rw [← h]; exact ht, hw, by rw [h', h]⟩
    · rcases ih (examineOne v w p) with h' | ⟨t', ht', hw', h'⟩
      · exact .inr ⟨t, ht, hw, h'.trans h⟩
      · refine .inr ⟨t, ht, hw, ?_⟩
        rw [h] at ht'
        simp only [Option.some.injEq] at ht'
        rw [h', h, ← ht']

/-- A held walk over an empty held list does nothing but clear what is owed (R54). -/
theorem heldWalk_empty (v : View) (w : Work) (h : w.routes.held = []) :
    Sys2Proof.Machine.heldWalk v w = { w with heldWalk := false } := by
  simp [Sys2Proof.Machine.heldWalk, h]

/-- The close of an event with no held request is the examinations and the waiting walk. -/
theorem close_of_no_held (v : View) (w : Work) (h : w.routes.held = [] ∨ w.heldWalk = false) :
    close v w = waitingWalkIfOwed v (examineOwed v { w with heldWalk := false }) := by
  unfold close heldWalkIfOwed
  split
  · rename_i hw
    rcases h with h | h
    · rw [heldWalk_empty v w h]
    · rw [h] at hw; cases hw
  · rename_i hw
    have : w.heldWalk = false := by simpa using hw
    have e : { w with heldWalk := false } = w := by cases w; simp_all
    rw [e]

/-- The context of a position at the close of an event that makes no held walk: at most its transition becomes due. -/
theorem close_context (v : View) (w : Work) (q : Pos) (h : w.routes.held = [] ∨ w.heldWalk = false) :
    (close v w).routes.contexts.get q = w.routes.contexts.get q ∨
    ∃ t, (w.routes.contexts.get q).transition = some t ∧ t.phase = .wait ∧
      (close v w).routes.contexts.get q = { w.routes.contexts.get q with transition := some { t with due := true } } := by
  rw [close_of_no_held v w h]
  simp only [waitingWalkIfOwed_frame, examineOwed]
  exact examineEach_context v positions { w with heldWalk := false } q

end Sys2Proof.Machine
end

