-- ==== Sys2Proof/Laws/Events.lean ====
section
/-!
SUPPORT. What the end of an event does to the part (`State.finish`, `State.event`): it replaces the blocks, delivers notices
and may make an apply due, and leaves everything else; and what the operations of the Coil Monitor, the Band Classifier and
Station Control leave unchanged.
-/
namespace Sys2Proof.Machine

/-! ### Delivery of notices -/

/-- A delivery changes the notice queue and the notices-dropped flag alone. -/
@[simp] theorem deliver_frame (pt : Port) (n : Notice) :
    (pt.deliver n).framer = pt.framer ∧ (pt.deliver n).gapTimer = pt.gapTimer ∧ (pt.deliver n).inbound = pt.inbound ∧
    (pt.deliver n).reply = pt.reply ∧ (pt.deliver n).transmitter = pt.transmitter ∧
    (pt.deliver n).discarded = pt.discarded ∧ (pt.deliver n).cursor = pt.cursor := by
  unfold Port.deliver
  split
  · simp
  · split <;> simp

theorem replaceFirst_length (n : Notice) (l l' : List Notice) (h : replaceFirst n l = some l') : l'.length = l.length := by
  induction l generalizing l' with
  | nil => simp [replaceFirst] at h
  | cons m rest ih =>
    unfold replaceFirst at h
    split at h
    · cases h; rfl
    · cases hr : replaceFirst n rest with
      | none => simp [hr] at h
      | some r =>
        simp only [hr, Option.map_some, Option.some.injEq] at h
        subst h
        simp [ih r hr]

/-- A replacement keeps the length of the queue (R188). -/
theorem replaceUnsent_length (pt : Port) (n : Notice) (l : List Notice) (h : pt.replaceUnsent n = some l) :
    l.length = pt.notices.length := by
  unfold Port.replaceUnsent at h
  split at h
  · rename_i head rest _ hn
    cases hr : replaceFirst n rest with
    | none => simp [hr] at h
    | some r =>
      simp only [hr, Option.map_some, Option.some.injEq] at h
      subst h
      simp [hn, replaceFirst_length n rest r hr]
  · exact replaceFirst_length n _ l h

/-- A delivery never makes a queue of at most 8 longer than 8 (R188). -/
theorem deliver_bound (pt : Port) (n : Notice) (h : pt.notices.length ≤ 8) : (pt.deliver n).notices.length ≤ 8 := by
  unfold Port.deliver
  split
  · rename_i l hl
    simpa [replaceUnsent_length pt n l hl] using h
  · split
    · simp; omega
    · exact h

/-- Port by port, the delivery of one raised notice is a delivery or nothing. -/
theorem deliverOne_get (b : Bank) (w : Blocks) (ports : Vector Port 6) (n : Raised) (lp : Pos) :
    (deliverOne b w ports n).get lp = ports.get lp ∨ ∃ m, (deliverOne b w ports n).get lp = (ports.get lp).deliver m := by
  unfold deliverOne
  split
  · rename_i p cause answer
    by_cases h : lp = p
    · subst h; exact .inr ⟨_, by simp; rfl⟩
    · exact .inl (by simp [put_get_other, h])
  · rename_i p ev conflict
    by_cases h : lp = p
    · subst h; exact .inr ⟨_, by simp; rfl⟩
    · exact .inl (by simp [put_get_other, h])
  · exact .inr ⟨_, by simp; rfl⟩

/-- A part of a port that every delivery leaves is left by the delivery of an event's notices. -/
theorem deliverAll_frame {β : Type} (g : Port → β) (hg : ∀ pt n, g (pt.deliver n) = g pt) (b : Bank) (w : Blocks)
    (l : List Raised) (ports : Vector Port 6) (lp : Pos) :
    g ((l.foldl (deliverOne b w) ports).get lp) = g (ports.get lp) := by
  induction l generalizing ports with
  | nil => rfl
  | cons n l ih =>
    rw [List.foldl_cons, ih]
    rcases deliverOne_get b w ports n lp with h | ⟨m, h⟩
    · rw [h]
    · rw [h, hg]

/-- A property of a port that every delivery keeps is kept by the delivery of an event's notices. -/
theorem deliverAll_keeps (P : Port → Prop) (hP : ∀ pt n, P pt → P (pt.deliver n)) (b : Bank) (w : Blocks)
    (l : List Raised) (ports : Vector Port 6) (lp : Pos) (h0 : P (ports.get lp)) :
    P ((l.foldl (deliverOne b w) ports).get lp) := by
  induction l generalizing ports with
  | nil => exact h0
  | cons n l ih =>
    apply ih
    rcases deliverOne_get b w ports n lp with h | ⟨m, h⟩
    · rw [h]; exact h0
    · rw [h]; exact hP _ _ h0

/-! ### The end of an event -/

/-- The end of an event leaves everything but the blocks, the ports and the apply-due mark. -/
@[simp] theorem finish_frame (s : State) (w : Work) :
    (s.finish w).pending = s.pending ∧ (s.finish w).pins = s.pins ∧ (s.finish w).startUp = s.startUp ∧
    (s.finish w).rate = s.rate ∧ (s.finish w).station = s.station ∧ (s.finish w).supply = s.supply ∧
    (s.finish w).store = s.store ∧ (s.finish w).lines = s.lines ∧ (s.finish w).pointer = s.pointer ∧
    (s.finish w).blocks = w.toBlocks ∧ (s.finish w).banks.active = s.banks.active ∧
    (s.finish w).banks.staging = s.banks.staging ∧ (s.finish w).banks.valid = s.banks.valid ∧
    (s.finish w).banks.pending = s.banks.pending ∧ (s.finish w).banks.issuer = s.banks.issuer ∧
    (s.finish w).banks.timer = s.banks.timer := by
  unfold State.finish
  dsimp only
  split <;> simp

/-- The ports at the end of an event. -/
theorem finish_ports (s : State) (w : Work) :
    (s.finish w).ports = w.raised.foldl (deliverOne s.banks.active w.toBlocks) s.ports := by
  unfold State.finish
  dsimp only
  split <;> rfl

/-- The end of an event leaves every part of a port but its notice queue and its notices-dropped flag. -/
@[simp] theorem finish_port (s : State) (w : Work) (lp : Pos) :
    ((s.finish w).ports.get lp).framer = (s.ports.get lp).framer ∧
    ((s.finish w).ports.get lp).gapTimer = (s.ports.get lp).gapTimer ∧
    ((s.finish w).ports.get lp).inbound = (s.ports.get lp).inbound ∧
    ((s.finish w).ports.get lp).reply = (s.ports.get lp).reply ∧
    ((s.finish w).ports.get lp).transmitter = (s.ports.get lp).transmitter ∧
    ((s.finish w).ports.get lp).discarded = (s.ports.get lp).discarded ∧
    ((s.finish w).ports.get lp).cursor = (s.ports.get lp).cursor := by
  simp only [finish_ports]
  refine ⟨?_, ?_, ?_, ?_, ?_, ?_, ?_⟩ <;>
    exact deliverAll_frame _ (fun pt n => by simp) _ _ _ _ _

/-- The apply-due mark at the end of an event: set, when the Commit Unit was told and the apply condition holds (R158). -/
theorem finish_due (s : State) (w : Work) :
    (s.finish w).banks.due = (s.banks.due || (w.commitTold && (s.banks.pending && !anyRunning w.toBlocks
      && s.store.state.isIdle))) := by
  unfold State.finish State.applyCondition
  dsimp only
  split <;> simp_all

/-- An event leaves everything but the blocks, the ports and the apply-due mark. -/
@[simp] theorem event_frame (s : State) (f : View → Work → Work) :
    (s.event f).pending = s.pending ∧ (s.event f).pins = s.pins ∧ (s.event f).startUp = s.startUp ∧
    (s.event f).rate = s.rate ∧ (s.event f).station = s.station ∧ (s.event f).supply = s.supply ∧
    (s.event f).store = s.store ∧ (s.event f).lines = s.lines ∧ (s.event f).pointer = s.pointer ∧
    (s.event f).blocks = (f s.view (Work.start s.blocks)).toBlocks ∧ (s.event f).banks.active = s.banks.active ∧
    (s.event f).banks.staging = s.banks.staging ∧ (s.event f).banks.valid = s.banks.valid ∧
    (s.event f).banks.pending = s.banks.pending ∧ (s.event f).banks.issuer = s.banks.issuer ∧
    (s.event f).banks.timer = s.banks.timer := by
  simp [State.event]

/-- An event leaves every part of a port but its notice queue and its notices-dropped flag. -/
@[simp] theorem event_port (s : State) (f : View → Work → Work) (lp : Pos) :
    ((s.event f).ports.get lp).framer = (s.ports.get lp).framer ∧
    ((s.event f).ports.get lp).gapTimer = (s.ports.get lp).gapTimer ∧
    ((s.event f).ports.get lp).inbound = (s.ports.get lp).inbound ∧
    ((s.event f).ports.get lp).reply = (s.ports.get lp).reply ∧
    ((s.event f).ports.get lp).transmitter = (s.ports.get lp).transmitter ∧
    ((s.event f).ports.get lp).discarded = (s.ports.get lp).discarded ∧
    ((s.event f).ports.get lp).cursor = (s.ports.get lp).cursor := by
  simp [State.event]

/-! ### The Coil Monitor -/

@[simp] theorem raiseLatch_frame (v : View) (c : Coil) (before after : Latch) (w : Work) :
    (raiseLatch v c before after w).classifier = w.classifier ∧ (raiseLatch v c before after w).monitor = w.monitor ∧
    (raiseLatch v c before after w).routes = w.routes ∧ (raiseLatch v c before after w).image = w.image ∧
    (raiseLatch v c before after w).gate = w.gate ∧ (raiseLatch v c before after w).heldWalk = w.heldWalk ∧
    (raiseLatch v c before after w).waitingWalk = w.waitingWalk ∧
    (raiseLatch v c before after w).examineAll = w.examineAll ∧ (raiseLatch v c before after w).examine = w.examine ∧
    (raiseLatch v c before after w).ended = w.ended ∧
    (raiseLatch v c before after w).abandonFaults = w.abandonFaults ∧
    (raiseLatch v c before after w).commitTold = w.commitTold := by
  unfold raiseLatch; split <;> simp

@[simp] theorem setLatch_frame (c : Coil) (k : Latch) (w : Work) :
    (setLatch c k w).classifier = w.classifier ∧ (setLatch c k w).routes = w.routes ∧
    (setLatch c k w).image = w.image ∧ (setLatch c k w).gate = w.gate ∧ (setLatch c k w).raised = w.raised ∧
    (setLatch c k w).heldWalk = w.heldWalk ∧ (setLatch c k w).waitingWalk = w.waitingWalk ∧
    (setLatch c k w).examineAll = w.examineAll ∧ (setLatch c k w).examine = w.examine ∧
    (setLatch c k w).ended = w.ended ∧ (setLatch c k w).abandonFaults = w.abandonFaults ∧
    (setLatch c k w).commitTold = w.commitTold := by
  simp [setLatch]

@[simp] theorem handOn_frame (v : View) (walk : Bool) (c : Coil) (k : Latch) (w : Work) :
    (handOn v walk c k w).classifier = w.classifier ∧ (handOn v walk c k w).image.groups = w.image.groups ∧
    (handOn v walk c k w).image.source = w.image.source ∧ (handOn v walk c k w).gate.waiting = w.gate.waiting ∧
    (handOn v walk c k w).examineAll = w.examineAll ∧ (handOn v walk c k w).abandonFaults = w.abandonFaults ∧
    (handOn v walk c k w).commitTold = w.commitTold := by
  unfold handOn
  dsimp only
  cases walk <;> by_cases hk : k = .short <;> simp [hk, -List.foldl_cons]

/-- Handing a latch on writes the latch of its own coil and no other part of the monitor (R110). -/
@[simp] theorem handOn_monitor (v : View) (walk : Bool) (c : Coil) (k : Latch) (w : Work) :
    (handOn v walk c k w).monitor = put w.monitor c { w.monitor.get c with latch := k } := by
  unfold handOn
  dsimp only
  cases walk <;> by_cases hk : k = .short <;> simp [hk, setLatch, -List.foldl_cons]

@[simp] theorem examineCoil_frame (v : View) (walk : Bool) (c : Coil) (w : Work) :
    (examineCoil v walk c w).classifier = w.classifier ∧ (examineCoil v walk c w).image.groups = w.image.groups ∧
    (examineCoil v walk c w).image.source = w.image.source ∧ (examineCoil v walk c w).gate.waiting = w.gate.waiting ∧
    (examineCoil v walk c w).examineAll = w.examineAll ∧ (examineCoil v walk c w).abandonFaults = w.abandonFaults ∧
    (examineCoil v walk c w).commitTold = w.commitTold := by
  unfold examineCoil; split <;> simp

/-- An examination of coil c reaches the monitor's record of c alone, and of it the latch alone (R110). -/
theorem examineCoil_monitor (v : View) (walk : Bool) (c : Coil) (w : Work) :
    ∃ k, (examineCoil v walk c w).monitor = put w.monitor c { w.monitor.get c with latch := k } := by
  unfold examineCoil
  split
  · exact ⟨(w.monitor.get c).latch, (put_get_self w.monitor c).symm⟩
  · exact ⟨_, handOn_monitor ..⟩

@[simp] theorem recordSense_frame (v : View) (c : Coil) (current : Nat) (w : Work) :
    (recordSense v c current w).classifier = w.classifier ∧ (recordSense v c current w).routes = w.routes ∧
    (recordSense v c current w).image = w.image ∧ (recordSense v c current w).gate = w.gate ∧
    (recordSense v c current w).raised = w.raised ∧ (recordSense v c current w).heldWalk = w.heldWalk ∧
    (recordSense v c current w).waitingWalk = w.waitingWalk ∧ (recordSense v c current w).examineAll = w.examineAll ∧
    (recordSense v c current w).examine = w.examine ∧ (recordSense v c current w).ended = w.ended ∧
    (recordSense v c current w).abandonFaults = w.abandonFaults ∧
    (recordSense v c current w).commitTold = w.commitTold := by
  simp [recordSense]

@[simp] theorem reclassifyCoil_frame (v : View) (w : Work) (c : Coil) :
    (reclassifyCoil v w c).classifier = w.classifier ∧ (reclassifyCoil v w c).routes = w.routes ∧
    (reclassifyCoil v w c).image = w.image ∧ (reclassifyCoil v w c).gate = w.gate ∧
    (reclassifyCoil v w c).raised = w.raised ∧ (reclassifyCoil v w c).heldWalk = w.heldWalk ∧
    (reclassifyCoil v w c).waitingWalk = w.waitingWalk ∧ (reclassifyCoil v w c).examineAll = w.examineAll ∧
    (reclassifyCoil v w c).examine = w.examine ∧ (reclassifyCoil v w c).ended = w.ended ∧
    (reclassifyCoil v w c).abandonFaults = w.abandonFaults ∧ (reclassifyCoil v w c).commitTold = w.commitTold := by
  simp [reclassifyCoil]

@[simp] theorem senseChange_frame (v : View) (c : Coil) (current : Nat) (w : Work) :
    (senseChange v c current w).classifier = w.classifier ∧
    (senseChange v c current w).image.groups = w.image.groups ∧
    (senseChange v c current w).image.source = w.image.source ∧
    (senseChange v c current w).gate.waiting = w.gate.waiting ∧
    (senseChange v c current w).examineAll = w.examineAll ∧
    (senseChange v c current w).abandonFaults = w.abandonFaults ∧
    (senseChange v c current w).commitTold = w.commitTold := by
  unfold senseChange; dsimp only; split <;> simp

@[simp] theorem clearCoil_frame (v : View) (w : Work) (c : Coil) :
    (clearCoil v w c).classifier = w.classifier ∧ (clearCoil v w c).routes = w.routes ∧
    (clearCoil v w c).image.claims = w.image.claims ∧ (clearCoil v w c).image.groups = w.image.groups ∧
    (clearCoil v w c).image.source = w.image.source ∧ (clearCoil v w c).gate = w.gate ∧
    (clearCoil v w c).raised = w.raised ∧ (clearCoil v w c).heldWalk = w.heldWalk ∧
    (clearCoil v w c).waitingWalk = w.waitingWalk ∧ (clearCoil v w c).examineAll = w.examineAll ∧
    (clearCoil v w c).examine = w.examine ∧ (clearCoil v w c).ended = w.ended ∧
    (clearCoil v w c).abandonFaults = w.abandonFaults ∧ (clearCoil v w c).commitTold = w.commitTold := by
  unfold clearCoil
  split
  · split <;> simp
  · simp

@[simp] theorem selectorChange_frame (v : View) (line : Selector) (w : Work) :
    (selectorChange v line w).classifier = w.classifier ∧ (selectorChange v line w).monitor = w.monitor ∧
    (selectorChange v line w).routes = w.routes ∧ (selectorChange v line w).image.claims = w.image.claims ∧
    (selectorChange v line w).image.groups = w.image.groups ∧
    (selectorChange v line w).image.source = w.image.source ∧ (selectorChange v line w).gate = w.gate ∧
    (selectorChange v line w).raised = w.raised ∧ (selectorChange v line w).heldWalk = w.heldWalk ∧
    (selectorChange v line w).waitingWalk = w.waitingWalk ∧ (selectorChange v line w).examineAll = w.examineAll ∧
    (selectorChange v line w).examine = w.examine ∧ (selectorChange v line w).ended = w.ended ∧
    (selectorChange v line w).abandonFaults = w.abandonFaults ∧
    (selectorChange v line w).commitTold = w.commitTold := by
  unfold selectorChange; split <;> simp

@[simp] theorem endChecksOver_frame (v : View) (c : Coil) (w : Work) :
    (endChecksOver v c w).classifier = w.classifier ∧ (endChecksOver v c w).monitor = w.monitor ∧
    (endChecksOver v c w).image.source = w.image.source := by
  unfold endChecksOver; split <;> simp

@[simp] theorem blankEnd_frame (v : View) (c : Coil) (w : Work) :
    (blankEnd v c w).classifier = w.classifier ∧ (blankEnd v c w).image.source = w.image.source := by
  simp [blankEnd]

/-! ### The Band Classifier -/

@[simp] theorem changeEntry_frame (v : View) (p : Pos) (e : Option PlanIx) (w : Work) :
    (changeEntry v p e w).monitor = w.monitor ∧ (changeEntry v p e w).image.source = w.image.source ∧
    (changeEntry v p e w).image.coils = w.image.coils ∧ (changeEntry v p e w).commitTold = w.commitTold := by
  unfold changeEntry
  dsimp only
  split
  · simp
  · split <;> simp

/-- A change of band entry writes the band entry of its own position and no other part of the classifier (R20). -/
@[simp] theorem changeEntry_classifier (v : View) (p : Pos) (e : Option PlanIx) (w : Work) :
    (changeEntry v p e w).classifier = put w.classifier p { w.classifier.get p with entry := e } := by
  unfold changeEntry
  dsimp only
  split
  · rename_i h
    subst h
    exact (put_get_self w.classifier p).symm
  · split <;> simp

@[simp] theorem takeReport_frame (v : View) (p : Pos) (f : Nat) (w : Work) :
    (takeReport v p f w).monitor = w.monitor ∧ (takeReport v p f w).image.source = w.image.source ∧
    (takeReport v p f w).image.coils = w.image.coils ∧ (takeReport v p f w).commitTold = w.commitTold := by
  unfold takeReport; dsimp only; split <;> simp

@[simp] theorem settleEnd_frame (v : View) (p : Pos) (code : LineCode) (w : Work) :
    (settleEnd v p code w).monitor = w.monitor ∧ (settleEnd v p code w).image.source = w.image.source ∧
    (settleEnd v p code w).image.coils = w.image.coils ∧ (settleEnd v p code w).commitTold = w.commitTold := by
  simp [settleEnd]

@[simp] theorem startSettle_frame (v : View) (p : Pos) (w : Work) :
    (startSettle v p w).monitor = w.monitor ∧ (startSettle v p w).routes = w.routes ∧
    (startSettle v p w).image = w.image ∧ (startSettle v p w).gate = w.gate ∧ (startSettle v p w).raised = w.raised ∧
    (startSettle v p w).heldWalk = w.heldWalk ∧ (startSettle v p w).waitingWalk = w.waitingWalk ∧
    (startSettle v p w).examineAll = w.examineAll ∧ (startSettle v p w).examine = w.examine ∧
    (startSettle v p w).ended = w.ended ∧ (startSettle v p w).abandonFaults = w.abandonFaults ∧
    (startSettle v p w).commitTold = w.commitTold := by
  simp [startSettle]

/-! ### Station Control -/

@[simp] theorem drainEnd_frame (v : View) (st : Station) (w : Work) :
    (drainEnd v st w).classifier = w.classifier ∧ (drainEnd v st w).monitor = w.monitor ∧
    (drainEnd v st w).routes = w.routes ∧ (drainEnd v st w).image.claims = w.image.claims ∧
    (drainEnd v st w).image.groups = w.image.groups ∧ (drainEnd v st w).gate = w.gate ∧
    (drainEnd v st w).heldWalk = w.heldWalk ∧ (drainEnd v st w).waitingWalk = w.waitingWalk ∧
    (drainEnd v st w).examineAll = w.examineAll ∧ (drainEnd v st w).examine = w.examine ∧
    (drainEnd v st w).ended = w.ended ∧ (drainEnd v st w).abandonFaults = w.abandonFaults ∧
    (drainEnd v st w).commitTold = w.commitTold := by
  unfold drainEnd; split <;> simp

@[simp] theorem takeDefaultMode_frame (b : Bank) (w : Work) (p : Pos) :
    (takeDefaultMode b w p).classifier = w.classifier ∧ (takeDefaultMode b w p).monitor = w.monitor ∧
    (takeDefaultMode b w p).routes.antennas = w.routes.antennas ∧
    (takeDefaultMode b w p).routes.held = w.routes.held ∧ (takeDefaultMode b w p).image = w.image ∧
    (takeDefaultMode b w p).gate = w.gate ∧ (takeDefaultMode b w p).raised = w.raised ∧
    (takeDefaultMode b w p).heldWalk = w.heldWalk ∧ (takeDefaultMode b w p).waitingWalk = w.waitingWalk ∧
    (takeDefaultMode b w p).examineAll = w.examineAll ∧ (takeDefaultMode b w p).examine = w.examine ∧
    (takeDefaultMode b w p).ended = w.ended ∧ (takeDefaultMode b w p).abandonFaults = w.abandonFaults ∧
    (takeDefaultMode b w p).commitTold = w.commitTold := by
  simp [takeDefaultMode]

@[simp] theorem resumeFollow_frame (v : View) (w : Work) (p : Pos) :
    (resumeFollow v w p).classifier = w.classifier ∧ (resumeFollow v w p).monitor = w.monitor ∧
    (resumeFollow v w p).image.source = w.image.source ∧ (resumeFollow v w p).image.coils = w.image.coils ∧
    (resumeFollow v w p).commitTold = w.commitTold := by
  unfold resumeFollow; split <;> simp

@[simp] theorem raiseSupply_frame (b : Bank) (before after : SupplyLevel) (measured : Nat) (w : Work) :
    (raiseSupply b before after measured w).classifier = w.classifier ∧
    (raiseSupply b before after measured w).monitor = w.monitor ∧
    (raiseSupply b before after measured w).routes = w.routes ∧
    (raiseSupply b before after measured w).image = w.image ∧ (raiseSupply b before after measured w).gate = w.gate ∧
    (raiseSupply b before after measured w).heldWalk = w.heldWalk ∧
    (raiseSupply b before after measured w).waitingWalk = w.waitingWalk ∧
    (raiseSupply b before after measured w).examineAll = w.examineAll ∧
    (raiseSupply b before after measured w).examine = w.examine ∧
    (raiseSupply b before after measured w).ended = w.ended ∧
    (raiseSupply b before after measured w).abandonFaults = w.abandonFaults ∧
    (raiseSupply b before after measured w).commitTold = w.commitTold := by
  unfold raiseSupply; split <;> simp

@[simp] theorem levelEffects_frame (v : View) (w : Work) :
    (levelEffects v w).classifier = w.classifier ∧ (levelEffects v w).monitor = w.monitor ∧
    (levelEffects v w).image.groups = w.image.groups ∧ (levelEffects v w).image.source = w.image.source ∧
    (levelEffects v w).image.coils = w.image.coils ∧ (levelEffects v w).abandonFaults = w.abandonFaults ∧
    (levelEffects v w).commitTold = w.commitTold := by
  unfold levelEffects; split <;> simp

@[simp] theorem settleEach_frame (l : List Group) (w : Work) :
    (l.foldl settleGroup w).classifier = w.classifier ∧ (l.foldl settleGroup w).monitor = w.monitor ∧
    (l.foldl settleGroup w).routes = w.routes ∧ (l.foldl settleGroup w).image.claims = w.image.claims ∧
    (l.foldl settleGroup w).image.source = w.image.source ∧ (l.foldl settleGroup w).image.coils = w.image.coils ∧
    (l.foldl settleGroup w).gate = w.gate ∧ (l.foldl settleGroup w).raised = w.raised ∧
    (l.foldl settleGroup w).heldWalk = w.heldWalk ∧ (l.foldl settleGroup w).waitingWalk = w.waitingWalk ∧
    (l.foldl settleGroup w).examineAll = w.examineAll ∧ (l.foldl settleGroup w).examine = w.examine ∧
    (l.foldl settleGroup w).ended = w.ended ∧ (l.foldl settleGroup w).abandonFaults = w.abandonFaults ∧
    (l.foldl settleGroup w).commitTold = w.commitTold := by
  induction l generalizing w with
  | nil => simp
  | cons a l ih => simp [ih]

@[simp] theorem gateFailSafeEach_frame (v : View) (l : List Pos) (w : Work) :
    (l.foldl (gateFailSafe v) w).classifier = w.classifier ∧ (l.foldl (gateFailSafe v) w).monitor = w.monitor ∧
    (l.foldl (gateFailSafe v) w).routes = w.routes ∧ (l.foldl (gateFailSafe v) w).image = w.image ∧
    (l.foldl (gateFailSafe v) w).gate.waiting = w.gate.waiting ∧ (l.foldl (gateFailSafe v) w).raised = w.raised ∧
    (l.foldl (gateFailSafe v) w).heldWalk = w.heldWalk ∧ (l.foldl (gateFailSafe v) w).waitingWalk = w.waitingWalk ∧
    (l.foldl (gateFailSafe v) w).examineAll = w.examineAll ∧ (l.foldl (gateFailSafe v) w).examine = w.examine ∧
    (l.foldl (gateFailSafe v) w).abandonFaults = w.abandonFaults ∧
    (l.foldl (gateFailSafe v) w).commitTold = w.commitTold := by
  induction l generalizing w with
  | nil => simp
  | cons a l ih => simp [ih]

/-- Fail-safe entry leaves every classifier record and every record of the Coil Monitor (R171). -/
@[simp] theorem entryBlocks_frame (v : View) (w : Work) :
    (entryBlocks v w).classifier = w.classifier ∧ (entryBlocks v w).monitor = w.monitor ∧
    (entryBlocks v w).routes = clearRoutes v.bank w.routes ∧ (entryBlocks v w).gate.waiting = [] ∧
    (entryBlocks v w).raised = w.raised ∧ (entryBlocks v w).commitTold = true := by
  unfold entryBlocks
  dsimp only
  split <;> simp [-List.foldl_cons, CoilImage.freeze]

/-! ### The Commit Unit -/

@[simp] theorem abandonKept_frame (v : View) (w : Work) (k : Kept) :
    (abandonKept v w k).classifier = w.classifier ∧ (abandonKept v w k).monitor = w.monitor ∧
    (abandonKept v w k).image.source = w.image.source ∧ (abandonKept v w k).image.coils = w.image.coils ∧
    (abandonKept v w k).gate.waiting = w.gate.waiting ∧ (abandonKept v w k).examineAll = w.examineAll ∧
    (abandonKept v w k).commitTold = w.commitTold := by
  simp [abandonKept]

@[simp] theorem setEnablement_frame (old : Bank) (v : View) (w : Work) (p : Pos) :
    (setEnablement old v w p).classifier = w.classifier ∧ (setEnablement old v w p).monitor = w.monitor ∧
    (setEnablement old v w p).routes.antennas = w.routes.antennas ∧ (setEnablement old v w p).image = w.image ∧
    (setEnablement old v w p).gate = w.gate ∧ (setEnablement old v w p).waitingWalk = w.waitingWalk ∧
    (setEnablement old v w p).examineAll = w.examineAll ∧ (setEnablement old v w p).examine = w.examine ∧
    (setEnablement old v w p).ended = w.ended ∧ (setEnablement old v w p).abandonFaults = w.abandonFaults ∧
    (setEnablement old v w p).commitTold = w.commitTold := by
  unfold setEnablement
  dsimp only
  split
  · split <;> simp
  · split
    · simp [disablePosition]
    · split <;> simp [disablePosition]
    all_goals simp

@[simp] theorem applyGroup_frame (b : Bank) (w : Work) (g : Group) :
    (applyGroup b w g).classifier = w.classifier ∧ (applyGroup b w g).monitor = w.monitor ∧
    (applyGroup b w g).routes = w.routes ∧ (applyGroup b w g).image.claims = w.image.claims ∧
    (applyGroup b w g).image.source = w.image.source ∧ (applyGroup b w g).image.coils = w.image.coils ∧
    (applyGroup b w g).gate = w.gate ∧ (applyGroup b w g).raised = w.raised ∧
    (applyGroup b w g).heldWalk = w.heldWalk ∧ (applyGroup b w g).waitingWalk = w.waitingWalk ∧
    (applyGroup b w g).examineAll = w.examineAll ∧ (applyGroup b w g).examine = w.examine ∧
    (applyGroup b w g).ended = w.ended ∧ (applyGroup b w g).abandonFaults = w.abandonFaults ∧
    (applyGroup b w g).commitTold = w.commitTold := by
  unfold applyGroup
  split
  · simp
  · split <;> simp

@[simp] theorem reclassify_frame (v : View) (w : Work) (p : Pos) :
    (reclassify v w p).monitor = w.monitor ∧ (reclassify v w p).routes = w.routes ∧
    (reclassify v w p).image = w.image ∧ (reclassify v w p).gate = w.gate ∧ (reclassify v w p).raised = w.raised ∧
    (reclassify v w p).heldWalk = w.heldWalk ∧ (reclassify v w p).waitingWalk = w.waitingWalk ∧
    (reclassify v w p).examineAll = w.examineAll ∧ (reclassify v w p).examine = w.examine ∧
    (reclassify v w p).ended = w.ended ∧ (reclassify v w p).abandonFaults = w.abandonFaults ∧
    (reclassify v w p).commitTold = w.commitTold := by
  simp [reclassify]

@[simp] theorem recheckChanged_frame (v : View) (before : Blocks) (w : Work) (p : Pos) :
    (recheckChanged v before w p).classifier = w.classifier ∧ (recheckChanged v before w p).monitor = w.monitor ∧
    (recheckChanged v before w p).routes = w.routes ∧ (recheckChanged v before w p).image = w.image ∧
    (recheckChanged v before w p).gate.waiting = w.gate.waiting ∧
    (recheckChanged v before w p).heldWalk = w.heldWalk ∧ (recheckChanged v before w p).examineAll = w.examineAll ∧
    (recheckChanged v before w p).examine = w.examine ∧
    (recheckChanged v before w p).abandonFaults = w.abandonFaults ∧
    (recheckChanged v before w p).commitTold = w.commitTold := by
  unfold recheckChanged; split <;> simp

@[simp] theorem raiseKept_frame (p : Pos) (answer : Answer) (w : Work) :
    (raiseKept p answer w).classifier = w.classifier ∧ (raiseKept p answer w).monitor = w.monitor ∧
    (raiseKept p answer w).routes = w.routes ∧ (raiseKept p answer w).image = w.image ∧
    (raiseKept p answer w).gate = w.gate ∧ (raiseKept p answer w).heldWalk = w.heldWalk ∧
    (raiseKept p answer w).waitingWalk = w.waitingWalk ∧ (raiseKept p answer w).examineAll = w.examineAll ∧
    (raiseKept p answer w).examine = w.examine ∧ (raiseKept p answer w).ended = w.ended ∧
    (raiseKept p answer w).abandonFaults = w.abandonFaults ∧ (raiseKept p answer w).commitTold = w.commitTold := by
  unfold raiseKept; split <;> simp

@[simp] theorem reselect_frame (v : View) (follows : List Pos) (kept : List Kept) (w : Work) (p : Pos) :
    (reselect v follows kept w p).classifier = w.classifier ∧ (reselect v follows kept w p).monitor = w.monitor ∧
    (reselect v follows kept w p).image.source = w.image.source ∧
    (reselect v follows kept w p).image.coils = w.image.coils ∧
    (reselect v follows kept w p).gate.waiting = w.gate.waiting ∧
    (reselect v follows kept w p).examineAll = w.examineAll ∧
    (reselect v follows kept w p).commitTold = w.commitTold := by
  unfold reselect
  split
  · simp
  · split <;> simp

end Sys2Proof.Machine
end

