-- ==== Sys2Proof/Laws/Close.lean ====
section
/-!
SUPPORT. What the end of an event does, in the words of Safety.lean: the apply condition (R158), the notices that go to every
link (R188), the frame of the other positions, and what a latched request is answered (R51).
-/
namespace Sys2Proof.Machine

/-- No transition runs exactly when every transition is in WAIT (R158). -/
theorem anyRunning_eq_false (w : Blocks) :
    anyRunning w = false ↔ ∀ p : Pos, ∀ tr ∈ (w.routes.contexts.get p).transition, tr.phase = .wait := by
  simp only [anyRunning, List.any_eq_false, positions, List.mem_finRange, true_implies]
  refine forall_congr' fun p => ?_
  cases (w.routes.contexts.get p).transition <;> simp

/-- The apply condition is the one the end of an event tests (R158). -/
theorem applyReady_iff (s : State) : applyReady s ↔ s.applyCondition = true := by
  have idle : s.store.state.isIdle = true ↔ s.store.state = .idle := by cases s.store.state <;> simp [StoreState.isIdle]
  simp only [State.applyCondition, Bool.and_eq_true, Bool.not_eq_true', anyRunning_eq_false, idle]
  exact ⟨fun ⟨a, b, c⟩ => ⟨⟨a, c⟩, b⟩, fun ⟨⟨a, c⟩, b⟩ => ⟨a, b, c⟩⟩

/-- An event that tells the Commit Unit makes apply due exactly when the condition holds of the state it leaves (R158). -/
theorem finish_due_iff (s : State) (w : Work) (told : w.commitTold = true) :
    (s.finish w).banks.due = true ↔ s.banks.due = true ∨ applyReady (s.finish w) := by
  rw [applyReady_iff, finish_due, State.applyCondition]
  simp [told]

/-- A notice that replaces none joins the queue or is dropped (R188). -/
theorem deliver_eq_joined {n : Notice} (h : ∀ m : Notice, n.replaces m = false) (pt : Port) : pt.deliver n = pt.joined n := by
  have kept (l : List Notice) : replaceFirst n l = none := by
    induction l with
    | nil => rfl
    | cons m l ih => simp [replaceFirst, h, ih]
  have unsent : pt.replaceUnsent n = none := by
    unfold Port.replaceUnsent
    split <;> simp [kept]
  simp only [Port.deliver, Port.joined, unsent]

/-- A link that an event tells only of notices for every link, none of which replaces another, is told of them in order (R188). -/
theorem deliverAll_joined (b : Bank) (w : Blocks) (ns : List Notice) (h : ∀ n ∈ ns, ∀ m : Notice, n.replaces m = false)
    (ports : Vector Port 6) (lp : Pos) :
    ((ns.map Raised.all).foldl (deliverOne b w) ports).get lp = ns.foldl Port.joined (ports.get lp) := by
  induction ns generalizing ports with
  | nil => rfl
  | cons n ns ih =>
    rw [List.map_cons, List.foldl_cons, List.foldl_cons, ih (fun m hm => h m (List.mem_cons_of_mem _ hm))]
    simp [deliverOne, deliver_eq_joined (h n List.mem_cons_self)]

/-- An event that changes nothing leaves every position as it was. -/
theorem othersKept_refl (s : State) (own : Pos → Prop) : othersKept s s own :=
  ⟨fun _ _ => ⟨rfl, fun _ => rfl, fun _ => rfl, fun _ => rfl, fun _ _ =>
    ⟨fun ⟨_, _, ⟨_, on, off, _⟩, _⟩ => absurd on off, fun _ => rfl⟩⟩, fun _ => .inl rfl⟩

/-- The frame of an event with fewer positions of its own says more. -/
theorem othersKept_mono {s t : State} {own own' : Pos → Prop} (h : ∀ q, own q → own' q) (k : othersKept s t own) :
    othersKept s t own' :=
  ⟨fun q hq => k.1 q fun o => hq (h q o), k.2⟩

/-- The frame of an event that makes no held walk is that of its own position. -/
theorem ownOrWalked_false (s : State) (p q : Pos) : ownOrWalked s p False q ↔ q = p := by simp [ownOrWalked]

/-- The answer to a request that is selected at once is that of its selection (R48). -/
theorem actOnSelection_answer (v : View) (p : Pos) (kind : RequestKind) (cause : Cause) (w : Work) :
    (actOnSelection v p kind cause w).2 = (selection v w.toBlocks p kind).answer := by
  unfold actOnSelection
  split <;> rename_i h <;> rw [h] <;> try rfl
  dsimp only
  split <;> rfl

/-- In NORMAL a latched request comes to its selection, or is refused with DISABLED (R41, R51). -/
theorem startLatched_answer (v : View) (p : Pos) (r : PendingRequest) (w : Work) (normal : v.mode = .normal)
    (slot : (w.context p).slot = some r) :
    (startLatched v p w).2 =
      some (requestOutcome v (w.setContext p { w.context p with slot := none }).toBlocks p r.kind).answer := by
  unfold startLatched requestOutcome admission enabled
  simp only [slot, normal, ne_eq, not_true_eq_false, if_false]
  split
  · rename_i e h
    split at h
    · cases h
    · rename_i off; cases h; rw [if_neg off]; rfl
  · rename_i h
    split at h
    · rename_i on; rw [if_pos on]; simp only [actOnSelection_answer]
    · cases h

end Sys2Proof.Machine
end

