-- ==== Sys2Proof/Laws/Links.lean ====
section
/-!
SUPPORT. The link ports: what the operations of a port leave, the length of its queue, and what the operations of one port
leave of the part.
-/
namespace Sys2Proof.Machine

/-- An operation on one port leaves the rest of the part. -/
@[simp] theorem setPort_frame (s : State) (lp : Pos) (pt : Port) :
    (s.setPort lp pt).pending = s.pending ∧ (s.setPort lp pt).pins = s.pins ∧ (s.setPort lp pt).startUp = s.startUp ∧
    (s.setPort lp pt).rate = s.rate ∧ (s.setPort lp pt).station = s.station ∧ (s.setPort lp pt).supply = s.supply ∧
    (s.setPort lp pt).store = s.store ∧ (s.setPort lp pt).lines = s.lines ∧ (s.setPort lp pt).pointer = s.pointer ∧
    (s.setPort lp pt).blocks = s.blocks ∧ (s.setPort lp pt).banks = s.banks ∧
    (s.setPort lp pt).ports = put s.ports lp pt := by
  simp [State.setPort]

/-- The discarded count stays at most 255 (R183). -/
theorem countDiscard_bound (n : Nat) (h : n ≤ 255) : countDiscard n ≤ 255 := by
  unfold countDiscard
  split <;> omega

/-- A discard ends the frame in progress, stops the gap timer and counts one (R183). -/
@[simp] theorem discard_frame (pt : Port) :
    pt.discard.framer = .hunt ∧ pt.discard.gapTimer = none ∧ pt.discard.discarded = countDiscard pt.discarded ∧
    pt.discard.inbound = pt.inbound ∧ pt.discard.reply = pt.reply ∧ pt.discard.notices = pt.notices ∧
    pt.discard.transmitter = pt.transmitter ∧ pt.discard.dropped = pt.dropped ∧ pt.discard.cursor = pt.cursor := by
  simp [Port.discard]

/-- What a frame that completes can do (R185): it ends the frame in progress, and leaves what the port sends. -/
@[simp] theorem accept_frame (pt : Port) (f : Frame) :
    (pt.accept f).framer = .hunt ∧ (pt.accept f).gapTimer = none ∧ (pt.accept f).reply = pt.reply ∧
    (pt.accept f).notices = pt.notices ∧ (pt.accept f).transmitter = pt.transmitter ∧
    (pt.accept f).dropped = pt.dropped ∧ (pt.accept f).cursor = pt.cursor := by
  unfold Port.accept
  split <;> simp

/-- A frame that completes keeps the inbound queue within 4 frames (R185). -/
theorem accept_bound (pt : Port) (f : Frame) (h : pt.inbound.length ≤ 4) : (pt.accept f).inbound.length ≤ 4 := by
  unfold Port.accept
  split
  · simp; omega
  · simpa using h

/-- The second check byte leaves what the port sends (R183). -/
@[simp] theorem checkFrame_frame (pt : Port) (got : List Byte) (hi lo : Byte) :
    (pt.checkFrame got hi lo).framer = .hunt ∧ (pt.checkFrame got hi lo).gapTimer = none ∧
    (pt.checkFrame got hi lo).reply = pt.reply ∧ (pt.checkFrame got hi lo).notices = pt.notices ∧
    (pt.checkFrame got hi lo).transmitter = pt.transmitter ∧ (pt.checkFrame got hi lo).dropped = pt.dropped ∧
    (pt.checkFrame got hi lo).cursor = pt.cursor := by
  unfold Port.checkFrame
  split
  · split <;> simp
  · simp

/-- A byte received leaves what the port sends, and the cursor (R183). -/
@[simp] theorem receive_frame (pt : Port) (b : Byte) :
    (pt.receive b).reply = pt.reply ∧ (pt.receive b).notices = pt.notices ∧
    (pt.receive b).transmitter = pt.transmitter ∧ (pt.receive b).dropped = pt.dropped ∧
    (pt.receive b).cursor = pt.cursor := by
  unfold Port.receive
  split
  · split <;> simp
  · split <;> simp
  · split <;> simp
  · simp
  · simp

/-- A transmit start changes the transmitter alone (R187). -/
@[simp] theorem start_frame (pt : Port) :
    pt.start.framer = pt.framer ∧ pt.start.gapTimer = pt.gapTimer ∧ pt.start.inbound = pt.inbound ∧
    pt.start.reply = pt.reply ∧ pt.start.notices = pt.notices ∧ pt.start.discarded = pt.discarded ∧
    pt.start.dropped = pt.dropped ∧ pt.start.cursor = pt.cursor := by
  unfold Port.start
  split
  · simp
  · simp
  · split
    · simp
    · split <;> simp

/-- A transmit completion leaves what the port receives (R187). -/
@[simp] theorem complete_frame (pt : Port) :
    pt.complete.framer = pt.framer ∧ pt.complete.gapTimer = pt.gapTimer ∧ pt.complete.inbound = pt.inbound ∧
    pt.complete.discarded = pt.discarded ∧ pt.complete.dropped = pt.dropped ∧ pt.complete.cursor = pt.cursor ∧
    pt.complete.transmitter = .idle := by
  unfold Port.complete
  split <;> simp_all

end Sys2Proof.Machine
end

