-- ==== Sys2Proof/Laws/Handler.lean ====
section
/-!
SUPPORT. The Request Handler: which frame it takes, what a take and a reply change, and the two cases of a request row.
-/
namespace Sys2Proof.Machine

/-- The frame the handler takes is the head frame of an eligible link (R186). -/
theorem handlerNext_head {s : State} {lp : Pos} {f : Frame} (h : s.handlerNext = some (lp, f)) :
    s.eligible lp = true ∧ (s.ports.get lp).inbound.head? = some f := by
  unfold State.handlerNext at h
  obtain ⟨q, _, hq⟩ := List.exists_of_findSome?_eq_some h
  unfold State.headFrame at hq
  split at hq
  · rename_i he
    cases hh : (s.ports.get q).inbound.head? with
    | none => simp [hh] at hq
    | some g =>
      simp only [hh, Option.map_some, Option.some.injEq, Prod.mk.injEq] at hq
      obtain ⟨rfl, rfl⟩ := hq
      exact ⟨he, hh⟩
  · simp at hq

/-- The first link the handler considers is the one the pointer names (R186). -/
theorem handlerNext_pointer {s : State} {f : Frame} {rest : List Frame} (he : s.keyed = true)
    (hr : (s.ports.get s.pointer).reply = none) (hi : (s.ports.get s.pointer).inbound = f :: rest) :
    s.handlerNext = some (s.pointer, f) := by
  have hl : s.linkOrder = s.pointer :: [s.pointer + 1, s.pointer + 2, s.pointer + 3, s.pointer + 4, s.pointer + 5] := by
    unfold State.linkOrder positions
    rw [show List.finRange 6 = [0, 1, 2, 3, 4, 5] from by decide]
    simp
  unfold State.handlerNext
  rw [hl, List.findSome?_cons]
  simp [State.headFrame, State.eligible, he, hr, hi]

/-- A take leaves everything but the pointer and the inbound queue of the link served. -/
@[simp] theorem take_frame (s : State) (lp : Pos) :
    (s.take lp).pending = s.pending ∧ (s.take lp).pins = s.pins ∧ (s.take lp).startUp = s.startUp ∧
    (s.take lp).rate = s.rate ∧ (s.take lp).station = s.station ∧ (s.take lp).supply = s.supply ∧
    (s.take lp).store = s.store ∧ (s.take lp).lines = s.lines ∧ (s.take lp).blocks = s.blocks ∧
    (s.take lp).banks = s.banks ∧ (s.take lp).pointer = lp + 1 ∧ (s.take lp).view = s.view ∧
    (s.take lp).ports = put s.ports lp { s.ports.get lp with inbound := (s.ports.get lp).inbound.tail } := by
  simp [State.take, State.view]

/-- Placing a reply leaves everything but the reply slot of the link. -/
@[simp] theorem placeReply_frame (s : State) (lp : Pos) (cls : Byte) (r : Result) :
    (s.placeReply lp cls r).pending = s.pending ∧ (s.placeReply lp cls r).pins = s.pins ∧
    (s.placeReply lp cls r).startUp = s.startUp ∧ (s.placeReply lp cls r).rate = s.rate ∧
    (s.placeReply lp cls r).station = s.station ∧ (s.placeReply lp cls r).supply = s.supply ∧
    (s.placeReply lp cls r).store = s.store ∧ (s.placeReply lp cls r).lines = s.lines ∧
    (s.placeReply lp cls r).blocks = s.blocks ∧ (s.placeReply lp cls r).banks = s.banks ∧
    (s.placeReply lp cls r).pointer = s.pointer ∧
    (s.placeReply lp cls r).ports = put s.ports lp { s.ports.get lp with reply := some ⟨cls, r⟩ } := by
  simp [State.placeReply]

/-- A request row whose frame the handler takes: the take, the handling and the reply (R186). -/
theorem handle_taken {s : State} {lp : Pos} {cls : Byte} {body : List Byte} (f : State → State × Result)
    (h : s.handlerNext = some (lp, ⟨cls, body⟩)) :
    s.handle lp cls body f = (f (s.take lp)).1.placeReply lp cls (f (s.take lp)).2 := by
  simp [State.handle, h]

/-- A request row whose frame the handler would not take changes nothing (notes/assumptions/6.md). -/
theorem handle_untaken {s : State} {lp : Pos} {cls : Byte} {body : List Byte} (f : State → State × Result)
    (h : s.handlerNext ≠ some (lp, ⟨cls, body⟩)) : s.handle lp cls body f = s := by
  simp [State.handle, h]

/-- A request put to the Route Engine is an event of the operating blocks. -/
@[simp] theorem routing_state (s : State) (f : View → Work → Work × Answer) :
    (s.routing f).1 = s.finish (f s.view (Work.start s.blocks)).1 := rfl

end Sys2Proof.Machine
end

