-- ==== Sys2Proof/Laws/PerInstr.lean ====
section
/-!
SUPPORT. A statement about every command as syntax, one lemma per constructor: the body a well-formed request row carries fits
the frame of R189 (LEN counts CLASS and BODY and is at most 48).
-/
namespace Sys2Proof.Laws.RequestFits

/-- The body of the request row's frame has at most 47 bytes. -/
def Statement (i : Instr) : Prop :=
  ∀ (lp : Pos) (cls : Byte) (body : List Byte),
    i.request = some (lp, cls, body) → i.wellFormed = true → body.length ≤ 47

theorem byteReceived (lp : Pos) (data : Byte) : Statement (.byteReceived lp data) := by
  rintro _ _ _ ⟨⟩
theorem gapTimerExpiry (lp : Pos) : Statement (.gapTimerExpiry lp) := by
  rintro _ _ _ ⟨⟩
theorem transmitStart (lp : Pos) : Statement (.transmitStart lp) := by
  rintro _ _ _ ⟨⟩
theorem transmitCompletion (lp : Pos) (straps : Straps) : Statement (.transmitCompletion lp straps) := by
  rintro _ _ _ ⟨⟩
theorem unknownClass (lp : Pos) (cls : Byte) (body : List Byte) : Statement (.unknownClass lp cls body) := by
  rintro _ _ _ ⟨⟩ h
  simp_all [Instr.wellFormed, bodyFits]
theorem bandReport (lp : Pos) (body : List Byte) : Statement (.bandReport lp body) := by
  rintro _ _ _ ⟨⟩ h
  simp_all [Instr.wellFormed, bodyFits]
theorem route (lp : Pos) (body : List Byte) : Statement (.route lp body) := by
  rintro _ _ _ ⟨⟩ h
  simp_all [Instr.wellFormed, bodyFits]
theorem revert (lp : Pos) (body : List Byte) : Statement (.revert lp body) := by
  rintro _ _ _ ⟨⟩ h
  simp_all [Instr.wellFormed, bodyFits]
theorem release (lp : Pos) (body : List Byte) : Statement (.release lp body) := by
  rintro _ _ _ ⟨⟩ h
  simp_all [Instr.wellFormed, bodyFits]
theorem modeFollow (lp : Pos) (body : List Byte) : Statement (.modeFollow lp body) := by
  rintro _ _ _ ⟨⟩ h
  simp_all [Instr.wellFormed, bodyFits]
theorem modeManual (lp : Pos) (body : List Byte) : Statement (.modeManual lp body) := by
  rintro _ _ _ ⟨⟩ h
  simp_all [Instr.wellFormed, bodyFits]
theorem select (lp : Pos) (body : List Byte) : Statement (.select lp body) := by
  rintro _ _ _ ⟨⟩ h
  simp_all [Instr.wellFormed, bodyFits]
theorem write (lp : Pos) (body : List Byte) : Statement (.write lp body) := by
  rintro _ _ _ ⟨⟩ h
  simp_all [Instr.wellFormed, bodyFits]
theorem read (lp : Pos) (body : List Byte) : Statement (.read lp body) := by
  rintro _ _ _ ⟨⟩ h
  simp_all [Instr.wellFormed, bodyFits]
theorem queryPosition (lp : Pos) (body : List Byte) : Statement (.queryPosition lp body) := by
  rintro _ _ _ ⟨⟩ h
  simp_all [Instr.wellFormed, bodyFits]
theorem queryAntenna (lp : Pos) (body : List Byte) : Statement (.queryAntenna lp body) := by
  rintro _ _ _ ⟨⟩ h
  simp_all [Instr.wellFormed, bodyFits]
theorem queryStation (lp : Pos) (body : List Byte) : Statement (.queryStation lp body) := by
  rintro _ _ _ ⟨⟩ h
  simp_all [Instr.wellFormed, bodyFits]
theorem queryLink (lp : Pos) (body : List Byte) : Statement (.queryLink lp body) := by
  rintro _ _ _ ⟨⟩ h
  simp_all [Instr.wellFormed, bodyFits]
theorem queryLines (lp : Pos) (body : List Byte) : Statement (.queryLines lp body) := by
  rintro _ _ _ ⟨⟩ h
  simp_all [Instr.wellFormed, bodyFits]
theorem queryCoil (lp : Pos) (body : List Byte) : Statement (.queryCoil lp body) := by
  rintro _ _ _ ⟨⟩ h
  simp_all [Instr.wellFormed, bodyFits]
theorem commit (lp : Pos) (body : List Byte) : Statement (.commit lp body) := by
  rintro _ _ _ ⟨⟩ h
  simp_all [Instr.wellFormed, bodyFits]
theorem discard (lp : Pos) (body : List Byte) : Statement (.discard lp body) := by
  rintro _ _ _ ⟨⟩ h
  simp_all [Instr.wellFormed, bodyFits]
theorem store (lp : Pos) (body : List Byte) : Statement (.store lp body) := by
  rintro _ _ _ ⟨⟩ h
  simp_all [Instr.wellFormed, bodyFits]
theorem clearFault (lp : Pos) (body : List Byte) : Statement (.clearFault lp body) := by
  rintro _ _ _ ⟨⟩ h
  simp_all [Instr.wellFormed, bodyFits]
theorem clearFaultAll (lp : Pos) (body : List Byte) : Statement (.clearFaultAll lp body) := by
  rintro _ _ _ ⟨⟩ h
  simp_all [Instr.wellFormed, clearRowIsAll]
theorem resume (lp : Pos) (body : List Byte) : Statement (.resume lp body) := by
  rintro _ _ _ ⟨⟩ h
  simp_all [Instr.wellFormed, bodyFits]
theorem forceSafe (lp : Pos) (body : List Byte) : Statement (.forceSafe lp body) := by
  rintro _ _ _ ⟨⟩ h
  simp_all [Instr.wellFormed, bodyFits]
theorem restart (lp : Pos) (body : List Byte) : Statement (.restart lp body) := by
  rintro _ _ _ ⟨⟩ h
  simp_all [Instr.wellFormed, bodyFits]
theorem lineSet (lp : Pos) (body : List Byte) : Statement (.lineSet lp body) := by
  rintro _ _ _ ⟨⟩ h
  simp_all [Instr.wellFormed, bodyFits]
theorem keyDown (p : Pos) : Statement (.keyDown p) := by
  rintro _ _ _ ⟨⟩
theorem keyUp (p : Pos) : Statement (.keyUp p) := by
  rintro _ _ _ ⟨⟩
theorem positionLineChange (p : Pos) (k : LineNo) (level : Bool) : Statement (.positionLineChange p k level) := by
  rintro _ _ _ ⟨⟩
theorem selectorLineChange (line : Selector) (level : Bool) : Statement (.selectorLineChange line level) := by
  rintro _ _ _ ⟨⟩
theorem senseEvent (c : Coil) (current : Nat) : Statement (.senseEvent c current) := by
  rintro _ _ _ ⟨⟩
theorem supplyEvent (tenths : Nat) : Statement (.supplyEvent tenths) := by
  rintro _ _ _ ⟨⟩
theorem powerOn (resetLow : Bool) (straps : Straps) : Statement (.powerOn resetLow straps) := by
  rintro _ _ _ ⟨⟩
theorem resetLineLow : Statement (.resetLineLow) := by
  rintro _ _ _ ⟨⟩
theorem resetLineHigh (straps : Straps) : Statement (.resetLineHigh straps) := by
  rintro _ _ _ ⟨⟩
theorem loadCompletion : Statement (.loadCompletion) := by
  rintro _ _ _ ⟨⟩
theorem settleExpiry (p : Pos) : Statement (.settleExpiry p) := by
  rintro _ _ _ ⟨⟩
theorem quietWaitExpiry (p : Pos) : Statement (.quietWaitExpiry p) := by
  rintro _ _ _ ⟨⟩
theorem departure (p : Pos) : Statement (.departure p) := by
  rintro _ _ _ ⟨⟩
theorem breakExpiry (p : Pos) : Statement (.breakExpiry p) := by
  rintro _ _ _ ⟨⟩
theorem makeExpiry (p : Pos) : Statement (.makeExpiry p) := by
  rintro _ _ _ ⟨⟩
theorem blankExpiry (c : Coil) : Statement (.blankExpiry c) := by
  rintro _ _ _ ⟨⟩
theorem tailExpiry (p : Pos) : Statement (.tailExpiry p) := by
  rintro _ _ _ ⟨⟩
theorem keyWaitExpiry (p : Pos) : Statement (.keyWaitExpiry p) := by
  rintro _ _ _ ⟨⟩
theorem commitTimerExpiry : Statement (.commitTimerExpiry) := by
  rintro _ _ _ ⟨⟩
theorem storeCompletion (verified : Bool) (straps : Straps) : Statement (.storeCompletion verified straps) := by
  rintro _ _ _ ⟨⟩
theorem commitApply : Statement (.commitApply) := by
  rintro _ _ _ ⟨⟩
theorem applySupplyFailEntry : Statement (.applySupplyFailEntry) := by
  rintro _ _ _ ⟨⟩

end Sys2Proof.Laws.RequestFits
end

