-- ==== Sys2Proof/Laws/Tables.lean ====
section
/-!
SUPPORT. What the words of Safety.lean about the tables say of the operations of Machine/Operands.lean and Machine/Commit.lean:
index ranges, record lengths and the limit of an antenna.
-/
namespace Sys2Proof.Laws.Tables
open Sys2Proof.Machine

/-- The index range of Table 1-1 is the one the cursor operations use. -/
theorem indexIn_iff (t : TableId) (i : Nat) : indexIn t i ↔ t.first ≤ i ∧ i < t.first + t.entries := by
  cases t <;> simp only [indexIn, TableId.first, TableId.entries] <;> omega

/-- A record that passes has the length of its table. -/
theorem recordPasses_length {t : TableId} {r : List Byte} (h : recordPasses t r) : r.length = t.recordLength := by
  cases t <;> simp only [recordPasses, TableId.recordLength] at h ⊢ <;> first | exact h.1 | exact h

/-- The limit of R45 is the one a commit trims to (R162). -/
theorem antennaLimit_eq_holderLimit (e : AntennaEntry) : antennaLimit e = holderLimit e := by
  unfold antennaLimit holderLimit
  cases e.share <;> rfl

end Sys2Proof.Laws.Tables
end

