-- ==== Sys2Proof/Tests/Slice0.lean ====
section
/-!
SUPPORT. The tests of the model: an ill-formed command for every check of WellFormed.lean, the check word of R184, single
steps of the commands on one small state, and for every statement of Certificates/Slice0/Obligations.lean a theorem
`witness_…` that shows each of its clauses' hypotheses met together.
-/
namespace Sys2Proof.Tests
open Sys2Proof.Machine

set_option synthInstance.maxSize 4000
set_option synthInstance.maxHeartbeats 200000
-- One theorem at a time: each `decide +kernel` waits for the kernel, and many that wait at once need a thread each.
set_option Elab.async false

/-! ### A small state and its changes -/

/-- Every position enabled; 14000 to 14350 kHz is band 5 by list 1; list 1 names A1 and A2; both cover every band; A2 is SPLIT;
the path of P1 to A1 claims coil 3, that to A2 coil 4. -/
def bank : Bank := { Bank.empty with
  positions := Vector.replicate 6 ⟨true, .link, .follow⟩
  plan := put Bank.empty.plan 0 ⟨true, 14000, 14350, 4, 0⟩
  preferences := put Bank.empty.preferences 0 [1, 2]
  antennas := put (put Bank.empty.antennas 0 ⟨true, 0xFFF, .exclusive, 2⟩) 1 ⟨true, 0xFFF, .split, 2⟩
  paths := put (put Bank.empty.paths (pathIndex 0 0) ⟨true, [⟨3, true⟩]⟩) (pathIndex 0 1) ⟨true, [⟨4, true⟩]⟩ }

/-- The station in NORMAL on that bank, its supply GOOD. -/
def s0 : State := { State.reset with
  station := { Station.reset .power with mode := .normal }
  supply := ⟨138, .good, true⟩
  banks := { Banks.reset with active := bank, staging := bank, valid := true }
  blocks := { State.reset.blocks with image := { CoilImage.reset with source := .routing } } }

/-- The station in FAILSAFE under SAFE. -/
def safe0 : State := { s0 with
  station := { s0.station with mode := .failsafe, causes := ⟨false, false, true⟩ }
  blocks := { s0.blocks with image := { s0.blocks.image with source := .safe } } }

/-- One frame waits on LP1. -/
def framed (s : State) (cls : Byte) (body : List Byte) : State :=
  s.withPort 0 { s.port 0 with inbound := [⟨cls, body⟩] }

/-- The context of P1 replaced. -/
def withP1 (s : State) (state : RouteState) (antenna : Option Ant) (tr : Option Transition)
    (slot : Option PendingRequest := none) (history : List Ant := []) : State :=
  s.withContext 0 ⟨state, antenna, tr, slot, .follow, history, false⟩

/-- A transition of P1. -/
def move (old target : Option Ant) (phase : Phase) (cause : Cause := .request) (start : RouteState := .idle) : Transition :=
  ⟨old, target, .byPreference, cause, phase, some 20, some 10000, start, true, []⟩

/-- The key record of P1 replaced. -/
def withKey1 (s : State) (k : KeyRecord) : State :=
  { s with blocks := { s.blocks with gate := { s.blocks.gate with keys := put s.blocks.gate.keys 0 k } } }

/-- The level of KR1. -/
def withKR1 (s : State) (level : Bool) : State := { s with pins := { s.pins with keys := put s.pins.keys 0 level } }

/-- P1 claims coil 3 effectively. -/
def withClaim (s : State) : State :=
  { s with blocks := { s.blocks with image := { s.blocks.image with
    claims := put s.blocks.image.claims 0 ⟨[⟨3, true⟩], []⟩ } } }

/-- The classifier record of P1 replaced. -/
def withRecord (s : State) (source : BandSource) (entry : Option PlanIx) (timer : Timer := none) : State :=
  s.withClassRecord 0 ⟨source, none, none, timer, entry⟩

/-- Coil 3 driven, with this blank, and with this sense and latch. -/
def withCoil3 (s : State) (blank : Timer) (sense : Sense) (latch : Latch) (drive : Bool := true) : State :=
  (s.withCoil 3 ⟨false, drive, false, blank, drive⟩).withSense 3 ⟨100, sense, latch⟩

/-- A commit is pending and due. -/
def committing (s : State) : State :=
  { s with banks := { s.banks with pending := true, issuer := some 0, timer := some 30000, due := true } }

/-- A store runs, taken from LP2. -/
def storing (s : State) : State := { s with store := ⟨.torn, .writing bank 1⟩ }

/-- The cursor of LP1. -/
def withCursor (s : State) (b : BankName) (t : TableId) (i : Nat) : State :=
  s.withPort 0 { s.port 0 with cursor := some ⟨b, t, i⟩ }

/-- The station is STARTING. -/
def starting (s : State) : State := { s with station := { s.station with mode := .starting } }

/-- Position `p`, ROUTED to antenna `a` or in another route state, with this key record, on band 5. -/
def keyed (s : State) (p : Pos) (state : RouteState) (a : Option Ant) (k : KeyRecord) : State :=
  ((s.withContext p ⟨state, a, none, none, .follow, [], false⟩).withKey p k).withClassRecord p ⟨.link, none, none, none, some 0⟩

/-- The record of one antenna. -/
def withAntenna (s : State) (a : Ant) (r : AntennaRecord) : State :=
  { s with blocks := { s.blocks with routes := { s.blocks.routes with antennas := put s.blocks.routes.antennas a r } } }

/-- The waiting list. -/
def withWaiting (s : State) (l : List Pos) : State :=
  { s with blocks := { s.blocks with gate := { s.blocks.gate with waiting := l } } }

/-- P2, on A2 with this key record, and P1 and P4, WAITING for it, hold A2; P3, IDLE, waits between them. -/
def keyQueue (k : KeyRecord) : State :=
  withWaiting (withAntenna
    (keyed (keyed (keyed (keyed s0 0 .routed (some 1) ⟨.waiting .holderLive, none, some 900, false⟩)
      1 .routed (some 1) k) 2 .idle none ⟨.waiting .switching, none, none, false⟩)
      3 .routed (some 1) ⟨.waiting .holderLive, none, some 900, false⟩)
    1 ⟨[⟨1, .holding⟩, ⟨0, .holding⟩, ⟨3, .holding⟩], PosSet.empty⟩) [0, 2, 3]

/-- gateConsistent by the codes of the key states. -/
theorem gateConsistent_of_codes {s : State} (h : (∀ p : Pos, ((s.key p).permit = true ↔ (s.key p).state = .on) ∧
    (p ∈ s.waiting ↔ (s.key p).state.code = 1)) ∧ s.waiting.Nodup ∧ (s.station.mode = .starting → s.waiting = [])) :
    gateConsistent s :=
  have waits : ∀ k : KeyState, k.code = 1 ↔ ∃ r, k = .waiting r := fun k => by cases k <;> simp [KeyState.code]
  ⟨fun p => ⟨(h.1 p).1, (h.1 p).2.trans (waits _)⟩, h.2⟩

/-- The bank with tail time 0. -/
def noTail (s : State) : State :=
  { s with banks := { s.banks with active := { s.banks.active with timing := { s.banks.active.timing with tailMs := 0 } } } }

/-! ### Ill-formed commands -/

theorem test_illformed_body : (Instr.route 0 (List.replicate 48 0)).wellFormed = false := by decide +kernel
theorem test_illformed_unknown : (Instr.unknownClass 0 0x11 []).wellFormed = false := by decide
theorem test_illformed_modeFollow : (Instr.modeFollow 0 [1]).wellFormed = false := by decide
theorem test_illformed_modeManual : (Instr.modeManual 0 [0]).wellFormed = false := by decide
theorem test_illformed_queries :
    (Instr.queryPosition 0 [2, 1]).wellFormed = false ∧ (Instr.queryAntenna 0 [1, 1]).wellFormed = false ∧
    (Instr.queryStation 0 [4, 0]).wellFormed = false ∧ (Instr.queryLink 0 [3, 0]).wellFormed = false ∧
    (Instr.queryLines 0 []).wellFormed = false ∧ (Instr.queryCoil 0 [7, 0]).wellFormed = false := by decide
theorem test_illformed_clear :
    (Instr.clearFault 0 [255]).wellFormed = false ∧ (Instr.clearFaultAll 0 [254]).wellFormed = false := by decide
theorem test_illformed_supply : (Instr.supplyEvent 65536).wellFormed = false := by decide
theorem test_wellformed_body : (Instr.route 0 (List.replicate 47 0)).wellFormed = true := by decide +kernel

/-! ### Single steps -/

/-- R184: the nine bytes 0x31 to 0x39 give 0x29B1. -/
theorem test_checkWord : crc [0x31, 0x32, 0x33, 0x34, 0x35, 0x36, 0x37, 0x38, 0x39] = 0x29B1 := by decide +kernel

/-- R21: a report of 14200 kHz gives entry 1, band 5, list 1, and in FOLLOW mode starts a transition to A1. -/
theorem test_bandReport : ∃ t, exec (.bandReport 0 [0x37, 0x78]) (framed s0 0x01 [0x37, 0x78]) = .next t ∧
    (t.port 0).reply = some ⟨0x01, .done [1, 1, 5, 1]⟩ ∧ (t.classRecord 0).entry = some 0 ∧
    (t.context 0).state = .switching ∧ (t.antenna 0).reservations = [0] := ⟨_, rfl, by decide⟩

/-- R44, R67: ROUTE to A2 is STARTED, and due at once. -/
theorem test_route : ∃ t, exec (.route 0 [2]) (framed s0 0x02 [2]) = .next t ∧
    (t.port 0).reply = some ⟨0x02, .accepted (some .started)⟩ ∧ (t.claims 0).reserved = [⟨4, true⟩] ∧
    (t.context 0).transition.map Transition.due = some true := ⟨_, rfl, by decide⟩

/-- R44: ROUTE to A3, which is not enabled, is refused with NO_PATH. -/
theorem test_route_noPath : exec (.route 0 [3]) (framed s0 0x02 [3]) =
    .next ((framed s0 0x02 [3]).answered 0 0x02 (.refused .noPath)) := by rfl

/-- R78: a departure with no old antenna energizes the coil of the new path under its blank. -/
theorem test_departure : ∃ t, exec (.departure 0)
    ({ withP1 s0 .switching none (some (move none (some 0) .wait)) with blocks := { (withP1 s0 .switching none
      (some (move none (some 0) .wait))).blocks with image := { s0.blocks.image with
        claims := put s0.blocks.image.claims 0 ⟨[], [⟨3, true⟩]⟩ } } }) = .next t ∧
    t.coil 3 = ⟨false, true, false, some 10, true⟩ ∧ (t.context 0).antenna = some 0 := ⟨_, rfl, by decide⟩

/-- R104, R114: HIGH current on a judged coil latches SHORT and trips it. -/
theorem test_short : ∃ t, exec (.senseEvent 3 401) (withCoil3 s0 none .normal .none) = .next t ∧
    t.sense 3 = ⟨401, .high, .short⟩ ∧ t.coil 3 = ⟨false, false, true, some 10, false⟩ := ⟨_, rfl, by decide⟩

/-- R131: with no route the key is BARRED with NOT_ROUTED. -/
theorem test_keyDown_barred : ∃ t, exec (.keyDown 0) s0 = .next t ∧ (t.key 0).state = .barred .notRouted ∧
    (t.port 0).notices = [.key 0 .barred (.barred .notRouted) false none none] := ⟨_, rfl, by decide⟩

/-- R131, R135: ROUTED to A1 with a band it covers, the key is granted. -/
theorem test_keyDown_granted : ∃ t, exec (.keyDown 0) (withRecord (withP1 s0 .routed (some 0) none) .link (some 0)) = .next t ∧
    t.key 0 = ⟨.on, none, none, true⟩ := ⟨_, rfl, by decide⟩

/-- R129, R141: the key-up of an ON position starts a tail of 50 ms. -/
theorem test_keyUp : ∃ t, exec (.keyUp 0) (withKR1 (withKey1 s0 ⟨.on, none, none, true⟩) true) = .next t ∧
    t.key 0 = ⟨.tail, some 50, none, false⟩ := ⟨_, rfl, by decide⟩

/-- R124: 10.9 V is below the supply low threshold of 11.0 V, and 11.4 V is not yet 0.5 V above it. -/
theorem test_supply : nextLevel Bank.empty.diagnostics .good 109 = .low ∧
    nextLevel Bank.empty.diagnostics .low 114 = .low ∧ nextLevel Bank.empty.diagnostics .low 115 = .good := by decide

/-- R180: with no image that checks the station comes up in FAILSAFE with cause STORE. -/
theorem test_load : ∃ t, exec .loadCompletion State.reset = .next t ∧ t.station.mode = .failsafe ∧
    t.station.causes.store = true ∧ t.source = .safe := ⟨_, rfl, by decide +kernel⟩

/-- R198: a WRITE of lockout entry 1, as read back. -/
theorem test_write : ∃ b, Bank.empty.write .lockoutTable 1 [1, 2, 3] = some b ∧
    b.record .lockoutTable 1 = [1, 2, 3] := ⟨_, rfl, by decide⟩

/-! ### Witnesses: each clause's hypotheses met together -/

/-- The queue of two commands, and the empty one. -/
theorem witness_StepRunsFrontCommand :
    { s0 with pending := [.keyDown 0, .keyUp 0] }.pending = .keyDown 0 :: [.keyUp 0] ∧ s0.pending = [] := ⟨rfl, rfl⟩

/-- LP1 in a state of the framer, with an empty queue or a full one. -/
def receiving (f : Framer) (queued : Nat := 0) : State :=
  s0.withPort 0 { s0.port 0 with framer := f, gapTimer := some 20, inbound := List.replicate queued ⟨9, [1]⟩ }

theorem witness_FramerTakesByte :
    { s0 with startUp := false }.startUp = false ∧ s0.startUp = true ∧ (s0.port 0).framer = .hunt ∧
    (s0.port 0).gapTimer = none ∧ ((receiving .length).port 0).framer = .length ∧
    (1 ≤ (1 : Byte).toNat ∧ (48 : Byte).toNat ≤ 48 ∧ ¬ (49 : Byte).toNat ≤ 48) ∧
    ((receiving (.body 2 [2])).port 0).framer = .body 2 [2] ∧ ((receiving (.body 1 [1])).port 0).framer = .body 1 [1] ∧
    ((receiving (.check [1, 9] none)).port 0).framer = .check [1, 9] none ∧
    crcBytes [1, 9] = [(crcBytes [1, 9]).headD 0, (crcBytes [1, 9]).getLastD 0] ∧
    ((receiving .hunt 3).port 0).inbound.length < 4 ∧ ¬ ((receiving .hunt 4).port 0).inbound.length < 4 ∧
    ((receiving .length).port 0).gapTimer.isSome = true := by decide +kernel

theorem witness_TransmitterSendsReplyFirst :
    (s0.port 0).transmitter = .idle ∧ ¬ ((s0.port 0).transmitter = .sendingReply ∧ s0.station.restartDue.get 0 = true) ∧
    ({ s0.port 0 with reply := some ⟨9, .busy⟩ } : Port).reply ≠ none ∧
    ({ s0.port 0 with notices := [.store true none] } : Port).notices ≠ [] := by decide

theorem witness_FrameArrivesWhole :
    s0.startUp = true ∧ (s0.port 0).framer = .hunt ∧ ((receiving .hunt 3).port 0).inbound.length < 4 ∧
    ([] : List Byte).length ≤ 47 ∧ (List.replicate 47 (0 : Byte)).length ≤ 47 := by decide +kernel

theorem witness_HandlerServesInTurn :
    (framed s0 0x0F []).handlerNext = some (0, ⟨0x0F, []⟩) ∧ (s0.handlerNext = none ∧ s0.startUp = true ∧
      s0.station.mode ≠ .starting) ∧
    { framed s0 0x0F [] with pointer := 1 }.handlerNext = some (0, ⟨0x0F, []⟩) := by decide

theorem witness_RequestTakenAndAnswered :
    (Instr.route 0 [1]).request = some (0, 0x02, [1]) ∧ (Instr.route 0 [1]).wellFormed = true ∧
    (framed s0 0x02 [1]).handlerNext = some (0, ⟨0x02, [1]⟩) ∧ s0.handlerNext ≠ some (0, ⟨0x02, [1]⟩) := by decide

theorem witness_UnknownAndMalformedAnswered :
    (framed s0 0x12 []).handlerNext = some (0, ⟨0x12, []⟩) ∧ 0x11 < (0x12 : Byte).toNat ∧
    (framed s0 0x00 []).handlerNext = some (0, ⟨0x00, []⟩) ∧
    (framed s0 0x01 [1]).handlerNext = some (0, ⟨0x01, [1]⟩) ∧ (Instr.bandReport 0 [1]).request = some (0, 0x01, [1]) ∧
    (Instr.bandReport 0 [1]).wellFormed = true ∧ requestLength 0x01 = some 2 ∧ ([1] : List Byte).length ≠ 2 ∧
    Instr.bandReport 0 [1] ≠ .clearFaultAll 0 [1] ∧
    (framed s0 0x06 [3]).handlerNext = some (0, ⟨0x06, [3]⟩) ∧ (Instr.queryStation 0 [3]).wellFormed = true := by decide

theorem witness_UnknownAndMalformedAnswered_fields :
    (framed s0 0x02 [17]).handlerNext = some (0, ⟨0x02, [17]⟩) ∧ 16 < (17 : Byte).toNat ∧
    (framed s0 0x05 [2]).handlerNext = some (0, ⟨0x05, [2]⟩) ∧ (Instr.modeManual 0 [2]).wellFormed = true ∧
    (Instr.modeManual 0 [2]).request = some (0, 0x05, [2]) ∧ 1 < (2 : Byte).toNat ∧
    (framed s0 0x0D [64]).handlerNext = some (0, ⟨0x0D, [64]⟩) ∧ 63 < (64 : Byte).toNat ∧ (254 : Byte).toNat < 255 ∧
    undefinedQuery 7 0 ∧ undefinedQuery 1 7 ∧ undefinedQuery 2 17 ∧ undefinedQuery 3 1 ∧ undefinedQuery 6 64 ∧
    (framed s0 0x06 [6, 64]).handlerNext = some (0, ⟨0x06, [6, 64]⟩) ∧
    (Instr.queryCoil 0 [6, 64]).wellFormed = true := by decide

theorem witness_BandReportClassifies :
    (framed s0 0x01 [0x37, 0x78]).handlerNext = some (0, ⟨0x01, [0x37, 0x78]⟩) ∧
    (s0.classRecord 0).source = .link ∧ planSearch s0.bank 14200 = some 0 ∧ some 0 ≠ (s0.classRecord 0).entry ∧
    s0.station.mode = .normal ∧ (s0.bank.positions.get 0).enabled = true ∧ (s0.context 0).mode = .follow ∧
    (s0.context 0).transition = none ∧ (s0.port 0).notices.length ≤ 4 ∧ (s0.classRecord 0).entry = none ∧
    ((withRecord s0 .lines none).classRecord 0).source = .lines ∧
    planSearch s0.bank 13999 = (s0.classRecord 0).entry := by decide

theorem witness_SettleExpiryTakesCode :
    ((withRecord s0 .lines none (some 50)).classRecord 0).settleTimer.isSome = true ∧
    (s0.classRecord 0).settleTimer = none := by decide

/-- P1 is ON on A1, which covers bands 3 and 5, and P2 ON on A2; entries 2 and 3 of the plan are bands 3
and 1 by list 2. -/
def onTwo (single : Bool) (lockout : LockoutEntry) : State :=
  let s := keyed (keyed s0 0 .routed (some 0) ⟨.on, none, none, true⟩) 1 .routed (some 1) ⟨.on, none, none, true⟩
  { s with banks := { s.banks with active := { bank with
    plan := put (put bank.plan 1 ⟨true, 7000, 7300, 2, 1⟩) 2 ⟨true, 1800, 2000, 0, 1⟩
    antennas := put bank.antennas 0 ⟨true, 0x14, .exclusive, 2⟩
    attributes := put bank.attributes 2 single
    lockouts := put bank.lockouts 15 lockout } } }

theorem witness_BandReport_rechecks :
    ((onTwo false ⟨false, 0, 0⟩).key 0).state = .on ∧ planSearch (onTwo false ⟨false, 0, 0⟩).bank 13999 = none ∧
    planSearch (onTwo false ⟨false, 0, 0⟩).bank 7100 = some 1 ∧
    ((onTwo false ⟨false, 0, 0⟩).classRecord 0).entry = some 0 ∧ followsChange (onTwo false ⟨false, 0, 0⟩) 0 (some 1) ∧
    ¬ followsChange (onTwo false ⟨false, 0, 0⟩) 0 none ∧ heldConsistent (onTwo false ⟨false, 0, 0⟩) ∧
    reservedInTransition (onTwo false ⟨false, 0, 0⟩) ∧
    recheckFailure bank (keyed s0 0 .routed (some 0) ⟨.on, none, none, true⟩).blocks 0 = none := by decide +kernel

theorem witness_BandReport_conflicts : gateConsistent (onTwo true ⟨true, 4, 2⟩) :=
  gateConsistent_of_codes (by decide +kernel)

/-- R146: no band, a band outside the coverage, a single-signal conflict and a lockout pair each withdraw P1, whose other ON
position keeps its permit. -/
theorem test_recheck_withdraws :
    (∃ t, exec (.bandReport 0 [0x36, 0xAF]) (framed (onTwo false ⟨false, 0, 0⟩) 0x01 [0x36, 0xAF]) = .next t ∧
      t.key 0 = ⟨.barred .noBand, some 50, none, false⟩ ∧ t.key 1 = ⟨.on, none, none, true⟩) ∧
    (∃ t, exec (.bandReport 0 [0x07, 0x6C]) (framed (onTwo false ⟨false, 0, 0⟩) 0x01 [0x07, 0x6C]) = .next t ∧
      t.key 0 = ⟨.barred .mismatch, some 50, none, false⟩ ∧ t.key 1 = ⟨.on, none, none, true⟩) ∧
    (∃ t, exec (.bandReport 0 [0x1B, 0xBC]) (framed ((onTwo true ⟨false, 0, 0⟩).withClassRecord 1
        ⟨.link, none, none, none, some 1⟩) 0x01 [0x1B, 0xBC]) = .next t ∧
      t.key 0 = ⟨.barred .singleSignal, some 50, none, false⟩ ∧ t.key 1 = ⟨.on, none, none, true⟩) ∧
    (∃ t, exec (.bandReport 0 [0x1B, 0xBC]) (framed (onTwo true ⟨true, 4, 2⟩) 0x01 [0x1B, 0xBC]) = .next t ∧
      t.key 0 = ⟨.barred .lockout, some 50, none, false⟩ ∧ t.key 1 = ⟨.on, none, none, true⟩) :=
  ⟨⟨_, rfl, by decide +kernel⟩, ⟨_, rfl, by decide +kernel⟩, ⟨_, rfl, by decide +kernel⟩, ⟨_, rfl, by decide +kernel⟩⟩

/-- The lines of P1 present code 1, which names entry 1: the settle expiry of a position in FOLLOW starts its request. -/
theorem witness_SettleExpiry_follows :
    ∃ t, exec (.settleExpiry 0) ({ withRecord s0 .lines none (some 50) with
        banks := { s0.banks with active := { bank with lineCodes := put bank.lineCodes 0 (some 1) } } }) = .next t ∧
      followsChange s0 0 (t.classRecord 0).entry ∧ (t.classRecord 0).entry = some 0 ∧ (t.context 0).state = .switching ∧
      t.port 0 = { s0.port 0 with notices := [routeNotice t.blocks 0 .follow (some (.accepted .started))] } :=
  ⟨_, rfl, by decide +kernel⟩

theorem witness_LineChangeStartsSettle :
    (s0.pins.lines.get 0).get 3 = false ∧ (s0.pins.lines.get 0).get 3 ≠ true ∧ (s0.classRecord 0).source = .link ∧
    ((withRecord s0 .lines none).classRecord 0).source = .lines := by decide

theorem witness_LineSetSetsLines :
    (framed s0 0x11 [6, 0, 0x10, 0x11, 0x13]).handlerNext = some (0, ⟨0x11, [6, 0, 0x10, 0x11, 0x13]⟩) ∧
    (6 : Byte).toNat = (5 : Pos).val + 1 ∧ (∀ k : LineNo, (#v[0, 0x10, 0x11, 0x13] : Vector Byte 4).get k ∈
      ([0x00, 0x10, 0x11, 0x12, 0x13] : List Byte)) ∧
    (framed s0 0x11 [7, 0, 0, 0, 0]).handlerNext = some (0, ⟨0x11, [7, 0, 0, 0, 0]⟩) ∧ 6 < (7 : Byte).toNat ∧
    (framed s0 0x11 [1, 0x14, 0, 0, 0]).handlerNext = some (0, ⟨0x11, [1, 0x14, 0, 0, 0]⟩) ∧
    (0x14 : Byte) ∉ ([0x00, 0x10, 0x11, 0x12, 0x13] : List Byte) := by decide

/-- P2 holds A1, so that A1 is closed to every other position. -/
def taken1 (s : State) : State :=
  { s with blocks := { s.blocks with routes := { s.blocks.routes with
    antennas := put s.blocks.routes.antennas 0 ⟨[⟨1, .holding⟩], PosSet.empty⟩ } } }

theorem witness_SelectionTakesFirstAvailable :
    (s0.blocks.classifier.get 0).entry = none ∧ ((withRecord s0 .link (some 0)).blocks.classifier.get 0).entry = some 0 ∧
    selection s0.view (withRecord s0 .link (some 0)).blocks 0 .byPreference = .target (some 0) ∧
    selection s0.view (taken1 (withRecord s0 .link (some 0))).blocks 0 .byPreference = .target (some 1) ∧
    selection s0.view (withRecord (withP1 s0 .routed (some 0) none) .link (some 0)).blocks 0 .byPreference = .current ∧
    selection s0.view (taken1 s0).blocks 0 (.antenna 0) = .held ∧
    selection s0.view s0.blocks 0 (.antenna 2) = .refused .noPath := by decide

/-- Another position claims coil 3 of the path of P1 to A1, at the value the path requires. -/
theorem witness_SelectionTakesFirstAvailable_claims :
    (⟨3, true⟩ : Claim) ∈ (path s0.bank 0 0).claims ∧
    available bank { s0.blocks with image := { s0.blocks.image with
      claims := put s0.blocks.image.claims 1 ⟨[⟨3, true⟩], []⟩ } } 0 0 = true ∧
    available bank { s0.blocks with image := { s0.blocks.image with
      claims := put s0.blocks.image.claims 1 ⟨[⟨3, false⟩], []⟩ } } 0 0 = false := by decide

/-- P1 is not enabled. -/
def disabled1 (s : State) : State :=
  { s with banks := { s.banks with active := { bank with positions := put bank.positions 0 ⟨false, .link, .follow⟩ } } }

theorem witness_RouteRequestsRefused :
    safe0.station.mode ≠ .normal ∧ (framed safe0 0x02 [16]).handlerNext = some (0, ⟨0x02, [16]⟩) ∧
    (16 : Byte).toNat ≤ 16 ∧ (framed safe0 0x03 []).handlerNext = some (0, ⟨0x03, []⟩) ∧
    (framed safe0 0x04 []).handlerNext = some (0, ⟨0x04, []⟩) ∧
    (framed safe0 0x05 [0]).handlerNext = some (0, ⟨0x05, [0]⟩) ∧
    (framed safe0 0x05 [1]).handlerNext = some (0, ⟨0x05, [1]⟩) ∧
    (disabled1 s0).station.mode = .normal ∧ ((disabled1 s0).bank.positions.get 0).enabled = false ∧
    (framed (disabled1 s0) 0x02 [0]).handlerNext = some (0, ⟨0x02, [0]⟩) := by decide

theorem witness_RouteStartsTransition :
    (framed s0 0x02 [2]).handlerNext = some (0, ⟨0x02, [2]⟩) ∧ (2 : Byte).toNat = (1 : Ant).val + 1 ∧
    s0.station.mode = .normal ∧ (s0.bank.positions.get 0).enabled = true ∧ (s0.context 0).transition = none ∧
    heldConsistent (framed s0 0x02 [2]) ∧
    selection (framed s0 0x02 [2]).view (framed s0 0x02 [2]).blocks 0 (.antenna 1) = .target (some 1) ∧
    (framed (withRecord s0 .link (some 0)) 0x02 [0]).handlerNext = some (0, ⟨0x02, [0]⟩) ∧
    selection s0.view (withRecord s0 .link (some 0)).blocks 0 .byPreference = .target (some 0) ∧
    ((withKey1 s0 ⟨.on, none, none, true⟩).key 0).state = .on ∧ s0.bank.timing.tailMs ≠ 0 := by decide

theorem witness_RouteStartsTransition_on :
    gateConsistent (framed (keyQueue ⟨.on, none, none, true⟩) 0x02 [2]) := gateConsistent_of_codes (by decide +kernel)

/-- R71: A2 is held by P2, which is live, and the transition of P1 to it is not due at its start; it is once the tail of P2 is over. -/
theorem test_route_notDue : ∃ t u,
    exec (.route 0 [2]) (framed (withAntenna (keyed s0 1 .routed (some 1) ⟨.tail, some 50, none, false⟩) 1
      ⟨[⟨1, .holding⟩], PosSet.empty⟩) 0x02 [2]) = .next t ∧ exec (.tailExpiry 1) t = .next u ∧
    (t.context 0).transition.map Transition.due = some false ∧ (u.context 0).transition.map Transition.due = some true :=
  ⟨_, _, rfl, rfl, by decide +kernel⟩

theorem witness_RouteStartsTransition_otherwise :
    (s0.context 0).slot = none ∧ (framed (taken1 s0) 0x02 [1]).handlerNext = some (0, ⟨0x02, [1]⟩) ∧
    heldConsistent (framed (taken1 s0) 0x02 [1]) ∧ selection s0.view (taken1 s0).blocks 0 (.antenna 0) = .held ∧
    selection s0.view s0.blocks 0 (.antenna 2) = .refused .noPath ∧
    selection s0.view (withP1 s0 .routed (some 0) none).blocks 0 (.antenna 0) = .current := by decide

/-- The held list. -/
def withHeld (s : State) (l : List Pos) : State :=
  { s with blocks := { s.blocks with routes := { s.blocks.routes with held := l } } }

/-- P1 and P2 hold requests that wait, P2 the older one; A1 is taken. -/
def heldTwo : State :=
  withHeld ((withP1 (taken1 s0) .idle none none (some ⟨.antenna 0, .held, .request⟩) [2]).withContext 1
    ⟨.idle, none, none, some ⟨.byPreference, .held, .follow⟩, .follow, [], false⟩) [1, 0]

theorem witness_RouteStartsTransition_replacesHeld :
    (framed heldTwo 0x02 [3]).handlerNext = some (0, ⟨0x02, [3]⟩) ∧ heldConsistent (framed heldTwo 0x02 [3]) ∧
    reservedInTransition heldTwo ∧ (heldTwo.context 0).slot ≠ none ∧ (heldTwo.context 0).transition = none ∧
    selection heldTwo.view heldTwo.blocks 0 (.antenna 2) = .refused .noPath ∧
    selection heldTwo.view heldTwo.blocks 0 (.antenna 0) = .held ∧
    selection heldTwo.view heldTwo.blocks 0 (.antenna 1) = .target (some 1) ∧
    (heldTwo.held.filter fun q => decide (q ≠ 0)).head? = some 1 ∧
    (heldTwo.context 1).slot = some ⟨.byPreference, .held, .follow⟩ ∧ Cause.follow.forced = false := by decide

/-- P1, whose route to A1 over coil 3 stands, waits to go to A2, which it reserves; A1 is closed or open to it. -/
def inWait (latch : Latch) : State :=
  withCoil3 (withClaim (withP1 s0 .switching (some 0) (some (move (some 0) (some 1) .wait .request .routed)) none [2]))
    none .normal latch

/-- P1 waits to go to A2 from no antenna, and A1 is taken. -/
def inWaitFromNone : State := taken1 (withP1 s0 .switching none (some (move none (some 1) .wait)) none [0])

theorem witness_requests_inWait :
    heldConsistent (framed (inWait .none) 0x02 [1]) ∧ reservedInTransition (inWait .none) ∧
    (framed (inWait .none) 0x02 [1]).handlerNext = some (0, ⟨0x02, [1]⟩) ∧
    ((inWait .none).context 0).transition = some (move (some 0) (some 1) .wait .request .routed) ∧
    selection s0.view (inWait .none).blocks 0 (.antenna 0) = .current ∧
    selection s0.view (inWait .none).blocks 0 (.antenna 1) = .target (some 1) ∧
    selection s0.view (inWait .none).blocks 0 (.antenna 2) = .refused .noPath ∧
    selection s0.view (inWait .none).blocks 0 .release = .target none ∧
    selection s0.view inWaitFromNone.blocks 0 (.antenna 0) = .held ∧
    selection s0.view inWaitFromNone.blocks 0 .release = .current ∧
    heldConsistent (framed inWaitFromNone 0x04 []) ∧ reservedInTransition inWaitFromNone ∧
    (∀ k ∈ ((inWait .none).claims 0).effective, ((inWait .none).sense k.coil).latch = .none) ∧
    (∃ k ∈ ((inWait .open).claims 0).effective, ((inWait .open).sense k.coil).latch ≠ .none) ∧
    ((inWait .none).context 0).history = [2] ∧ inWaitFromNone.held = [] := by decide

theorem witness_ModeRequestsSetMode_inWait :
    ((withRecord inWaitFromNone .link (some 0)).classRecord 0).entry ≠ none ∧
    (framed (withRecord inWaitFromNone .link (some 0)) 0x05 [0]).handlerNext = some (0, ⟨0x05, [0]⟩) ∧
    heldConsistent (framed (withRecord inWaitFromNone .link (some 0)) 0x05 [0]) ∧
    ((withRecord heldTwo .link (some 0)).context 0).slot ≠ none ∧
    ¬ ((move (some 0) (some 1) .brk).phase = .wait ∧ (move (some 0) (some 1) .brk).cause.forced = false) := by decide

theorem witness_RequestBehindTransitionLatched :
    s0.station.mode = .normal ∧ (s0.bank.positions.get 0).enabled = true ∧
    ((withP1 s0 .switching (some 0) (some (move (some 0) (some 1) .brk)) none [3]).context 0).transition =
      some (move (some 0) (some 1) .brk) ∧
    (move (some 0) (some 1) .brk).phase ≠ .wait ∧ (move (some 0) none .wait .commit).cause = .commit ∧
    (framed (withP1 s0 .switching (some 0) (some (move (some 0) (some 1) .brk))) 0x02 [1]).handlerNext =
      some (0, ⟨0x02, [1]⟩) ∧
    (framed (withP1 s0 .switching (some 0) (some (move (some 0) (some 1) .brk))) 0x04 []).handlerNext =
      some (0, ⟨0x04, []⟩) ∧
    ((withP1 s0 .switching (some 0) (some (move (some 0) (some 1) .brk)) none [3]).context 0).history = [3] := by decide

theorem witness_RevertPopsHistory :
    (framed s0 0x03 []).handlerNext = some (0, ⟨0x03, []⟩) ∧ s0.station.mode = .normal ∧
    (s0.bank.positions.get 0).enabled = true ∧ (s0.context 0).history = [] ∧
    ((withP1 s0 .idle none none none [1]).context 0).history = [1] ∧ (s0.context 0).transition = none ∧
    heldConsistent (framed (withP1 s0 .idle none none none [1]) 0x03 []) ∧
    selection s0.view (withP1 s0 .idle none none none [1]).blocks 0 (.antenna 1) = .target (some 1) := by decide

theorem witness_ReleaseStartsOrEndsFault :
    (framed (withP1 s0 .routed (some 0) none) 0x04 []).handlerNext = some (0, ⟨0x04, []⟩) ∧
    s0.station.mode = .normal ∧ (s0.bank.positions.get 0).enabled = true ∧
    heldConsistent (framed (withP1 s0 .routed (some 0) none) 0x04 []) ∧
    ((withP1 s0 .routed (some 0) none).context 0).antenna = some 0 ∧
    heldConsistent (framed (withP1 s0 .faulted none none) 0x04 []) ∧
    ((withP1 s0 .faulted none none).context 0).antenna = none ∧
    ((withP1 s0 .faulted none none).context 0).slot = none := by decide

theorem witness_ModeRequestsSetMode :
    s0.station.mode = .normal ∧ (s0.bank.positions.get 0).enabled = true ∧
    (framed s0 0x05 [1]).handlerNext = some (0, ⟨0x05, [1]⟩) ∧ (framed s0 0x05 [0]).handlerNext = some (0, ⟨0x05, [0]⟩) ∧
    (s0.classRecord 0).entry = none ∧ ((withRecord s0 .link (some 0)).classRecord 0).entry ≠ none ∧
    heldConsistent (framed (withRecord s0 .link (some 0)) 0x05 [0]) ∧ (s0.context 0).transition = none := by decide

/-- P1 in WAIT, due, from A1 to A2, or to A1 from none. -/
def waiting (old : Option Ant) (target : Option Ant) : State := withP1 s0 .switching old (some (move old target .wait))

theorem witness_Departure_quiet :
    ((waiting (some 0) (some 1)).context 0).transition = some (move (some 0) (some 1) .wait) ∧
    (move (some 0) (some 1) .wait).due = true ∧ heldConsistent (waiting (some 0) (some 1)) ∧
    notHeld ((waiting (some 0) (some 1)).context 0) ∧
    quietCondition (waiting (some 0) (some 1)) 0 (move (some 0) (some 1) .wait) := by decide

theorem witness_Departure_walks :
    reservedInTransition (withHeld ((waiting (some 0) (some 1)).withContext 1
      ⟨.idle, none, none, some ⟨.byPreference, .held, .follow⟩, .follow, [], false⟩) [1]) ∧
    heldConsistent (withHeld ((waiting (some 0) (some 1)).withContext 1
      ⟨.idle, none, none, some ⟨.byPreference, .held, .follow⟩, .follow, [], false⟩) [1]) := by decide

theorem witness_Departure_toMake :
    ((waiting none (some 0)).context 0).transition = some (move none (some 0) .wait) ∧
    quietCondition (waiting none (some 0)) 0 (move none (some 0) .wait) ∧ heldConsistent (waiting none (some 0)) ∧
    notHeld ((waiting none (some 0)).context 0) := ⟨by decide, by decide, by decide, by decide⟩

theorem witness_Departure_notQuiet :
    ¬ quietCondition (committing (waiting (some 0) (some 1))) 0 (move (some 0) (some 1) .wait) ∧
    heldConsistent (committing (waiting (some 0) (some 1))) := ⟨fun h => absurd h.2.2.2.2 (by decide), by decide⟩

/-- P1 in BREAK from A1. -/
def breaking (target : Option Ant) : State := withP1 s0 .switching (some 0) (some (move (some 0) target .brk))

theorem witness_BreakExpiryLeavesOldAntenna :
    ((breaking (some 1)).context 0).transition = some (move (some 0) (some 1) .brk) ∧
    (move (some 0) (some 1) .brk).phaseTimer.isSome = true ∧ (move (some 0) (some 1) .brk).old = some 0 ∧
    heldConsistent (breaking (some 1)) ∧ heldConsistent (breaking none) ∧ (move (some 0) none .brk).target = none ∧
    ((breaking none).context 0).slot = none ∧ (move (some 0) none .brk).cause ≠ .commit ∧
    ((breaking none).port 0).notices.length ≤ 4 := by decide

/-- P1 in BREAK from A1 to none with a request latched; P2 holds one that waits. -/
def breakingLatched (cause : Cause) : State :=
  withHeld ((withP1 s0 .switching (some 0) (some (move (some 0) none .brk cause .routed))
    (some ⟨.antenna 1, .latched, .request⟩)).withContext 1
    ⟨.idle, none, none, some ⟨.byPreference, .held, .follow⟩, .follow, [], false⟩) [1]

theorem witness_BreakExpiry_latchedStarts :
    heldConsistent (breakingLatched .request) ∧ reservedInTransition (breakingLatched .request) ∧
    (breakingLatched .request).station.mode = .normal ∧ (1 : Pos) ∈ (breakingLatched .request).held ∧
    ((breakingLatched .request).context 0).slot = some ⟨.antenna 1, .latched, .request⟩ ∧
    ((breakingLatched .request).bank.positions.get 0).enabled = true ∧
    ((disabled1 (breakingLatched .commit)).bank.positions.get 0).enabled = false ∧
    heldConsistent (disabled1 (breakingLatched .commit)) ∧ ((breakingLatched .commit).classRecord 0).entry = none ∧
    ((breakingLatched .commit).port 0).notices.length ≤ 4 := by decide

theorem witness_BreakExpiry_commitFollows :
    ((withRecord (withP1 s0 .switching (some 0) (some (move (some 0) none .brk .commit .routed))) .link (some 0)).context
      0).slot = none ∧
    ((withRecord s0 .link (some 0)).classRecord 0).entry ≠ none ∧ (s0.context 0).mode = .follow ∧
    (move (some 0) none .brk .commit .routed).cause = .commit := by decide

/-- P1 in MAKE on A1, claiming coil 3 effectively. -/
def making (blank : Timer) (latch : Latch) : State :=
  withCoil3 (withClaim (withP1 s0 .switching (some 0) (some (move none (some 0) .make)))) blank .normal latch

theorem witness_MakeExpiryChecks :
    ((making none .none).context 0).transition = some (move none (some 0) .make) ∧
    (move none (some 0) .make).phaseTimer.isSome = true ∧
    (∃ k ∈ ((making (some 10) .none).claims 0).effective, ((making (some 10) .none).coil k.coil).blank.isSome = true) ∧
    (∀ k ∈ ((making none .none).claims 0).effective, ((making none .none).coil k.coil).blank = none ∧
      ((making none .none).sense k.coil).latch = .none) ∧
    ((making none .none).context 0).slot = none ∧
    (∀ k ∈ ((making none .open).claims 0).effective, ((making none .open).coil k.coil).blank = none) ∧
    (∃ k ∈ ((making none .open).claims 0).effective, ((making none .open).sense k.coil).latch ≠ .none) := by decide

theorem witness_MakeExpiryChecks_latchedStarts (latch : Latch) :
    (({ making none latch with blocks := ((making none latch).withContext 0 ⟨.switching, some 0,
      some (move none (some 0) .make), some ⟨.antenna 1, .latched, .request⟩, .follow, [], false⟩).blocks }).context 0).slot =
        some ⟨.antenna 1, .latched, .request⟩ ∧
    heldConsistent ((making none latch).withContext 0 ⟨.switching, some 0,
      some (move none (some 0) .make), some ⟨.antenna 1, .latched, .request⟩, .follow, [], false⟩) ∧
    reservedInTransition (making none latch) ∧ (making none latch).station.mode = .normal ∧
    ((making none latch).bank.positions.get 0).enabled = true := by cases latch <;> decide

/-- P1, whose route to A1 stands, waits to go to A2. -/
def rerouting (cause : Cause) (latch : Latch) : State :=
  withCoil3 (withClaim (withP1 s0 .switching (some 0) (some (move (some 0) (some 1) .wait cause .routed)))) none .normal latch

theorem witness_QuietWaitExpiry_forced :
    ((rerouting .commit .none).context 0).transition = some (move (some 0) (some 1) .wait .commit .routed) ∧
    (move (some 0) (some 1) .wait .commit .routed).quietTimer.isSome = true ∧ heldConsistent (rerouting .commit .none) ∧
    ((rerouting .commit .none).port 0).notices.length ≤ 4 := by decide

theorem witness_QuietWaitExpiry_clean :
    heldConsistent (rerouting .request .none) ∧
    (∀ k ∈ ((rerouting .request .none).claims 0).effective, ((rerouting .request .none).sense k.coil).latch = .none) ∧
    (move (some 0) (some 1) .wait .request .routed).cause = .request := by decide

theorem witness_QuietWaitExpiry_walks : reservedInTransition (rerouting .request .none) ∧ gateConsistent (rerouting .request .none) :=
  ⟨by decide, gateConsistent_of_codes (by decide +kernel)⟩

theorem witness_QuietWaitExpiry_latched :
    heldConsistent (rerouting .request .open) ∧ (move (some 0) (some 1) .wait .request .routed).start = .routed ∧
    (∃ k ∈ ((rerouting .request .open).claims 0).effective,
      ((rerouting .request .open).sense k.coil).latch ≠ .none) := by decide

/-- P1 is ROUTED to A1 over coil 3 and ON. -/
def onAir (latch : Latch) : State :=
  withKey1 (withCoil3 (withClaim (withP1 s0 .routed (some 0) none)) none .normal latch) ⟨.on, none, none, true⟩

theorem witness_SenseEventLatches :
    (onAir .none).pins.resetLow = false ∧ (19 < (onAir .none).bank.diagnostics.openLimit) ∧
    ¬ (20 < (onAir .none).bank.diagnostics.openLimit) ∧ (onAir .none).bank.diagnostics.t0 < 401 ∧
    ¬ (onAir .none).bank.diagnostics.t0 < 400 ∧ judged (onAir .none) 3 ∧ ¬ judged s0 3 ∧
    Sense.low ≠ ((onAir .none).sense 3).sense ∧ ((onAir .none).sense 3).latch = .none ∧
    Sense.high ≠ ((onAir .open).sense 3).sense ∧ ((onAir .open).sense 3).latch ≠ .short ∧
    claimsCoil (onAir .none) 0 3 ∧ ((onAir .none).context 0).state = .routed ∧
    ((onAir .none).context 0).transition = none ∧ ((onAir .none).key 0).state = .on ∧
    ((onAir .none).port 0).notices.length ≤ 4 ∧ (onAir .none).bank.diagnostics.mask.openCoil = false := by decide

/-- P1 in CHECK on A1 over coil 3, whose blank runs. -/
def checking : State :=
  withCoil3 (withClaim (withP1 s0 .switching (some 0) (some (move none (some 0) .check)))) (some 10) .normal .none

theorem witness_BlankExpiryExaminesAndEndsCheck :
    ((withCoil3 s0 (some 10) .normal .none).coil 3).blank.isSome = true ∧
    ¬ latchesOpen (withCoil3 s0 (some 10) .normal .none) 3 ∧ ¬ latchesShort (withCoil3 s0 (some 10) .normal .none) 3 ∧
    (∀ p : Pos, claimsCoil (withCoil3 s0 (some 10) .normal .none) p 3 →
      ((withCoil3 s0 (some 10) .normal .none).context p).transition = none) ∧
    latchesOpen (withCoil3 s0 (some 10) .low .none) 3 ∧ latchesShort (withCoil3 s0 (some 10) .high .open) 3 ∧
    ¬ latchesOpen checking 3 ∧ ¬ latchesShort checking 3 ∧ claimsCoil checking 0 3 ∧
    (checking.context 0).transition = some (move none (some 0) .check) ∧ (checking.context 0).slot = none ∧
    (∀ k ∈ (checking.claims 0).effective, k.coil = 3 ∧ (checking.sense k.coil).latch = .none) := by decide

/-- P1 in CHECK over coils 3 and 4, of which 4 is blanked. -/
def checkingTwo : State :=
  ({ checking with blocks := { checking.blocks with image := { checking.blocks.image with
    claims := put checking.blocks.image.claims 0 ⟨[⟨3, true⟩, ⟨4, true⟩], []⟩ } } }).withCoil 4 ⟨false, true, false, some 10, true⟩

theorem witness_BlankExpiry_latches :
    (s0.coil 3).blank = none ∧ checksStay checkingTwo 3 ∧ (checkingTwo.coil 3).blank.isSome = true ∧
    claimsCoil checkingTwo 0 3 ∧ checksStay (withCoil3 (onAir .none) (some 10) .low .none) 3 ∧
    latchesOpen (withCoil3 (onAir .none) (some 10) .low .none) 3 ∧ latchesShort (withCoil3 (onAir .none) (some 10) .high .none) 3 ∧
    claimsCoil (onAir .none) 0 3 ∧ ((onAir .none).context 0).state = .routed ∧ ((onAir .none).key 0).state = .on ∧
    latchesShort (checking.withSense 3 ⟨900, .high, .none⟩) 3 ∧ notHeld (checking.context 0) := by decide

theorem witness_BlankExpiry_failsCheck :
    latchesOpen (checking.withSense 3 ⟨0, .low, .none⟩) 3 ∧
    (checking.withSense 3 ⟨0, .low, .none⟩).pins.resetLow = false ∧
    ¬ latchesShort (checking.withSense 3 ⟨100, .normal, .open⟩) 3 ∧
    (∃ k ∈ (checking.claims 0).effective, ((checking.withSense 3 ⟨100, .normal, .open⟩).sense k.coil).latch ≠ .none) ∧
    (∀ k ∈ (checking.claims 0).effective, k.coil = 3 ∨ (checking.coil k.coil).blank = none) ∧
    (∀ q : Pos, q ≠ 0 → claimsCoil checking q 3 → ∀ tr ∈ (checking.context q).transition, tr.phase ≠ .check) := by decide

theorem witness_ClearFaultClearsOneCoil :
    (3 : Byte).toNat = (3 : Coil).val ∧ (framed s0 0x0D [3]).handlerNext = some (0, ⟨0x0D, [3]⟩) ∧
    (s0.sense 3).latch = .none ∧ ((withCoil3 s0 none .low .open).sense 3).latch = .open ∧
    judged (withCoil3 s0 none .low .open) 3 ∧ ((withCoil3 s0 none .low .open).sense 3).sense = .low ∧
    ¬ (judged (withCoil3 s0 none .normal .open) 3 ∧ ((withCoil3 s0 none .normal .open).sense 3).sense = .low) ∧
    ((withCoil3 s0 none .high .short).sense 3).latch = .short := by decide

theorem witness_ClearFaultAllClearsEveryCoil :
    (framed (withCoil3 s0 none .low .open) 0x0D [255]).handlerNext = some (0, ⟨0x0D, [255]⟩) ∧
    ∀ c : Coil, decide (c = 3) = true ↔
      ((framed (withCoil3 s0 none .low .open) 0x0D [255]).sense c).latch = .open ∧
        judged (framed (withCoil3 s0 none .low .open) 0x0D [255]) c ∧
        ((framed (withCoil3 s0 none .low .open) 0x0D [255]).sense c).sense = .low := by decide +kernel

theorem witness_SelectorLineMovesSafeCoils :
    s0.pins.sa ≠ true ∧ s0.source ≠ .safe ∧ safe0.source = .safe ∧ safe0.pins.sb ≠ true ∧ s0.pins.sa = false := by decide

theorem witness_SupplyEventMovesLevel :
    s0.pins.resetLow = false ∧ s0.station.mode ≠ .starting ∧ s0.supply.level = .good ∧
    (109 < s0.bank.diagnostics.supplyLow ∧ ¬ 109 < s0.bank.diagnostics.supplyFail) ∧
    94 < s0.bank.diagnostics.supplyFail ∧ ¬ 110 < s0.bank.diagnostics.supplyLow ∧
    SupplyLevel.good ≠ { s0 with supply := ⟨100, .low, true⟩ }.supply.level ∧
    s0.bank.diagnostics.supplyLow + 5 ≤ 115 ∧ safe0.station.mode = .failsafe ∧ s0.station.mode = .normal ∧
    quietCondition (waiting none (some 0)) 0 (move none (some 0) .wait) := by decide

theorem witness_SupplyEvent_walks :
    gateConsistent { keyQueue ⟨.up, none, none, false⟩ with supply := ⟨105, .low, true⟩ } ∧
    (0 : Pos) ∈ (keyQueue ⟨.up, none, none, false⟩).waiting := ⟨gateConsistent_of_codes (by decide +kernel), by decide⟩

/-- R126, R138: at GOOD the oldest entry is granted, the IDLE one barred, and the youngest kept behind the first. -/
theorem test_supplyEvent_walk :
    ∃ t, exec (.supplyEvent 138) { keyQueue ⟨.up, none, none, false⟩ with supply := ⟨105, .low, true⟩ } = .next t ∧
      t.key 0 = ⟨.on, none, none, true⟩ ∧ (t.key 2).state = .barred .notRouted ∧ (t.key 3).state = .waiting .holderLive ∧
      t.waiting = [3] := ⟨_, rfl, by decide +kernel⟩

/-- Obstacles 7 to 10 of Table 7-2, each with those after it standing too. -/
theorem witness_GrantTest_lastObstacles :
    grantTest s0.view (withAntenna (keyQueue ⟨.tail, some 50, none, false⟩) 1
      ⟨[⟨1, .holding⟩, ⟨0, .holding⟩], put PosSet.empty 4 true⟩).blocks 0 = some (.switchHold, none) ∧
    grantTest s0.view (keyQueue ⟨.tail, some 50, none, false⟩).blocks 0 = some (.holderLive, some 1) ∧
    lowest (fun q => q ≠ 0 ∧ q ∈ ((keyQueue ⟨.tail, some 50, none, false⟩).antenna 1).holders ∧
      (((keyQueue ⟨.tail, some 50, none, false⟩).key q).permit = true ∨
        ((keyQueue ⟨.tail, some 50, none, false⟩).key q).tail.isSome = true)) 1 ∧
    grantTest { s0.view with bank := { bank with
      attributes := put bank.attributes 4 true, lockouts := put bank.lockouts 0 ⟨true, 4, 4⟩ } } (onTwo false ⟨false, 0, 0⟩).blocks 0 = some (.singleSignal, some 1) ∧
    grantTest { s0.view with bank := { bank with lockouts := put bank.lockouts 0 ⟨true, 4, 4⟩ } }
      (onTwo false ⟨false, 0, 0⟩).blocks 0 = some (.lockout, some 1) ∧
    lowest (fun q => q ≠ 0 ∧ ((onTwo false ⟨false, 0, 0⟩).key q).state = .on ∧
      singleSignalConflict { bank with attributes := put bank.attributes 4 true } (onTwo false ⟨false, 0, 0⟩).blocks 0 q =
        true) 1 := by decide +kernel

theorem witness_GrantTestIsTable :
    safe0.station.mode ≠ .normal ∧ s0.station.mode = .normal ∧
    ((s0.context 0).state ≠ .routed ∧ (s0.context 0).state ≠ .switching) ∧ (s0.bank.positions.get 0).enabled = true ∧
    ((waiting none (some 0)).context 0).state = .switching ∧ bandOf s0.bank s0.blocks 0 = none ∧
    bandOf s0.bank (withRecord s0 .link (some 0)).blocks 0 = some 4 ∧ covers s0.bank 0 4 = true ∧
    covers Bank.empty 0 4 = false ∧
    grantTest s0.view (withRecord (withP1 s0 .routed (some 0) none) .link (some 0)).blocks 0 = none := by decide

theorem witness_KeyDownGrantedWaitingOrBarred :
    s0.pins.keys.get 0 = false ∧ (withKR1 s0 true).pins.keys.get 0 = true ∧ (starting s0).station.mode = .starting ∧
    s0.startUp = true ∧ s0.station.mode ≠ .starting ∧ (s0.key 0).state = .up ∧
    grantTest s0.view (withRecord (withP1 s0 .routed (some 0) none) .link (some 0)).blocks 0 = none ∧
    grantTest s0.view (waiting none (some 0)).blocks 0 = some (.switching, none) ∧
    grantTest s0.view s0.blocks 0 = some (.notRouted, none) ∧ (s0.port 0).notices.length ≤ 4 := by decide

theorem witness_KeyUpEndsKeying :
    s0.pins.keys.get 0 = false ∧ (withKR1 s0 true).pins.keys.get 0 = true ∧ (s0.key 0).state = .up ∧
    s0.startUp = true ∧ s0.station.mode ≠ .starting ∧ ((withKey1 s0 ⟨.on, none, none, true⟩).key 0).state = .on ∧
    ((withKey1 s0 ⟨.waiting .switching, none, none, false⟩).key 0).state = .waiting .switching ∧
    ((withKey1 s0 ⟨.barred .notRouted, none, none, false⟩).key 0).state = .barred .notRouted := by decide

theorem witness_KeyUp_walks :
    gateConsistent (noTail (keyQueue ⟨.on, none, none, true⟩)) ∧ (noTail (keyQueue ⟨.on, none, none, true⟩)).bank.timing.tailMs = 0 :=
  ⟨gateConsistent_of_codes (by decide +kernel), rfl⟩

/-- R130, R138: P2 lets its key up with tail time 0, and the walk grants P1. -/
theorem test_keyUp_walk :
    ∃ t, exec (.keyUp 1) ({ noTail (keyQueue ⟨.on, none, none, true⟩) with
        pins := { s0.pins with keys := put s0.pins.keys 1 true } }) = .next t ∧
      t.key 1 = ⟨.up, none, none, false⟩ ∧ t.key 0 = ⟨.on, none, none, true⟩ ∧ t.waiting = [3] := ⟨_, rfl, by decide +kernel⟩

theorem witness_TailExpiry_walks : gateConsistent (keyQueue ⟨.tail, some 50, none, false⟩) :=
  gateConsistent_of_codes (by decide +kernel)

/-- R138, R152: the tail of P2 ends; P1 is granted, P3 barred, both told; P4 is kept. -/
theorem test_tailExpiry_walk :
    ∃ t, exec (.tailExpiry 1) (keyQueue ⟨.tail, some 50, none, false⟩) = .next t ∧ t.key 0 = ⟨.on, none, none, true⟩ ∧
      (t.port 0).notices = [.key 0 .granted .on false (some 4) none] ∧
      (t.port 2).notices = [.key 2 .barred (.barred .notRouted) false (some 4) none] ∧
      t.key 3 = ⟨.waiting .holderLive, none, some 900, false⟩ ∧ t.waiting = [3] := ⟨_, rfl, by decide +kernel⟩

/-- P6 waits to leave A2, which P2 holds in its tail. -/
def heldBack : State :=
  ((withAntenna (keyed s0 1 .routed (some 1) ⟨.tail, some 50, none, false⟩) 1
    ⟨[⟨1, .holding⟩, ⟨5, .holding⟩], put PosSet.empty 5 true⟩).withContext 5
      ⟨.switching, some 1, some { move (some 1) none .wait .request .routed with due := false }, none, .follow, [], false⟩)

/-- R71: the end of the tail makes the transition it held back due. -/
theorem witness_TailExpiry_examines :
    concerns heldBack 1 5 { move (some 1) none .wait .request .routed with due := false } ∧
    ¬ quietCondition heldBack 5 { move (some 1) none .wait .request .routed with due := false } ∧
    quietCondition (heldBack.withKey 1 ⟨.up, none, none, false⟩) 5
      { move (some 1) none .wait .request .routed with due := false } ∧
    ∃ t, exec (.tailExpiry 1) heldBack = .next t ∧ (t.context 5).transition.map Transition.due = some true :=
  ⟨by decide +kernel, by decide +kernel, by decide +kernel, _, rfl, by decide +kernel⟩

theorem witness_TailAndKeyWaitExpire :
    ((withKey1 s0 ⟨.tail, some 50, none, false⟩).key 0).tail.isSome = true ∧ (s0.key 0).tail = none ∧
    s0.source ≠ .frozen ∧ (∀ q : Pos, q ≠ 0 → ((withKey1 s0 ⟨.tail, some 50, none, false⟩).key q).tail = none) ∧
    { s0.blocks.image with source := .frozen }.source = .frozen ∧
    ((withKey1 s0 ⟨.waiting .switching, none, some 1000, false⟩).key 0).state = .waiting .switching ∧
    ((withKey1 s0 ⟨.waiting .switching, none, some 1000, false⟩).key 0).keyWait.isSome = true ∧
    (s0.port 0).notices.length ≤ 4 := by decide

theorem witness_SelectAndReadMoveCursor :
    (framed s0 0x07 [1, 7, 16]).handlerNext = some (0, ⟨0x07, [1, 7, 16]⟩) ∧ (1 : Byte).toNat = BankName.staging.code ∧
    (7 : Byte).toNat = TableId.lockoutTable.num ∧
    (TableId.lockoutTable.first ≤ 16 ∧ 16 < TableId.lockoutTable.first + TableId.lockoutTable.entries) ∧
    ¬ 17 < TableId.lockoutTable.first + TableId.lockoutTable.entries ∧
    (framed s0 0x07 [2, 13, 0]).handlerNext = some (0, ⟨0x07, [2, 13, 0]⟩) ∧ 12 < (13 : Byte).toNat ∧
    (framed s0 0x09 [4]).handlerNext = some (0, ⟨0x09, [4]⟩) ∧ (s0.port 0).cursor = none ∧
    ((withCursor s0 .staging .lockoutTable 16).port 0).cursor = some ⟨.staging, .lockoutTable, 16⟩ ∧
    4 < (5 : Byte).toNat ∧ (framed s0 0x09 [5]).handlerNext = some (0, ⟨0x09, [5]⟩) := by decide

theorem witness_WriteChecksAndStores :
    (framed s0 0x08 [1, 2, 3]).handlerNext = some (0, ⟨0x08, [1, 2, 3]⟩) ∧ (s0.port 0).cursor = none ∧
    ((withCursor s0 .active .lockoutTable 1).port 0).cursor = some ⟨.active, .lockoutTable, 1⟩ ∧
    (committing s0).banks.pending = true ∧ s0.banks.pending = false ∧
    ((withCursor s0 .staging .lockoutTable 16).port 0).cursor = some ⟨.staging, .lockoutTable, 16⟩ ∧
    TableId.lockoutTable.first + TableId.lockoutTable.entries ≤ 17 ∧
    16 < TableId.lockoutTable.first + TableId.lockoutTable.entries ∧
    ([1, 2, 3] : List Byte).length = TableId.lockoutTable.recordLength ∧
    (s0.banks.staging.write .lockoutTable 16 [1, 2, 3]).isSome = true ∧
    s0.banks.staging.write .lockoutTable 16 [1, 13, 3] = none := by decide

theorem witness_WrittenRecordReadsBack : ∃ b', Bank.empty.write .coilTable 63 [1, 0, 1, 3] = some b' := ⟨_, rfl⟩

theorem witness_WrittenRecordReadsBack_counted :
    (Bank.empty.write .preferenceLists 16 [2, 1, 255, 9, 9]).map (fun b => b.record .preferenceLists 16) =
      some [2, 1, 255, 0, 0] ∧
    (Bank.empty.write .pathTable 96 [1, 1, 0xBF, 0x40, 0, 0, 0, 0]).map (fun b => b.record .pathTable 96) =
      some [1, 1, 0xBF, 0, 0, 0, 0, 0] ∧
    (Bank.empty.write .pathTable 1 [0, 9, 0x40, 1, 1, 1, 1, 1]).map (fun b => b.record .pathTable 1) =
      some [0, 0, 0, 0, 0, 0, 0, 0] ∧
    Bank.empty.write .pathTable 97 [0, 0, 0, 0, 0, 0, 0, 0] = none := by decide +kernel

theorem witness_QueriesOnlyReport :
    (framed s0 0x06 [1, 6]).handlerNext = some (0, ⟨0x06, [1, 6]⟩) ∧ (6 : Byte).toNat = (5 : Pos).val + 1 ∧
    (framed s0 0x06 [2, 16]).handlerNext = some (0, ⟨0x06, [2, 16]⟩) ∧ (16 : Byte).toNat = (15 : Ant).val + 1 ∧
    (framed s0 0x06 [3, 0]).handlerNext = some (0, ⟨0x06, [3, 0]⟩) ∧
    (framed s0 0x06 [5, 0]).handlerNext = some (0, ⟨0x06, [5, 0]⟩) ∧
    (framed s0 0x06 [6, 63]).handlerNext = some (0, ⟨0x06, [6, 63]⟩) ∧ (63 : Byte).toNat = (63 : Coil).val := by decide

theorem witness_QueryLinkReportsAndClears : (framed s0 0x06 [4, 0]).handlerNext = some (0, ⟨0x06, [4, 0]⟩) := by decide

theorem witness_CommitAccepted :
    (framed s0 0x0A []).handlerNext = some (0, ⟨0x0A, []⟩) ∧ (committing s0).banks.pending = true ∧
    s0.banks.pending = false ∧ s0.banks.staging.inconsistency = none ∧ applyReady (committing s0) ∧
    ¬ applyReady (storing (committing s0)) ∧
    { bank with preferences := put bank.preferences 3 [17] }.inconsistency = some (.preferenceLists, 4) := by decide +kernel

theorem witness_CommitAccepted_offender :
    offends { bank with preferences := put bank.preferences 3 [17] } 1 .preferenceLists 4 :=
  .inl ⟨rfl, rfl, 3, by decide, 17, by decide, by decide⟩

theorem witness_DiscardStoreAndRestart :
    (framed s0 0x0B []).handlerNext = some (0, ⟨0x0B, []⟩) ∧ (framed s0 0x0C []).handlerNext = some (0, ⟨0x0C, []⟩) ∧
    (framed s0 0x10 []).handlerNext = some (0, ⟨0x10, []⟩) ∧ s0.store.state = .idle ∧
    (committing s0).banks.pending = true ∧ (storing s0).store.state ≠ .idle := by decide

theorem witness_StoreCompletionEndsStore :
    (storing s0).store.state = .writing bank 1 ∧ (storing s0).station.restartWaits = false ∧ applyReady (committing s0) ∧
    ¬ applyReady s0 ∧ s0.bank.diagnostics.mask.store = false ∧ (s0.port 0).notices.length ≤ 4 := by decide +kernel

theorem witness_CommitTimerAbandons :
    (committing s0).banks.pending = true ∧ (committing s0).banks.timer.isSome = true ∧
    ((waiting none (some 0)).context 0).transition = some (move none (some 0) .wait) ∧
    quietCondition (waiting none (some 0)) 0 (move none (some 0) .wait) ∧ (s0.context 0).transition = none := by decide

/-- R159, R188: an abandonment is told to a link with seven notices, and lost, with the flag set, on one with eight. -/
theorem test_commitTimer_told :
    ∃ t, exec .commitTimerExpiry (((committing s0).withPort 0 { s0.port 0 with notices := List.replicate 7 (.store true none) }
        ).withPort 1 { s0.port 1 with notices := List.replicate 8 (.store true none) }) = .next t ∧
      (t.port 0).notices.getLast? = some (.bank false (some 0) 0) ∧ (t.port 0).dropped = false ∧
      (t.port 1).notices = List.replicate 8 (.store true none) ∧ (t.port 1).dropped = true ∧
      (t.port 5).notices = [.bank false (some 0) 0] ∧ t.banks.due = false := ⟨_, rfl, by decide +kernel⟩

theorem witness_CommitApplyTakesBank :
    (committing s0).banks.due = true ∧ applyReady (committing s0) ∧ ¬ applyReady (storing (committing s0)) := by decide +kernel

/-- A commit of `b` is pending and due. -/
def committingBank (s : State) (b : Bank) : State :=
  { committing s with banks := { (committing s).banks with staging := b } }

/-- P1 reports 14200 kHz, is ROUTED to A1 over coil 3 and ON; the antenna records agree. -/
def aired : State :=
  withAntenna ((onAir .none).withClassRecord 0 ⟨.link, some 14200, none, none, some 0⟩) 0 ⟨[⟨0, .holding⟩], PosSet.empty⟩

theorem witness_CommitApply_places :
    heldConsistent (committing aired) ∧ placesConsistent (committing aired) ∧ onAirRouted (committing aired) ∧
    applyReady (committing aired) ∧ ((committing aired).key 0).state = .on ∧
    standsRouted (committing aired) 0 ∧ ¬ releasedAtApply (committing aired) 0 := by decide +kernel

/-- The bank with A1 not enabled, and with A1 covering no band. -/
def bankA1 (enabled : Bool) : Bank := { bank with antennas := put bank.antennas 0 ⟨enabled, 0, .exclusive, 2⟩ }

theorem witness_CommitApply_releases :
    releasedAtApply (committingBank aired (bankA1 false)) 0 ∧ ¬ releasedAtApply (committingBank aired (bankA1 true)) 0 ∧
    placesConsistent (committingBank aired (bankA1 false)) ∧
    covers (bankA1 true) 0 4 = false ∧
    bandOf (committingBank aired (bankA1 true)).banks.staging aired.blocks 0 = some 4 := by decide +kernel

/-- P1 and P2 are ROUTED to A2, reserved in that order, and both ON. -/
def sharing : State :=
  let s := withAntenna s0 1 ⟨[⟨0, .holding⟩, ⟨1, .holding⟩], PosSet.empty⟩
  let on (s : State) (p : Pos) : State :=
    (({ s with blocks := { s.blocks with gate := { s.blocks.gate with keys := put s.blocks.gate.keys p ⟨.on, none, none, true⟩ } }
      }).withClassRecord p ⟨.link, some 14200, none, none, some 0⟩).withContext p ⟨.routed, some 1, none, none, .follow, [], false⟩
  on (on s 0) 1

/-- The bank with both paths to A2 claiming nothing, A2 of this share class, and band 5 single-signal or not. -/
def bankA2 (share : ShareClass) (single : Bool) : Bank := { bank with
  antennas := put bank.antennas 1 ⟨true, 0xFFF, share, 2⟩
  attributes := put bank.attributes 4 single
  paths := put (put bank.paths (pathIndex 0 1) ⟨true, []⟩) (pathIndex 1 1) ⟨true, []⟩ }

theorem witness_CommitApply_trims :
    routeTrimmed (committingBank sharing (bankA2 .exclusive false)) 1 ∧
    ¬ routeLost (committingBank sharing (bankA2 .exclusive false)) 1 ∧
    ¬ releasedAtApply (committingBank sharing (bankA2 .exclusive false)) 0 ∧
    heldConsistent (committingBank sharing (bankA2 .exclusive false)) ∧
    placesConsistent (committingBank sharing (bankA2 .exclusive false)) := by decide +kernel

/-- Both lose their permits when the new bank marks their band single-signal. -/
theorem witness_CommitApply_conflict :
    ∃ t, exec .commitApply (committingBank sharing (bankA2 .split true)) = .next t ∧ conflictOnAir t 0 1 ∧
      (t.classRecord 0).entry = (sharing.classRecord 0).entry ∧ (t.classRecord 1).entry = (sharing.classRecord 1).entry ∧
      (t.key 0).state = .barred .singleSignal ∧ (t.key 1).state = .barred .singleSignal ∧
      onAirRouted (committingBank sharing (bankA2 .split true)) ∧
      placesConsistent (committingBank sharing (bankA2 .split true)) ∧
      ¬ releasedAtApply (committingBank sharing (bankA2 .split true)) 0 ∧
      ¬ releasedAtApply (committingBank sharing (bankA2 .split true)) 1 := ⟨_, rfl, by decide +kernel⟩

/-- P1 waits for A1, which it reserves, from none. -/
def reserving : State :=
  let s := withAntenna (waiting none (some 0)) 0 ⟨[⟨0, .reserving⟩], put PosSet.empty 0 true⟩
  { s with blocks := { s.blocks with image := { s.blocks.image with
    claims := put s.blocks.image.claims 0 ⟨[], [⟨3, true⟩]⟩ } } }

/-- The kept request of P1, which has no band, is refused with NO_BAND and P1 is IDLE again. -/
theorem witness_CommitApply_kept :
    ∃ t, exec .commitApply (committing reserving) = .next t ∧ ¬ followsAtApply (committing reserving) t 0 ∧
      selection t.view t.blocks 0 .byPreference = .refused .noBand ∧ (t.context 0).state = .idle ∧
      applyReady (committing reserving) ∧ placesConsistent (committing reserving) ∧ heldConsistent (committing reserving) ∧
      ((committing reserving).context 0).transition.map (fun tr => tr.cause.forced) = some false := ⟨_, rfl, by decide +kernel⟩

/-- With a band that the new bank gives another list, P1, IDLE, has a FOLLOW request. -/
theorem witness_CommitApply_follows :
    ∃ t, exec .commitApply (committingBank (s0.withClassRecord 0 ⟨.link, some 14200, none, none, some 0⟩)
        { bank with plan := put bank.plan 0 ⟨true, 14000, 14350, 4, 1⟩ }) = .next t ∧
      followsAtApply (committingBank (s0.withClassRecord 0 ⟨.link, some 14200, none, none, some 0⟩)
        { bank with plan := put bank.plan 0 ⟨true, 14000, 14350, 4, 1⟩ }) t 0 := ⟨_, rfl, by decide +kernel⟩

/-- P1 FAULTED with its fault release in WAIT, on A1. -/
def faultRelease : State :=
  withAntenna (s0.withContext 0 ⟨.faulted, some 0, some (move (some 0) none .wait .fault .routed), none, .follow, [], true⟩) 0
    ⟨[⟨0, .holding⟩], put PosSet.empty 0 true⟩

theorem witness_CommitApply_disables :
    ((disabled1 s0).bank.positions.get 0).enabled = false ∧
    placesConsistent (committingBank faultRelease (disabled1 s0).bank) ∧
    heldConsistent (committingBank faultRelease (disabled1 s0).bank) ∧
    applyReady (committingBank faultRelease (disabled1 s0).bank) ∧ (faultRelease.context 0).transition.map
      (fun tr => tr.cause.forced) = some true ∧
    placesConsistent (committingBank s0 (disabled1 s0).bank) ∧ (s0.context 0).state = .idle ∧
    placesConsistent (committingBank reserving (disabled1 s0).bank) := by decide +kernel

/-- The states in which a walk is owed agree on their waiting lists. -/
theorem witness_walks_gateConsistent :
    gateConsistent (inWait .none) ∧ gateConsistent (breaking none) ∧ gateConsistent (making none .open) ∧
    gateConsistent checking ∧ gateConsistent (withCoil3 (onAir .none) (some 10) .low .none) ∧
    gateConsistent (committing aired) :=
  ⟨gateConsistent_of_codes (by decide +kernel), gateConsistent_of_codes (by decide +kernel),
    gateConsistent_of_codes (by decide +kernel), gateConsistent_of_codes (by decide +kernel),
    gateConsistent_of_codes (by decide +kernel), gateConsistent_of_codes (by decide +kernel)⟩

/-- A band change in WAIT and one past WAIT. -/
theorem witness_entryChanged_inTransition :
    followsChange (inWait .none) 0 (some 0) ∧ ((inWait .none).context 0).transition =
      some (move (some 0) (some 1) .wait .request .routed) ∧
    followsChange (breaking (some 1)) 0 (some 0) ∧ ((breaking (some 1)).context 0).transition =
      some (move (some 0) (some 1) .brk) := by decide +kernel

theorem witness_FailSafeEntryClearsRoutes :
    (framed s0 0x0F []).handlerNext = some (0, ⟨0x0F, []⟩) ∧ s0.station.mode = .normal ∧ safe0.station.mode = .failsafe ∧
    (framed safe0 0x0F []).handlerNext = some (0, ⟨0x0F, []⟩) ∧
    { s0 with station := { s0.station with failEntryDue := true } }.station.failEntryDue = true ∧
    (s0.port 0).notices.length ≤ 4 := by decide

theorem witness_ResumeReturnsToNormal :
    (framed safe0 0x0E []).handlerNext = some (0, ⟨0x0E, []⟩) ∧ safe0.station.mode = .failsafe ∧ safe0.source ≠ .frozen ∧
    safe0.supply.level = .good ∧ safe0.banks.valid = true ∧ s0.station.mode ≠ .failsafe := by decide

/-- An image of the small bank that checks. -/
theorem witness_LoadCompletion_imageChecks (s : State) :
    { s with store := ⟨.written bank (Config.imageCheckWord bank.bytes), .idle⟩ }.store.image.loaded = some bank :=
  if_pos rfl

theorem witness_LoadCompletionStartsStation :
    State.reset.store.image.loaded = none ∧ State.reset.startUp = true ∧ State.reset.station.mode = .starting ∧
    s0.station.mode ≠ .starting ∧ (s0.port 0).notices.length ≤ 4 ∧
    (withKR1 State.reset true).pins.keys.get 0 = true := by decide

theorem witness_ResetsOfEveryKind :
    s0.pins.resetLow = false ∧ { s0.pins with resetLow := true }.resetLow = true ∧ s0.store.state = .idle ∧
    (storing s0).store.state = .writing bank 1 ∧ ({ s0.port 0 with transmitter := .sendingReply } : Port).transmitter =
      .sendingReply ∧ (put s0.station.restartDue 0 true).get 0 = true ∧
    { s0.station with restartWaits := true }.restartWaits = true := by decide

/-! ### Ends of transitions, places, and what the links are told -/

/-- A commit is pending and not yet due. -/
def committingLater (s : State) : State := { committing s with banks := { (committing s).banks with due := false } }

/-- P2 in BREAK, leaving A2. -/
def alsoBreaking (s : State) : State :=
  s.withContext 1 ⟨.switching, some 1, some (move (some 1) none .brk), none, .follow, [], false⟩

/-- R81, R158, R171: the end of the last transition, and fail-safe entry, make a pending commit due; an end with another transition
in BREAK does not. -/
theorem test_ends_makeApplyDue :
    (∃ t, exec (.breakExpiry 0) (committingLater (breaking none)) = .next t ∧ t.banks.due = true ∧ applyReady t) ∧
    (∃ t, exec (.breakExpiry 0) (committingLater (alsoBreaking (breaking none))) = .next t ∧ t.banks.due = false ∧
      ¬ applyReady t) ∧
    (∃ t, exec (.makeExpiry 0) (committingLater (making none .none)) = .next t ∧ t.banks.due = true) ∧
    (∃ t, exec (.makeExpiry 0) (committingLater (making none .open)) = .next t ∧ t.banks.due = true) ∧
    (∃ t, exec (.blankExpiry 3) (committingLater checking) = .next t ∧ t.banks.due = true) ∧
    (∃ t, exec (.forceSafe 0 []) (framed (committingLater (breaking none)) 0x0F []) = .next t ∧ t.banks.due = true) ∧
    (∃ t, exec (.supplyEvent 80) (committingLater (breaking none)) = .next t ∧ t.banks.due = true) :=
  ⟨⟨_, rfl, by decide +kernel⟩, ⟨_, rfl, by decide +kernel⟩, ⟨_, rfl, by decide +kernel⟩, ⟨_, rfl, by decide +kernel⟩,
    ⟨_, rfl, by decide +kernel⟩, ⟨_, rfl, by decide +kernel⟩, ⟨_, rfl, by decide +kernel⟩⟩

theorem witness_BlankExpiry_checkDone :
    checkDone checking 0 3 ∧ ¬ latchesShort checking 3 ∧ ∀ p : Pos, ¬ checkDone (withCoil3 s0 (some 10) .normal .none) p 3 := by
  decide +kernel

/-- R39, R75, R77: a reservation joins at the end of the places of its antenna, and becomes a holding at the place it has. -/
theorem test_places_keepOrder :
    (∃ t, exec (.route 0 [2]) (framed (withAntenna s0 1 ⟨[⟨1, .holding⟩], PosSet.empty⟩) 0x02 [2]) = .next t ∧
      (t.antenna 1).occupants = [⟨1, .holding⟩, ⟨0, .reserving⟩]) ∧
    ∃ t, exec (.breakExpiry 0) (withAntenna (withAntenna (breaking (some 1)) 0 ⟨[⟨0, .holding⟩], put PosSet.empty 0 true⟩) 1
        ⟨[⟨0, .reserving⟩, ⟨1, .holding⟩], put PosSet.empty 0 true⟩) = .next t ∧ (t.antenna 0).occupants = [] ∧
      (t.antenna 1).occupants = [⟨0, .holding⟩, ⟨1, .holding⟩] :=
  ⟨⟨_, rfl, by decide +kernel⟩, ⟨_, rfl, by decide +kernel⟩⟩

/-! ### What a latch, an end of CHECK and a withdrawal do to the other positions -/

/-- The bank with a path of P2 to A1 over coil 5. -/
def bankTwo : Bank := { bank with paths := put bank.paths (pathIndex 1 0) ⟨true, [⟨5, true⟩]⟩ }

/-- P2 holds a request for A1, behind those of `before` in the held list, on that bank. -/
def behindA1 (s : State) (before : List Pos) : State :=
  withHeld ({ s with banks := { s.banks with active := bankTwo } }.withContext 1
    ⟨.idle, none, none, some ⟨.antenna 0, .held, .request⟩, .follow, [], false⟩) (before ++ [1])

/-- P1 in CHECK on A1 over coil 3, of this latch, with a request for A2 latched; P2 holds one for A1. -/
def checkingLatched (latch : Latch) : State :=
  behindA1 (withAntenna (withCoil3 (withClaim (withP1 s0 .switching (some 0) (some (move none (some 0) .check))
    (some ⟨.antenna 1, .latched, .request⟩))) (some 10) .normal latch) 0 ⟨[⟨0, .holding⟩], put PosSet.empty 0 true⟩) []

theorem witness_BlankExpiry_latchedStarts (latch : Latch) :
    (checkingLatched latch).station.mode = .normal ∧ heldConsistent (checkingLatched latch) ∧
    placesConsistent (checkingLatched latch) ∧ onAirRouted (checkingLatched latch) ∧
    reservedInTransition (checkingLatched latch) ∧ checkEndsHere (checkingLatched latch) 0 3 ∧
    (checkFailsHere (checkingLatched latch) 0 3 ↔ latch ≠ .none) ∧ (walkAtBlank (checkingLatched latch) 3 ↔ latch ≠ .none) ∧
    ((checkingLatched latch).bank.positions.get 0).enabled = true ∧
    ((checkingLatched latch).context 0).slot = some ⟨.antenna 1, .latched, .request⟩ ∧
    actedOnAtBlank (checkingLatched latch) 3 0 ∧ ¬ actedOnAtBlank (checkingLatched latch) 3 1 := by
  cases latch <;> decide +kernel

/-- R51, R54, R80, R81: the latched request of P1 starts at the end of its CHECK; where that fails, P2 has A1 by the held walk. -/
theorem test_blankExpiry_latchedStarts :
    (∃ t, exec (.blankExpiry 3) (checkingLatched .none) = .next t ∧
      t.context 0 = ⟨.switching, some 0, some (waitRecord bankTwo (some 0) (some 1) (.antenna 1) .request .routed true), none,
        .follow, [], false⟩ ∧
      (t.port 0).notices = [routeNotice t.blocks 0 .routed (some (.accepted .started))] ∧ t.held = [1] ∧
      (t.antenna 1).occupants = [⟨0, .reserving⟩]) ∧
    ∃ t, exec (.blankExpiry 3) (checkingLatched .open) = .next t ∧
      t.context 0 = ⟨.switching, none, some (waitRecord bankTwo none (some 1) (.antenna 1) .request .faulted true), none,
        .follow, [], false⟩ ∧
      (t.port 0).notices = [routeNotice t.blocks 0 .fault (some (.accepted .started))] ∧ t.held = [] ∧
      (t.antenna 0).occupants = [⟨1, .reserving⟩] ∧ (t.antenna 1).occupants = [⟨0, .reserving⟩] ∧
      (t.port 1).notices = [routeNotice t.blocks 1 .heldSelected (some (.accepted .started))] :=
  ⟨⟨_, rfl, by decide +kernel⟩, ⟨_, rfl, by decide +kernel⟩⟩

/-- P1, ROUTED to A1 over coil 3 and ON, holds a request, and P2 a younger one for A1. -/
def onAirHolding : State :=
  behindA1 (aired.withContext 0 ⟨.routed, some 0, none, some ⟨.antenna 2, .held, .request⟩, .follow, [], false⟩) [0]

theorem witness_SenseEvent_heldLatched :
    faultedBy onAirHolding 0 3 ∧ walkAtLatch onAirHolding 3 ∧ heldConsistent onAirHolding ∧ reservedInTransition onAirHolding ∧
    onAirRouted onAirHolding ∧ placesConsistent onAirHolding ∧ judged onAirHolding 3 ∧ ¬ faultedBy onAirHolding 1 3 ∧
    ¬ walkAtLatch aired 3 ∧
    walkAtBlank ((onAirHolding.withCoil 3 ⟨false, true, false, some 10, true⟩).withSense 3 ⟨0, .low, .none⟩) 3 := by
  decide +kernel

/-- R53, R58, R116: the latch faults P1, whose HELD request becomes LATCHED; the walk keeps that of P2. -/
theorem test_senseEvent_heldLatched :
    ∃ t, exec (.senseEvent 3 0) onAirHolding = .next t ∧ (t.context 0).state = .faulted ∧
      (t.context 0).slot = some ⟨.antenna 2, .latched, .request⟩ ∧ t.held = [1] ∧ t.context 1 = onAirHolding.context 1 ∧
      t.key 0 = ⟨.barred .fault, some 50, none, false⟩ := ⟨_, rfl, by decide +kernel⟩

/-- P1, ON on A2, which P6 waits to leave, under tail time 0. -/
def holdingUp : State :=
  noTail ((withAntenna (keyed s0 0 .routed (some 1) ⟨.on, none, none, true⟩) 1
    ⟨[⟨0, .holding⟩, ⟨5, .holding⟩], put PosSet.empty 5 true⟩).withContext 5
      ⟨.switching, some 1, some { move (some 1) none .wait .request .routed with due := false }, none, .follow, [], false⟩)

/-- R71, R130: the withdrawal of P1 makes the transition of P6 due, and leaves the other four as they were. -/
theorem witness_othersKept :
    ∃ t, exec (.release 0 []) (framed holdingUp 0x04 []) = .next t ∧
      dueByWithdrawal (framed holdingUp 0x04 []) t 5 { move (some 1) none .wait .request .routed with due := false } ∧
      (t.context 5).transition.map Transition.due = some true ∧ heldConsistent (framed holdingUp 0x04 []) ∧
      othersKept (framed holdingUp 0x04 []) t (ownOrWalked (framed holdingUp 0x04 []) 0 False) := ⟨_, rfl, by decide +kernel⟩

/-- P1, in FOLLOW with band 5, ends a commit release with this request latched; P1 is enabled or not. -/
def commitRelease (enabled : Bool) (slot : Option PendingRequest) : State :=
  let s := withRecord (withP1 s0 .switching (some 0) (some (move (some 0) none .brk .commit .routed)) slot) .link (some 0)
  if enabled then s else disabled1 s

theorem witness_BreakExpiry_commitRelease (enabled : Bool) :
    ((commitRelease enabled none).bank.positions.get 0).enabled = enabled ∧ ((commitRelease enabled none).classRecord 0).entry ≠ none ∧
    ((commitRelease enabled none).context 0).mode = .follow ∧ heldConsistent (commitRelease enabled none) ∧
    reservedInTransition (commitRelease enabled none) ∧
    heldConsistent (commitRelease enabled (some ⟨.antenna 2, .latched, .request⟩)) := by cases enabled <;> decide

/-- R51, R61, R82: not enabled, P1 ends DISABLED, its latched request refused; enabled, a latched request that starts nothing is
answered, and the FOLLOW request follows; one that starts stands. -/
theorem test_commitRelease_ends :
    (∃ t, exec (.breakExpiry 0) (commitRelease false none) = .next t ∧ (t.context 0).state = .disabled ∧
      (t.port 0).notices = [routeNotice t.blocks 0 .released none]) ∧
    (∃ t, exec (.breakExpiry 0) (commitRelease false (some ⟨.antenna 1, .latched, .request⟩)) = .next t ∧
      (t.context 0).state = .disabled ∧ (t.context 0).slot = none ∧
      (t.port 0).notices = [routeNotice t.blocks 0 .released (some (.refused .disabled))]) ∧
    (∃ t, exec (.breakExpiry 0) (commitRelease true (some ⟨.antenna 2, .latched, .request⟩)) = .next t ∧
      selection t.view t.blocks 0 (.antenna 2) = .refused .noPath ∧
      (t.context 0).transition.map Transition.cause = some .follow ∧
      (t.port 0).notices = [routeNotice t.blocks 0 .released (some (.refused .noPath))]) ∧
    (∃ t, exec (.breakExpiry 0) (commitRelease true (some ⟨.release, .latched, .request⟩)) = .next t ∧
      selection t.view t.blocks 0 .release = .current ∧ (t.context 0).transition.map Transition.cause = some .follow) ∧
    ∃ t, exec (.breakExpiry 0) (commitRelease true (some ⟨.antenna 1, .latched, .request⟩)) = .next t ∧
      (t.context 0).transition.map (fun tr => (tr.cause, tr.target)) = some (.request, some 1) :=
  ⟨⟨_, rfl, by decide +kernel⟩, ⟨_, rfl, by decide +kernel⟩, ⟨_, rfl, by decide +kernel⟩, ⟨_, rfl, by decide +kernel⟩,
    ⟨_, rfl, by decide +kernel⟩⟩

/-- R59, R62: a band change in WAIT finds A1 current; the abandonment is told FOLLOW, and FAULT over a latched coil. -/
theorem test_bandReport_inWait :
    (∃ t, exec (.bandReport 0 [0x37, 0x78]) (framed (inWait .none) 0x01 [0x37, 0x78]) = .next t ∧
      ¬ abandonedIntoFault .current (inWait .none) 0 (move (some 0) (some 1) .wait .request .routed) ∧
      (t.context 0).state = .routed ∧ (t.port 0).notices = [routeNotice t.blocks 0 .follow (some (.accepted .unchanged))]) ∧
    ∃ t, exec (.bandReport 0 [0x37, 0x78]) (framed (inWait .open) 0x01 [0x37, 0x78]) = .next t ∧
      abandonedIntoFault .current (inWait .open) 0 (move (some 0) (some 1) .wait .request .routed) ∧
      (t.context 0).state = .faulted ∧ (t.port 0).notices = [routeNotice t.blocks 0 .fault none] :=
  ⟨⟨_, rfl, by decide +kernel⟩, ⟨_, rfl, by decide +kernel⟩⟩

theorem witness_SupplyEvent_starting :
    (starting s0).station.mode = .starting ∧ (starting s0).supply.converted = true ∧ State.reset.supply.converted = false ∧
    State.reset.pins.resetLow = false ∧ State.reset.bank = Bank.empty ∧ registersAgree State.reset ∧
    { State.reset.pins with resetLow := true }.resetLow = true := by decide +kernel

/-- R123, R124: in STARTING the first conversion sets the level without hysteresis, a later one with it; no link is told. -/
theorem test_supplyEvent_starting :
    ∃ t u, exec (.supplyEvent 109) State.reset = .next t ∧ exec (.supplyEvent 112) t = .next u ∧
      t.supply = ⟨109, .low, true⟩ ∧ u.supply = ⟨112, .low, true⟩ ∧ u.ports = State.reset.ports ∧
      u.blocks = State.reset.blocks := ⟨_, _, rfl, rfl, rfl, rfl, rfl, rfl⟩

/-- The new bank raises the LOW threshold above the supply and marks band 5 single-signal; a fail entry was due. -/
def applyingLow : State :=
  let s := committingBank sharing { bankA2 .split true with diagnostics := { bank.diagnostics with supplyLow := 140 } }
  { s with station := { s.station with failEntryDue := true } }

/-- R147, R152, R165: the links of P1 and P2 are told WITHDRAWN with the conflicting position, every link of the fall to LOW, and the
entry that was due stays due. -/
theorem test_commitApply_told :
    ∃ t, exec .commitApply applyingLow = .next t ∧ t.supply.level = .low ∧ t.station.failEntryDue = true ∧
      (t.port 0).notices = [t.keyTold 0 .withdrawn (some 1), .supplyFault false (some .good) .low 138, .bank true (some 0) 0] ∧
      (t.port 1).notices = [t.keyTold 1 .withdrawn (some 0), .supplyFault false (some .good) .low 138, .bank true (some 0) 0] ∧
      (t.port 5).notices = [.supplyFault false (some .good) .low 138, .bank true (some 0) 0] ∧
      placesConsistent applyingLow ∧ onAirRouted applyingLow ∧ gateConsistent applyingLow :=
  ⟨_, rfl, by decide +kernel, by decide +kernel, by decide +kernel, by decide +kernel, by decide +kernel, by decide +kernel,
    by decide +kernel, gateConsistent_of_codes (by decide +kernel)⟩

/-- The station in FAILSAFE whose fail-safe selection names SA for coil 5 and ON for coil 6, SA high. -/
def selecting : State := { safe0 with
  pins := { safe0.pins with sa := true }
  banks := { safe0.banks with active := { bank with
    coils := put (put bank.coils 5 { bank.coils.get 5 with failSafe := .sa }) 6 { bank.coils.get 6 with failSafe := .on } } } }

/-- Under FROZEN coil 3, latched ON. -/
def frozenAired : State :=
  let s := aired.withCoil 3 { aired.coil 3 with frozen := true }
  { s with blocks := { s.blocks with image := { s.blocks.image with source := .frozen } } }

/-- Each row of R96's table is met: a claimed and an unclaimed coil under ROUTING, SAFE by its value and by SA, FROZEN, none, and a
tripped coil. -/
theorem witness_StepKeepsCommandedDerived_table :
    claimsLawful aired ∧ commandedDerived aired ∧ aired.source = .routing ∧ (aired.coil 3).trip = false ∧
    (⟨3, true⟩ : Claim) ∈ (aired.claims 0).effective ∧ (aired.coil 3).commanded = true ∧ (∀ p : Pos, ¬ claimsCoil aired p 4) ∧
    selecting.source = .safe ∧ composedValue selecting.view selecting.blocks 5 = true ∧
    composedValue selecting.view selecting.blocks 6 = true ∧ composedValue selecting.view selecting.blocks 7 = false ∧
    State.reset.source = .none ∧ composedByTable State.reset 3 false ∧
    frozenAired.source = .frozen ∧ composedValue frozenAired.view frozenAired.blocks 3 = true ∧
    derivedValue aired.view (aired.withCoil 3 ⟨false, false, true, none, false⟩).blocks 3 = false := by decide +kernel

/-- R123, R125, R170: what a fall to FAIL tells the links in NORMAL, and in FAILSAFE. -/
theorem test_supplyFail_told :
    (∃ t, exec (.supplyEvent 80) s0 = .next t ∧ (t.port 5).notices =
      [.supplyFault true (some .good) .fail 80, causeNotice .entered ⟨false, true, false⟩ .safe 2]) ∧
    ∃ t, exec (.supplyEvent 80) safe0 = .next t ∧ (t.port 5).notices =
      [.supplyFault true (some .good) .fail 80, causeNotice .causeAdded ⟨false, true, true⟩ .safe 2] :=
  ⟨⟨_, rfl, by decide +kernel⟩, ⟨_, rfl, by decide +kernel⟩⟩

/-- R125: the rise to GOOD is told, with the level before it; a rise out of FAIL has the kind SUPPLY_FAIL. -/
theorem test_supplyGood_told :
    (∃ t, exec (.supplyEvent 138) { s0 with supply := ⟨105, .low, true⟩ } = .next t ∧
      (t.port 5).notices = [.supplyFault false (some .low) .good 138]) ∧
    ∃ t, exec (.supplyEvent 138) { safe0 with supply := ⟨80, .fail, true⟩ } = .next t ∧
      (t.port 5).notices = [.supplyFault true (some .fail) .good 138] :=
  ⟨⟨_, rfl, by decide +kernel⟩, ⟨_, rfl, by decide +kernel⟩⟩

/-- FAILSAFE under FROZEN: the tail of P1 runs. -/
def draining : State := withKey1 { safe0 with
  blocks := { safe0.blocks with image := { safe0.blocks.image with source := .frozen } } } ⟨.barred .failsafe, some 50, none, false⟩

theorem witness_TailExpiry_drain :
    draining.source = .frozen ∧ (draining.key 0).tail.isSome = true ∧ (∀ q : Pos, q ≠ 0 → (draining.key q).tail = none) ∧
    (1 : Pos) ∉ draining.waiting ∧ ((draining.withKey 1 ⟨.barred .failsafe, some 50, none, false⟩).key 1).tail.isSome = true := by
  decide +kernel

/-- R101, R173: the end of the last tail is told SAFE; an earlier one tells nothing and moves no coil. -/
theorem test_drain_told :
    (∃ t, exec (.tailExpiry 0) draining = .next t ∧ t.source = .safe ∧
      (t.port 5).notices = [.station .safe .failsafe ⟨false, false, true⟩ .safe 0 false]) ∧
    ∃ t, exec (.tailExpiry 0) (draining.withKey 1 ⟨.barred .failsafe, some 50, none, false⟩) = .next t ∧
      t.source = .frozen ∧ (t.port 5).notices = [] :=
  ⟨⟨_, rfl, by decide +kernel⟩, ⟨_, rfl, by decide +kernel⟩⟩

/-- P1, in FAILSAFE, has band 5 and its key down, BARRED; RESUME comes. -/
def resuming : State :=
  framed (withKR1 (withKey1 (withRecord safe0 .link (some 0)) ⟨.barred .failsafe, none, none, false⟩) true) 0x0E []

theorem witness_Resume_follows :
    quietUnlessNormal resuming ∧ quietUnlessNormal (framed safe0 0x0E []) ∧ (resuming.bank.positions.get 0).enabled = true ∧
    (resuming.bank.positions.get 0).defaultMode = .follow ∧ (resuming.classRecord 0).entry ≠ none ∧
    (resuming.classRecord 1).entry = none ∧ resuming.handlerNext = some (0, ⟨0x0E, []⟩) := by decide +kernel

/-- R30, R150, R174: RESUME raises the FOLLOW request of P1, tells its link, and leaves its key BARRED. -/
theorem test_resume_follows :
    ∃ t, exec (.resume 0 []) resuming = .next t ∧ t.key 0 = resuming.key 0 ∧ (t.context 0).state = .switching ∧
      (t.antenna 0).occupants = [⟨0, .reserving⟩] ∧ (t.port 0).notices =
        [.station .resumed .normal ⟨false, false, false⟩ .routing 1 false,
          routeNotice t.blocks 0 .follow (some (.accepted .started))] ∧
      (t.port 1).notices = [.station .resumed .normal ⟨false, false, false⟩ .routing 1 false] := ⟨_, rfl, by decide +kernel⟩

/-- R123, R149, R150: a LOW start tells the level and STARTED, and, with no image that checks, bars the key that is down. -/
theorem test_load_low :
    ∃ t, exec .loadCompletion { withKR1 State.reset true with supply := ⟨100, .good, false⟩ } = .next t ∧
      t.supply = ⟨100, .low, true⟩ ∧ t.key 0 = ⟨.barred .failsafe, none, none, false⟩ ∧ t.waiting = [] ∧
      (t.port 5).notices = [.supplyFault false none .low 100,
        .station .started .failsafe ⟨true, false, false⟩ .safe 1 false] := ⟨_, rfl, by decide +kernel⟩

theorem witness_StepKeepsOnAirRouted_airClear :
    onAirRouted { aired with pending := [.keyUp 0] } ∧ airClear { aired with pending := [.keyUp 0] } ∧
    (aired.key 0).permit = true ∧ airClear (breaking (some 1)) ∧ (move (some 0) (some 1) .brk).phase ≠ .wait := by decide +kernel

/-- A command that changes the state of a NORMAL station waits: the key of P1, ROUTED over coil 3, goes down. -/
def busy : State := { withRecord (withP1 s0 .routed (some 0) none) .link none with pending := [.keyDown 0] }

theorem witness_StepKeeps : ∃ t, step busy = .next t ∧ t ≠ busy := ⟨_, rfl, by decide⟩
theorem witness_StepKeepsRegistersAgree : registersAgree busy := by decide
theorem witness_StepKeepsQueuesBounded : queuesBounded busy := by decide
theorem witness_StepKeepsDriversFollow : driversFollow busy := by decide +kernel
theorem witness_StepKeepsCommandedDerived : commandedDerived busy := by decide +kernel
theorem witness_StepKeeps_banksConsistent : banksConsistent busy :=
  ⟨by decide +kernel, by decide, by decide, fun _ _ h => (nomatch h)⟩
theorem witness_StepKeeps_claimsLawful : claimsLawful busy := by decide +kernel
theorem witness_StepKeeps_groupsSettled : groupsSettled busy := by decide +kernel
theorem witness_StepKeeps_placesConsistent : placesConsistent { aired with pending := [.keyUp 0] } ∧
    heldConsistent { aired with pending := [.keyUp 0] } ∧ quietUnlessNormal { aired with pending := [.keyUp 0] } := by
  decide +kernel
theorem witness_StepKeepsNoConflictOnAir : noConflictOnAir busy := by decide
theorem witness_StepKeepsOnAirRouted : onAirRouted busy := by decide
theorem witness_StepKeepsHeldConsistent : heldConsistent busy := by decide
theorem witness_StepKeepsQuietUnlessNormal : quietUnlessNormal busy := by decide
theorem witness_StepKeepsEntriesDerived : entriesDerived busy := by decide
theorem witness_StepKeepsGateConsistent : gateConsistent busy :=
  have up : ∀ p : Pos, (busy.key p).state = .up := by decide
  ⟨fun p => ⟨by revert p; decide, fun h => (nomatch h), fun ⟨_, h⟩ => by rw [up p] at h; cases h⟩, by decide, by decide⟩

end Sys2Proof.Tests
end

/-!
SUPPORT. Searches in ascending order: what `find?` over an index range finds, in the words of the statements (`lowest`).
-/
namespace Sys2Proof.Proofs.FirstIndex
open Sys2Proof Sys2Proof.Machine

/-! ### The lowest index that meets a test -/

/-- A search in ascending order finds the lowest index that meets the test. -/
theorem find_finRange_eq_some {n : Nat} {f : Fin n → Bool} {i : Fin n} :
    (List.finRange n).find? f = some i ↔ f i = true ∧ ∀ j < i, f j = false := by
  rw [← Fin.find?_eq_find?_finRange, Fin.find?_eq_some_iff]

/-- A search in ascending order finds nothing when no index meets the test. -/
theorem find_finRange_eq_none {n : Nat} {f : Fin n → Bool} :
    (List.finRange n).find? f = none ↔ ∀ i, f i = false := by
  rw [← Fin.find?_eq_find?_finRange, Fin.find?_eq_none_iff]

/-- The position a search finds is the lowest one of which the property it tests is true. -/
theorem find_positions_eq_some {f : Pos → Bool} {P : Pos → Prop} (h : ∀ q, f q = true ↔ P q) {q : Pos} :
    positions.find? f = some q ↔ lowest P q := by
  simp only [positions, find_finRange_eq_some, lowest, ← h, Bool.not_eq_true]

/-- A search over the positions finds none when the property it tests is true of none. -/
theorem find_positions_eq_none {f : Pos → Bool} {P : Pos → Prop} (h : ∀ q, f q = true ↔ P q) :
    positions.find? f = none ↔ ∀ q, ¬ P q := by
  simp only [positions, find_finRange_eq_none, ← h, Bool.not_eq_true]

end Sys2Proof.Proofs.FirstIndex

/-!
SUPPORT. A request row whose frame is taken: the take and the reply together are `State.answered`.
-/
namespace Sys2Proof.Proofs.Take
open Sys2Proof Sys2Proof.Machine

/-! ### A frame taken and answered (R186) -/

/-- An entry replaced twice is replaced by the later one. -/
@[simp] theorem put_put {α : Type} {n : Nat} (v : Vector α n) (i : Fin n) (x y : α) : put (put v i x) i y = put v i y := by
  apply vector_ext
  intro j
  simp only [put_get]
  split <;> rfl

/-- A take whose reply is placed is a frame answered (R186). -/
theorem placeReply_take (s : State) (lp : Pos) (cls : Byte) (r : Result) :
    (s.take lp).placeReply lp cls r = s.answered lp cls r := by
  simp [State.placeReply, State.setPort, State.take, State.answered]

/-- A request row that only answers changes nothing else (R186). -/
theorem handle_answered {s : State} {lp : Pos} {cls : Byte} {body : List Byte} {f : State → State × Result} {r : Result}
    (h : s.handlerNext = some (lp, ⟨cls, body⟩)) (answer : f (s.take lp) = (s.take lp, r)) :
    s.handle lp cls body f = s.answered lp cls r := by
  rw [handle_taken f h, answer, placeReply_take]

end Sys2Proof.Proofs.Take

/-!
COMMIT (O41). The offender of a bank is found by six searches, each for the lowest index that fails its check (R19); the
four answers of the row come from the cases of `State.commit`.
-/
namespace Sys2Proof.Proofs.Commit
open Sys2Proof Sys2Proof.Machine Sys2Proof.Proofs.FirstIndex Sys2Proof.Proofs.Take

/-! ### The offender of a check (R19) -/

/-- Index `i` of table `u` is the number of an entry of table `t` that the test `ok` fails. -/
def failsAt {n : Nat} (t : TableId) (ok : Fin n → Bool) (u : TableId) (i : Nat) : Prop :=
  u = t ∧ ∃ k : Fin n, i = t.first + k.val ∧ ok k = false

theorem offender_eq_none {n : Nat} {t : TableId} {ok : Fin n → Bool} :
    offender t ok = none ↔ ∀ u i, ¬ failsAt t ok u i := by
  simp only [offender, Option.map_eq_none_iff, find_finRange_eq_none, failsAt]
  constructor
  · rintro pass u i ⟨-, k, -, fail⟩
    exact absurd (pass k) (by simp [fail])
  · intro clean k
    by_contra fail
    exact clean t _ ⟨rfl, k, rfl, by simpa using fail⟩

/-- The offender is the lowest index that fails the test (R19). -/
theorem offender_eq_some {n : Nat} {t u : TableId} {ok : Fin n → Bool} {i : Nat} :
    offender t ok = some (u, i) ↔ failsAt t ok u i ∧ ∀ m, m < i → ¬ failsAt t ok u m := by
  simp only [offender, Option.map_eq_some_iff, find_finRange_eq_some, Prod.mk.injEq, failsAt]
  constructor
  · rintro ⟨k, ⟨fail, least⟩, rfl, rfl⟩
    refine ⟨⟨rfl, k, rfl, by simpa using fail⟩, ?_⟩
    rintro m lt ⟨-, j, rfl, failj⟩
    have below := least j (Fin.lt_def.2 (by omega))
    simp [failj] at below
  · rintro ⟨⟨rfl, k, rfl, fail⟩, least⟩
    refine ⟨k, ⟨by simp [fail], fun j lt => ?_⟩, rfl, rfl⟩
    by_contra failj
    exact least _ (Nat.add_lt_add_left lt _) ⟨rfl, j, rfl, by simpa using failj⟩

/-! ### The six checks -/

theorem preferenceConsistent_eq_false {l : List Nat} : preferenceConsistent l = false ↔ ∃ n ∈ l, n < 1 ∨ 16 < n := by
  simp [preferenceConsistent, Nat.lt_iff_add_one_le, imp_iff_not_or]

theorem antenna_consistent_eq_false {e : AntennaEntry} :
    e.consistent = false ↔ e.share = .split ∧ (e.branchLimit < 2 ∨ 4 < e.branchLimit) := by
  cases h : e.share with
  | exclusive => simp [AntennaEntry.consistent, h]
  | split => simp [AntennaEntry.consistent, h]; omega

theorem path_consistent_eq_false {e : PathEntry} :
    e.consistent = false ↔ e.defined = true ∧ ¬ (e.claims.map Claim.coil).Nodup := by
  simp [PathEntry.consistent]

theorem lineCodeConsistent_eq_false {e : Option Nat} : lineCodeConsistent e = false ↔ ∃ n ∈ e, n < 1 ∨ 24 < n := by
  cases e with
  | none => simp [lineCodeConsistent]
  | some n => simp [lineCodeConsistent]; omega

/-- The paths in the order of the Path Table are those of the pairs (position, antenna) (R12). -/
theorem exists_path_iff {b : Bank} {P : Nat → PathEntry → Prop} :
    (∃ k : Fin 96, P (k.val + 1) (b.paths.get k)) ↔
      ∃ (p : Pos) (a : Ant), P (p.val * 16 + a.val + 1) (path b p a) := by
  constructor
  · rintro ⟨k, h⟩
    have index : pathIndex ⟨k.val / 16, by omega⟩ ⟨k.val % 16, by omega⟩ = k := Fin.ext (by simp [pathIndex]; omega)
    refine ⟨⟨k.val / 16, by omega⟩, ⟨k.val % 16, by omega⟩, ?_⟩
    rw [path, index]
    simpa [Nat.div_add_mod' k.val 16] using h
  · rintro ⟨p, a, h⟩
    exact ⟨pathIndex p a, h⟩

/-- The offender of the check with number `k + 1` of R19. -/
def checkOffender (b : Bank) : Fin 6 → Option (TableId × Nat)
  | 0 => offender .preferenceLists fun i => preferenceConsistent (b.preferences.get i)
  | 1 => offender .antennaTable fun i => (b.antennas.get i).consistent
  | 2 => offender .pathTable fun i => (b.paths.get i).consistent
  | 3 => offender .diagnosticSetup fun _ : Fin 1 => decide (b.diagnostics.supplyFail < b.diagnostics.supplyLow)
  | 4 => offender .diagnosticSetup fun _ : Fin 1 =>
      decide (b.diagnostics.openLimit < b.diagnostics.t0 ∧ b.diagnostics.openLimit < b.diagnostics.t1)
  | 5 => offender .lineCodeMap fun i => lineCodeConsistent (b.lineCodes.get i)

/-- A bank's inconsistency is the offender of the first check that has one (R19). -/
theorem inconsistency_eq_findSome (b : Bank) : b.inconsistency = Fin.findSome? (checkOffender b) := by
  simp [Fin.findSome?_succ, Bank.inconsistency, checkOffender]

/-- Each check of R19 looks for the lowest index of its table that fails it. -/
theorem checkOffender_searches (b : Bank) (k : Fin 6) :
    ∃ (n : Nat) (t : TableId) (ok : Fin n → Bool), checkOffender b k = offender t ok ∧
      ∀ u i, failsAt t ok u i ↔ offends b (k.val + 1) u i := by
  match k with
  | 0 => exact ⟨_, _, _, rfl, fun u i => by simp [failsAt, offends, preferenceConsistent_eq_false, TableId.first, add_comm]⟩
  | 1 => exact ⟨_, _, _, rfl, fun u i => by simp [failsAt, offends, antenna_consistent_eq_false, TableId.first, add_comm]⟩
  | 2 =>
    refine ⟨_, _, _, rfl, fun u i => ?_⟩
    have paths := exists_path_iff (b := b) (P := fun m e => i = m ∧ e.defined = true ∧ ¬ (e.claims.map Claim.coil).Nodup)
    simpa [failsAt, offends, path_consistent_eq_false, TableId.first, add_comm 1] using fun _ => paths
  | 3 => exact ⟨_, _, _, rfl, fun u i => by simp [failsAt, offends, TableId.first]⟩
  | 4 => exact ⟨_, _, _, rfl, fun u i => by simp [failsAt, offends, TableId.first, imp_iff_not_or]⟩
  | 5 => exact ⟨_, _, _, rfl, fun u i => by simp [failsAt, offends, lineCodeConsistent_eq_false, TableId.first]⟩

theorem checkOffender_eq_none (b : Bank) (k : Fin 6) :
    checkOffender b k = none ↔ ∀ u i, ¬ offends b (k.val + 1) u i := by
  obtain ⟨n, t, ok, search, fails⟩ := checkOffender_searches b k
  simp only [search, offender_eq_none, fails]

theorem checkOffender_eq_some (b : Bank) (k : Fin 6) (u : TableId) (i : Nat) :
    checkOffender b k = some (u, i) ↔
      offends b (k.val + 1) u i ∧ ∀ m, m < i → ¬ offends b (k.val + 1) u m := by
  obtain ⟨n, t, ok, search, fails⟩ := checkOffender_searches b k
  simp only [search, offender_eq_some, fails]

/-- There are six checks (R19). -/
theorem offends_check {b : Bank} {k : Nat} {t : TableId} {i : Nat} (h : offends b k t i) : ∃ j : Fin 6, k = j.val + 1 := by
  have range : 1 ≤ k ∧ k ≤ 6 := by
    obtain ⟨rfl, -⟩ | ⟨rfl, -⟩ | ⟨rfl, -⟩ | ⟨rfl, -⟩ | ⟨rfl, -⟩ | ⟨rfl, -⟩ := h <;> decide
  exact ⟨⟨k - 1, by omega⟩, by simp; omega⟩

/-- A bank is consistent when no index of a table fails a check (R19). -/
theorem inconsistency_eq_none (b : Bank) : b.inconsistency = none ↔ ∀ k t i, ¬ offends b k t i := by
  simp only [inconsistency_eq_findSome, Fin.findSome?_eq_none_iff, checkOffender_eq_none]
  constructor
  · intro clean k t i h
    obtain ⟨j, rfl⟩ := offends_check h
    exact clean j t i h
  · exact fun clean k => clean _

/-- The offender of a bank is the lowest index of the first check that fails (R19). -/
theorem inconsistency_eq_some (b : Bank) (t : TableId) (i : Nat) :
    b.inconsistency = some (t, i) ↔
      ∃ k, offends b k t i ∧ (∀ j, j < k → ∀ u m, ¬ offends b j u m) ∧ ∀ m, m < i → ¬ offends b k t m := by
  simp only [inconsistency_eq_findSome, Fin.findSome?_eq_some_iff, checkOffender_eq_some, checkOffender_eq_none]
  constructor
  · rintro ⟨k, ⟨fails, least⟩, first⟩
    refine ⟨k.val + 1, fails, fun j lt u m h => ?_, least⟩
    obtain ⟨j, rfl⟩ := offends_check h
    exact first j (Fin.lt_def.2 (by omega)) u m h
  · rintro ⟨k, fails, first, least⟩
    obtain ⟨k, rfl⟩ := offends_check fails
    exact ⟨k, ⟨fails, least⟩, fun j lt => first _ (by have := Fin.lt_def.1 lt; omega)⟩

/-! ### What a COMMIT answers (R156) -/

/-- The apply condition reads neither the ports nor the pointer (R158). -/
theorem testApply_take (s : State) (lp : Pos) : (s.take lp).testApply = s.testApply.take lp := by
  have same : (s.take lp).applyCondition = s.applyCondition := rfl
  unfold State.testApply
  rw [same]
  split <;> rfl

theorem testApply_of_ready {s : State} (ready : applyReady s) :
    s.testApply = { s with banks := { s.banks with due := true } } := if_pos ((applyReady_iff s).1 ready)

theorem testApply_of_not_ready {s : State} (wait : ¬ applyReady s) : s.testApply = s :=
  if_neg fun c => wait ((applyReady_iff s).2 c)

theorem commit_busy {s : State} {lp : Pos} (pending : s.banks.pending = true) : s.commit lp = (s, .busy) := by
  simp [State.commit, pending]

theorem commit_inconsistent {s : State} {lp : Pos} {t : TableId} {i : Nat} (idle : s.banks.pending = false)
    (found : s.banks.staging.inconsistency = some (t, i)) : s.commit lp = (s, .inconsistent t i) := by
  simp [State.commit, idle, found]

theorem commit_accepted {s : State} {lp : Pos} (idle : s.banks.pending = false)
    (consistent : s.banks.staging.inconsistency = none) :
    s.commit lp = ({ s with banks := s.banks.accepted lp }.testApply, .accepted none) := by
  simp [State.commit, idle, consistent]

/-- COMMIT's row hands its frame to the handler (R156, R186). -/
theorem exec_commit (s : State) (lp : Pos) :
    exec (.commit lp []) s = .next (s.handle lp 0x0A [] fun s => s.commit lp) := rfl

/-- A COMMIT that is accepted is answered in the state with the commit PENDING, where apply is due when its condition holds. -/
theorem exec_commit_accepted {s s' : State} {lp : Pos} (h : s.handlerNext = some (lp, ⟨0x0A, []⟩))
    (idle : s.banks.pending = false) (consistent : s.banks.staging.inconsistency = none)
    (accepted : s' = { s with banks := s.banks.accepted lp }) :
    exec (.commit lp []) s = .next (s'.testApply.answered lp 0x0A (.accepted none)) := by
  have taken : { s.take lp with banks := (s.take lp).banks.accepted lp } = s'.take lp := accepted ▸ rfl
  rw [exec_commit, handle_taken _ h, commit_accepted (s := s.take lp) idle consistent, taken, testApply_take,
    placeReply_take]

/-- Settles O41: the four answers of COMMIT from those of the handler, the offender from the six searches. -/
theorem commitAccepted : Obligations.CommitAccepted := by
  intro s lp s' h accepted
  refine ⟨fun pending => ?_, fun idle => ⟨fun t i found => ?_, fun consistent ready => ?_, fun consistent wait => ?_⟩,
    inconsistency_eq_none _, inconsistency_eq_some _⟩
  · rw [exec_commit, handle_answered h (commit_busy (s := s.take lp) pending)]
  · rw [exec_commit, handle_answered h (commit_inconsistent (s := s.take lp) idle found)]
  · rw [exec_commit_accepted h idle consistent accepted, testApply_of_ready ready]
    rfl
  · rw [exec_commit_accepted h idle consistent accepted, testApply_of_not_ready wait]

end Sys2Proof.Proofs.Commit

/-!
The grant test (O32). One lemma for each row of Table 7-2, with the conditions of the rows before it as hypotheses; the test
passed is what is left when no row applies (R131).
-/
namespace Sys2Proof.Proofs.GrantTest
open Sys2Proof Sys2Proof.Machine Sys2Proof.Proofs.FirstIndex

/-! ### The conditions of Table 7-2, one by one -/

/-- The switch hold set is empty when it holds no position (R39). -/
theorem posSet_eq_empty_iff {h : PosSet} : h = PosSet.empty ↔ ∀ q : Pos, h.get q = false := by
  constructor
  · rintro rfl q
    exact replicate_get false q
  · exact fun empty => vector_ext fun q => (empty q).trans (replicate_get false q).symm

/-- A position with a band is in mismatch when its current antenna does not cover the band (R37). -/
theorem mismatch_eq_false_iff {b : Bank} {w : Blocks} {p : Pos} {n : Band} (band : bandOf b w p = some n) :
    mismatch b w p = false ↔ ∀ a ∈ (w.routes.contexts.get p).antenna, covers b a n = true := by
  cases h : (w.routes.contexts.get p).antenna <;> simp [mismatch, band, h]

theorem live_eq_true_iff {w : Blocks} {q : Pos} :
    live w q = true ↔ (w.gate.keys.get q).permit = true ∨ (w.gate.keys.get q).tail.isSome = true := by
  simp [live]

theorem liveHolder_tests {w : Blocks} {p : Pos} {a : Ant} (q : Pos) :
    (decide (q ≠ p) && isHolder w a q && live w q) = true ↔
      q ≠ p ∧ q ∈ (w.routes.antennas.get a).holders ∧
        ((w.gate.keys.get q).permit = true ∨ (w.gate.keys.get q).tail.isSome = true) := by
  simp [isHolder, live_eq_true_iff, and_assoc]

theorem liveHolder_eq_none_iff {w : Blocks} {p : Pos} {a : Ant} :
    liveHolder w p a = none ↔ ∀ q : Pos, q ≠ p → q ∈ (w.routes.antennas.get a).holders →
      (w.gate.keys.get q).permit = false ∧ (w.gate.keys.get q).tail = none := by
  rw [liveHolder, find_positions_eq_none liveHolder_tests]
  simp

theorem conflicting_tests {w : Blocks} {p : Pos} {f : Pos → Bool} (q : Pos) :
    (decide (q ≠ p) && isOn w q && f q) = true ↔ q ≠ p ∧ (w.gate.keys.get q).state = .on ∧ f q = true := by
  simp [isOn, and_assoc]

theorem conflicting_eq_none_iff {w : Blocks} {p : Pos} {f : Pos → Bool} :
    conflicting w p f = none ↔ ∀ q : Pos, q ≠ p → (w.gate.keys.get q).state = .on → f q = false := by
  rw [conflicting, find_positions_eq_none conflicting_tests]
  simp

/-- The single-signal conflict of two positions (R133). -/
theorem singleSignalConflict_iff {b : Bank} {w : Blocks} {p q : Pos} :
    singleSignalConflict b w p q = true ↔
      ∃ x ∈ bandOf b w p, ∃ y ∈ bandOf b w q, x = y ∧ b.attributes.get x = true := by
  unfold singleSignalConflict
  cases bandOf b w p with
  | none => simp
  | some x =>
    cases bandOf b w q with
    | none => simp
    | some y => simpa using fun _ => eq_comm

/-- The lockout pair of two positions (R16). -/
theorem lockoutConflict_iff {b : Bank} {w : Blocks} {p q : Pos} :
    lockoutConflict b w p q = true ↔ ∃ x ∈ bandOf b w p, ∃ y ∈ bandOf b w q, ∃ i : LockIx,
      (b.lockouts.get i).valid = true ∧ ((b.lockouts.get i).bandA = x ∧ (b.lockouts.get i).bandB = y ∨
        (b.lockouts.get i).bandA = y ∧ (b.lockouts.get i).bandB = x) := by
  unfold lockoutConflict
  cases bandOf b w p with
  | none => simp
  | some x => cases bandOf b w q <;> simp

/-! ### Conditions 9 and 10 -/

theorem bandConflict_singleSignal {b : Bank} {w : Blocks} {p q : Pos}
    (h : lowest (fun q => q ≠ p ∧ (w.gate.keys.get q).state = .on ∧ singleSignalConflict b w p q = true) q) :
    bandConflict b w p = some (.singleSignal, some q) := by
  have found : conflicting w p (singleSignalConflict b w p) = some q := (find_positions_eq_some conflicting_tests).2 h
  simp [bandConflict, found]

theorem bandConflict_lockout {b : Bank} {w : Blocks} {p q : Pos}
    (clear : conflicting w p (singleSignalConflict b w p) = none)
    (h : lowest (fun q => q ≠ p ∧ (w.gate.keys.get q).state = .on ∧ lockoutConflict b w p q = true) q) :
    bandConflict b w p = some (.lockout, some q) := by
  have found : conflicting w p (lockoutConflict b w p) = some q := (find_positions_eq_some conflicting_tests).2 h
  simp [bandConflict, clear, found]

theorem bandConflict_eq_none_iff {b : Bank} {w : Blocks} {p : Pos} :
    bandConflict b w p = none ↔ ∀ q : Pos, q ≠ p → (w.gate.keys.get q).state = .on →
      singleSignalConflict b w p q = false ∧ lockoutConflict b w p q = false := by
  have both : bandConflict b w p = none ↔
      conflicting w p (singleSignalConflict b w p) = none ∧ conflicting w p (lockoutConflict b w p) = none := by
    unfold bandConflict
    cases conflicting w p (singleSignalConflict b w p) <;> cases conflicting w p (lockoutConflict b w p) <;> simp
  simp only [both, conflicting_eq_none_iff, ← forall_and]

/-! ### The rows of the table: each obstacle, once the conditions before it hold -/

section Rows
variable {v : View} {w : Blocks} {p : Pos} {n : Band} {a : Ant}

theorem grantTest_failsafe (mode : v.mode ≠ .normal) : grantTest v w p = some (.failsafe, none) := by
  simp [grantTest, mode]

theorem grantTest_notRouted (mode : v.mode = .normal)
    (h : enabled v.bank p = false ∨
      ((w.routes.contexts.get p).state ≠ .routed ∧ (w.routes.contexts.get p).state ≠ .switching)) :
    grantTest v w p = some (.notRouted, none) := by
  simp only [grantTest, mode, ne_eq, not_true_eq_false, if_false, if_pos h]

theorem grantTest_switching (mode : v.mode = .normal) (on : enabled v.bank p = true)
    (state : (w.routes.contexts.get p).state = .switching) : grantTest v w p = some (.switching, none) := by
  simp [grantTest, mode, on, state]

theorem grantTest_noBand (mode : v.mode = .normal) (on : enabled v.bank p = true)
    (state : (w.routes.contexts.get p).state = .routed) (band : bandOf v.bank w p = none) :
    grantTest v w p = some (.noBand, none) := by
  simp [grantTest, mode, on, state, band]

theorem grantTest_mismatch (mode : v.mode = .normal) (on : enabled v.bank p = true)
    (state : (w.routes.contexts.get p).state = .routed) (band : bandOf v.bank w p = some n)
    (miss : mismatch v.bank w p = true) : grantTest v w p = some (.mismatch, none) := by
  simp [grantTest, mode, on, state, band, miss]

theorem grantTest_supplyLow (mode : v.mode = .normal) (on : enabled v.bank p = true)
    (state : (w.routes.contexts.get p).state = .routed) (band : bandOf v.bank w p = some n)
    (fits : mismatch v.bank w p = false) (supply : v.supply ≠ .good) : grantTest v w p = some (.supplyLow, none) := by
  simp [grantTest, mode, on, state, band, fits, supply]

/-- Conditions 1 to 6 of Table 7-2: they are those that do not look at another position. -/
structure OwnConditions (v : View) (w : Blocks) (p : Pos) : Prop where
  mode : v.mode = .normal
  on : enabled v.bank p = true
  state : (w.routes.contexts.get p).state = .routed
  band : (bandOf v.bank w p).isSome = true
  fits : mismatch v.bank w p = false
  supply : v.supply = .good

theorem grantTest_switchHold (own : OwnConditions v w p) (current : (w.routes.contexts.get p).antenna = some a)
    (holds : (w.routes.antennas.get a).holds ≠ PosSet.empty) : grantTest v w p = some (.switchHold, none) := by
  simp [grantTest, own.mode, own.on, own.state, Option.ne_none_iff_isSome.2 own.band, own.fits, own.supply, current, holds]

theorem grantTest_holderLive {q : Pos} (own : OwnConditions v w p)
    (current : (w.routes.contexts.get p).antenna = some a)
    (free : (w.routes.antennas.get a).holds = PosSet.empty) (found : liveHolder w p a = some q) :
    grantTest v w p = some (.holderLive, some q) := by
  simp [grantTest, own.mode, own.on, own.state, Option.ne_none_iff_isSome.2 own.band, own.fits, own.supply, current, free,
    found]

/-- Conditions 7 and 8 of Table 7-2: nothing on the current antenna bars the position. -/
def AntennaClear (w : Blocks) (p : Pos) : Prop :=
  ∀ a ∈ (w.routes.contexts.get p).antenna,
    (w.routes.antennas.get a).holds = PosSet.empty ∧ liveHolder w p a = none

theorem grantTest_bandConflict (own : OwnConditions v w p) (clear : AntennaClear w p) :
    grantTest v w p = bandConflict v.bank w p := by
  cases current : (w.routes.contexts.get p).antenna with
  | none =>
    simp [grantTest, own.mode, own.on, own.state, Option.ne_none_iff_isSome.2 own.band, own.fits, own.supply, current]
  | some a =>
    obtain ⟨free, quiet⟩ := clear a current
    simp [grantTest, own.mode, own.on, own.state, Option.ne_none_iff_isSome.2 own.band, own.fits, own.supply, current,
      free, quiet]

/-! ### The test passed -/

theorem ownConditions_of_grantTest_none (h : grantTest v w p = none) : OwnConditions v w p := by
  have mode : v.mode = .normal := by
    by_contra bad
    simp [grantTest_failsafe bad] at h
  have reached : ¬ (enabled v.bank p = false ∨
      ((w.routes.contexts.get p).state ≠ .routed ∧ (w.routes.contexts.get p).state ≠ .switching)) := fun bad => by
    simp [grantTest_notRouted mode bad] at h
  have on : enabled v.bank p = true := Bool.eq_true_of_not_eq_false fun off => reached (.inl off)
  have state : (w.routes.contexts.get p).state = .routed := by
    by_contra bad
    have switching : (w.routes.contexts.get p).state = .switching := by
      by_contra other
      exact reached (.inr ⟨bad, other⟩)
    simp [grantTest_switching mode on switching] at h
  cases band : bandOf v.bank w p with
  | none => simp [grantTest_noBand mode on state band] at h
  | some n =>
    have fits : mismatch v.bank w p = false := by
      by_contra miss
      simp [grantTest_mismatch mode on state band (Bool.eq_true_of_not_eq_false miss)] at h
    have supply : v.supply = .good := by
      by_contra low
      simp [grantTest_supplyLow mode on state band fits low] at h
    exact ⟨mode, on, state, by simp [band], fits, supply⟩

theorem antennaClear_of_grantTest_none (own : OwnConditions v w p) (h : grantTest v w p = none) : AntennaClear w p := by
  intro a current
  have free : (w.routes.antennas.get a).holds = PosSet.empty := by
    by_contra holds
    simp [grantTest_switchHold own current holds] at h
  refine ⟨free, Option.eq_none_iff_forall_ne_some.2 fun q found => ?_⟩
  simp [grantTest_holderLive own current free found] at h

theorem grantTest_eq_none_iff :
    grantTest v w p = none ↔ OwnConditions v w p ∧ AntennaClear w p ∧ bandConflict v.bank w p = none := by
  constructor
  · intro h
    have own := ownConditions_of_grantTest_none h
    have clear := antennaClear_of_grantTest_none own h
    exact ⟨own, clear, grantTest_bandConflict own clear ▸ h⟩
  · rintro ⟨own, clear, conflict⟩
    rw [grantTest_bandConflict own clear, conflict]

end Rows

/-! ### The table in the words of the state -/

theorem ownConditions_iff {s : State} {p : Pos} : OwnConditions s.view s.blocks p ↔
    s.station.mode = .normal ∧ (s.bank.positions.get p).enabled = true ∧ (s.context p).state = .routed ∧
      (∃ n ∈ bandOf s.bank s.blocks p, ∀ a ∈ (s.context p).antenna, covers s.bank a n = true) ∧
      s.supply.level = .good := by
  constructor
  · rintro ⟨mode, on, state, hasBand, fits, supply⟩
    obtain ⟨n, band⟩ := Option.isSome_iff_exists.1 hasBand
    exact ⟨mode, on, state, ⟨n, band, (mismatch_eq_false_iff band).1 fits⟩, supply⟩
  · rintro ⟨mode, on, state, ⟨n, band, covered⟩, supply⟩
    exact ⟨mode, on, state, Option.isSome_of_eq_some band, (mismatch_eq_false_iff band).2 covered, supply⟩

theorem antennaClear_iff {s : State} {p : Pos} : AntennaClear s.blocks p ↔
    ∀ a ∈ (s.context p).antenna, (∀ q : Pos, (s.antenna a).holds.get q = false) ∧
      ∀ q : Pos, q ≠ p → q ∈ (s.antenna a).holders → (s.key q).permit = false ∧ (s.key q).tail = none := by
  simp only [AntennaClear, posSet_eq_empty_iff, liveHolder_eq_none_iff]

/-- The test is passed when the ten conditions of Table 7-2 hold (R131). -/
theorem grantTest_passed_iff (s : State) (p : Pos) : grantTest s.view s.blocks p = none ↔
    s.station.mode = .normal ∧ (s.bank.positions.get p).enabled = true ∧ (s.context p).state = .routed ∧
      (∃ n ∈ bandOf s.bank s.blocks p, ∀ a ∈ (s.context p).antenna, covers s.bank a n = true) ∧
      s.supply.level = .good ∧
      (∀ a ∈ (s.context p).antenna, (∀ q : Pos, (s.antenna a).holds.get q = false) ∧
        ∀ q : Pos, q ≠ p → q ∈ (s.antenna a).holders → (s.key q).permit = false ∧ (s.key q).tail = none) ∧
      ∀ q : Pos, q ≠ p → (s.key q).state = .on →
        singleSignalConflict s.bank s.blocks p q = false ∧ lockoutConflict s.bank s.blocks p q = false := by
  have conflict : bandConflict s.view.bank s.blocks p = none ↔ ∀ q : Pos, q ≠ p → (s.key q).state = .on →
      singleSignalConflict s.bank s.blocks p q = false ∧ lockoutConflict s.bank s.blocks p q = false :=
    bandConflict_eq_none_iff
  rw [grantTest_eq_none_iff, ownConditions_iff, antennaClear_iff, conflict]
  simp only [and_assoc]

/-- Settles O32: the test passed from the ten conditions, each obstacle from its row of the table. -/
theorem grantTestIsTable : Obligations.GrantTestIsTable := by
  intro s p
  refine ⟨grantTest_passed_iff s p, fun mode => grantTest_failsafe mode, fun mode bars => grantTest_notRouted mode bars,
    fun mode on => ⟨fun switching => grantTest_switching mode on switching, fun state =>
      ⟨fun band => grantTest_noBand mode on state band, fun n band => ⟨?mismatch, ?supplyLow, ?others⟩⟩⟩,
    fun q => ⟨singleSignalConflict_iff, lockoutConflict_iff⟩⟩
  case mismatch =>
    intro a current uncovered
    refine grantTest_mismatch mode on state band (Bool.eq_true_of_not_eq_false fun fits => ?_)
    have covered := (mismatch_eq_false_iff band).1 fits a current
    exact absurd (covered.symm.trans uncovered) (by decide)
  case supplyLow =>
    exact fun covered low => grantTest_supplyLow mode on state band ((mismatch_eq_false_iff band).2 covered) low
  case others =>
    intro covered supply
    have own : OwnConditions s.view s.blocks p := ownConditions_iff.2 ⟨mode, on, state, ⟨n, band, covered⟩, supply⟩
    refine ⟨?switchHold, fun free => ⟨?holderLive, fun quiet => ?conflicts⟩⟩
    case switchHold =>
      rintro a current ⟨q, held⟩
      refine grantTest_switchHold own current fun empty => ?_
      exact absurd ((posSet_eq_empty_iff.1 empty q).symm.trans held) (by decide)
    case holderLive =>
      intro a current q least
      exact grantTest_holderLive own current (posSet_eq_empty_iff.2 (free a current))
        ((find_positions_eq_some liveHolder_tests).2 least)
    case conflicts =>
      have clear : AntennaClear s.blocks p := antennaClear_iff.2 fun a current => ⟨free a current, quiet a current⟩
      rw [grantTest_bandConflict own clear]
      exact ⟨fun q least => bandConflict_singleSignal least, fun clear q least =>
        bandConflict_lockout (conflicting_eq_none_iff.2 clear) least⟩

end Sys2Proof.Proofs.GrantTest

/-!
SUPPORT. Bytes, two-byte quantities, indices and fields with few values: what the decoders of Machine/Operands.lean take,
and that the encoders write it back (R189, R192).
-/
namespace Sys2Proof.Proofs.Bytes
open Sys2Proof Sys2Proof.Machine

/-! ### Bytes and the numbers they carry (R189) -/

@[simp] theorem byte_toNat (b : Byte) : byte b.toNat = b := by simp [byte]

/-- A number that a byte carries is written as that byte. -/
theorem byte_eq_of_toNat {n : Nat} {b : Byte} (h : b.toNat = n) : byte n = b := by rw [← h, byte_toNat]

@[simp] theorem twoBytes_ofTwoBytes (hi lo : Byte) : twoBytes (ofTwoBytes hi lo) = [hi, lo] := by
  have high : byte (ofTwoBytes hi lo / 256) = hi := byte_eq_of_toNat (by simp only [ofTwoBytes]; omega)
  have low : byte (ofTwoBytes hi lo) = lo := BitVec.eq_of_toNat_eq (by simp only [byte, ofTwoBytes, BitVec.toNat_ofNat]; omega)
  rw [twoBytes, high, low]

theorem byte_eq_iff {b c : Byte} : b = c ↔ b.toNat = c.toNat := BitVec.toNat_eq

theorem ofNum_eq_some {n k : Nat} {i : Fin n} : ofNum n k = some i ↔ k = 1 + i.val := by
  have := i.isLt
  simp only [ofNum, Option.dite_none_right_eq_some, Option.some.injEq, Fin.ext_iff]
  constructor
  · rintro ⟨h, eq⟩; omega
  · intro eq; exact ⟨by omega, by omega⟩

theorem ofIndex_eq_some {n k : Nat} {i : Fin n} : ofIndex n k = some i ↔ k = i.val := by
  have := i.isLt
  simp only [ofIndex, Option.dite_none_right_eq_some, Option.some.injEq, Fin.ext_iff]
  constructor
  · rintro ⟨h, eq⟩; omega
  · intro eq; exact ⟨by omega, by omega⟩

/-- A number that an index carries is written as its byte. -/
theorem byte_num {n : Nat} {b : Byte} {i : Fin n} (h : b.toNat = 1 + i.val) : byte (num i) = b :=
  byte_eq_of_toNat (by rw [h, num, add_comm])

/-- Some index carries the number exactly when it lies in the range. -/
theorem exists_index_iff {n k : Nat} : (∃ i : Fin n, k = 1 + i.val) ↔ 1 ≤ k ∧ k ≤ n :=
  ⟨fun ⟨i, h⟩ => by omega, fun h => ⟨⟨k - 1, by omega⟩, by simp; omega⟩⟩

theorem getLsbD_eq_decide (b : Byte) (i : Nat) : b.getLsbD i = decide (b.toNat / 2 ^ i % 2 = 1) :=
  Nat.testBit_eq_decide_div_mod_eq

theorem flag_decide_mod_two (n : Nat) : flag (decide (n % 2 = 1)) = n % 2 := by
  rcases Nat.mod_two_eq_zero_or_one n with h | h <;> simp [flag, h]

/-- A list that fits a field is followed there by zeros (R189). -/
theorem padded_eq {n : Nat} {l : List Byte} (h : l.length ≤ n) : padded n l = l ++ List.replicate (n - l.length) 0 := by
  simp [padded, List.take_append, List.take_of_length_le h]

/-- The first bytes of a list by their places. -/
theorem take_eq_map_range {l : List Byte} {c : Nat} (h : c ≤ l.length) :
    l.take c = (List.range c).map fun j => l.getD j 0 := by
  apply List.ext_getElem
  · simp [h]
  · intro i hi _
    have : i < l.length := by simp at hi; omega
    simp [this]

/-- The entries of a table of `c` places are distinct when no two places hold the same. -/
theorem nodup_map_range {c : Nat} {f : Nat → Nat} :
    ((List.range c).map f).Nodup ↔ ∀ j, j < c → ∀ i, i < j → f i ≠ f j := by
  rw [List.nodup_map_iff_inj_on List.nodup_range]
  simp only [List.mem_range]
  constructor
  · exact fun inj j hj i lt eq => absurd (inj i (by omega) j hj eq) (by omega)
  · intro distinct i hi j hj eq
    rcases Nat.lt_trichotomy i j with lt | rfl | lt
    · exact absurd eq (distinct j hj i lt)
    · rfl
    · exact absurd eq.symm (distinct i hi j lt)

/-! ### Fields of two values (R192) -/

/-- A field with the two codes 0 and 1, which stand for `lo` and `hi`. -/
structure TwoValued {α : Type} (ofByte : Byte → Option α) (code : α → Nat) (lo hi : α) : Prop where
  decodes : ∀ b, ofByte b = if b = 0 then some lo else if b = 1 then some hi else none
  code_lo : code lo = 0
  code_hi : code hi = 1

theorem TwoValued.eq_some {α : Type} {ofByte : Byte → Option α} {code : α → Nat} {lo hi : α}
    (f : TwoValued ofByte code lo hi) {b : Byte} {x : α} :
    ofByte b = some x ↔ b.toNat ≤ 1 ∧ x = if b.toNat = 1 then hi else lo := by
  rw [f.decodes]
  simp only [byte_eq_iff, BitVec.ofNat_eq_ofNat, BitVec.toNat_ofNat, Nat.reducePow, Nat.reduceMod]
  by_cases h0 : b.toNat = 0
  · simp [h0, eq_comm]
  · by_cases h1 : b.toNat = 1
    · simp [h1, eq_comm]
    · have : ¬ b.toNat ≤ 1 := by omega
      simp [h0, h1, this]

theorem TwoValued.byte_code {α : Type} {ofByte : Byte → Option α} {code : α → Nat} {lo hi : α}
    (f : TwoValued ofByte code lo hi) {b : Byte} (h : b.toNat ≤ 1) :
    byte (code (if b.toNat = 1 then hi else lo)) = b := by
  apply byte_eq_of_toNat
  split
  · rw [f.code_hi]; assumption
  · rw [f.code_lo]; omega

theorem flag_twoValued : TwoValued ofFlag flag false true where
  decodes b := by
    unfold ofFlag
    by_cases h0 : b = 0
    · subst h0; rfl
    · simp only [if_neg h0]
  code_lo := rfl
  code_hi := rfl

theorem bandSource_twoValued : TwoValued BandSource.ofByte BandSource.code .link .lines := ⟨fun _ => rfl, rfl, rfl⟩
theorem mode_twoValued : TwoValued Mode.ofByte Mode.code .follow .manual := ⟨fun _ => rfl, rfl, rfl⟩
theorem shareClass_twoValued : TwoValued ShareClass.ofByte ShareClass.code .exclusive .split := ⟨fun _ => rfl, rfl, rfl⟩
theorem groupMode_twoValued : TwoValued GroupMode.ofByte GroupMode.code .shared .exclusive := ⟨fun _ => rfl, rfl, rfl⟩
theorem shortThreshold_twoValued : TwoValued ShortThreshold.ofByte ShortThreshold.code .t0 .t1 := ⟨fun _ => rfl, rfl, rfl⟩

theorem ofFlag_eq_some {b : Byte} {x : Bool} : ofFlag b = some x ↔ b.toNat ≤ 1 ∧ x = decide (b.toNat = 1) := by
  rw [flag_twoValued.eq_some]
  simp

theorem byte_flag {b : Byte} (h : b.toNat ≤ 1) : byte (flag (decide (b.toNat = 1))) = b := by
  simpa using flag_twoValued.byte_code h

/-- The field of four values of a coil (R15). -/
theorem failSafe_eq_some {b : Byte} {x : FailSafeValue} : FailSafeValue.ofByte b = some x ↔
    b.toNat ≤ 3 ∧ x = if b.toNat = 0 then .off else if b.toNat = 1 then .on else if b.toNat = 2 then .sa else .sb := by
  simp only [FailSafeValue.ofByte, byte_eq_iff, BitVec.ofNat_eq_ofNat, BitVec.toNat_ofNat, Nat.reducePow, Nat.reduceMod]
  by_cases h : b.toNat ≤ 3
  · generalize b.toNat = n at h ⊢
    interval_cases n <;> simp [eq_comm]
  · simp [h, show b.toNat ≠ 0 by omega, show b.toNat ≠ 1 by omega, show b.toNat ≠ 2 by omega, show b.toNat ≠ 3 by omega]

theorem byte_failSafe {b : Byte} (h : b.toNat ≤ 3) :
    byte (FailSafeValue.code (if b.toNat = 0 then .off else if b.toNat = 1 then .on else if b.toNat = 2 then .sa else .sb)) =
      b := by
  apply byte_eq_of_toNat
  generalize b.toNat = n at h ⊢
  interval_cases n <;> rfl

end Sys2Proof.Proofs.Bytes

/-!
WRITE (O38), for any table. A `Layout` names where a table's entries stand in a bank and how an entry and its record
correspond; `Layout.Placed` and `Layout.Coded` say that it is the model's, and the effect of WRITE follows from the two.
-/
namespace Sys2Proof.Proofs.Records
open Sys2Proof Sys2Proof.Machine Sys2Proof.Laws.Tables Sys2Proof.Proofs.Take Sys2Proof.Proofs.Bytes

/-! ### How a table lies in a bank, and its entries in records -/

/-- What a record that was written reads back as: the slots and claims beyond the count are 0, and a path that is not defined keeps
no claim (R9, R12). -/
def readBack (t : TableId) (r : List Byte) : List Byte :=
  match t with
  | .preferenceLists => r.take (1 + byteAt r 0) ++ List.replicate (4 - byteAt r 0) 0
  | .pathTable =>
    if byteAt r 0 = 1 then r.take (2 + byteAt r 1) ++ List.replicate (6 - byteAt r 1) 0 else List.replicate 8 0
  | _ => r

/-- Table `t` as `n` entries of type `E`: where they stand in a bank, the index that names each, and their records. -/
structure Layout (t : TableId) (E : Type) (n : Nat) where
  rows : Bank → Vector E n
  withRows : Bank → Vector E n → Bank
  index : Nat → Option (Fin n)
  decode : List Byte → Option E
  encode : E → List Byte

/-- The layout is the one that `Bank.write` and `Bank.record` use. -/
structure Layout.Placed {t : TableId} {E : Type} {n : Nat} (l : Layout t E n) : Prop where
  write_eq : ∀ (b : Bank) (i : Nat) (r : List Byte), b.write t i r =
    (l.index i).bind fun k => (l.decode r).bind fun e => some (l.withRows b (put (l.rows b) k e)) := by intros; rfl
  record_eq : ∀ (b : Bank) (i : Nat), b.record t i =
    ((l.index i).map fun k => l.encode ((l.rows b).get k)).getD [] := by intros; rfl
  index_eq_some : ∀ {i : Nat} {k : Fin n}, l.index i = some k ↔ i = t.first + k.val
  size : n = t.entries := by rfl
  rows_withRows : ∀ (b : Bank) (v : Vector E n), l.rows (l.withRows b v) = v := by intros; rfl
  withRows_withRows : ∀ (b : Bank) (v v' : Vector E n), l.withRows (l.withRows b v) v' = l.withRows b v' := by intros; rfl
  frame : ∀ (b : Bank) (v : Vector E n) (u : TableId) (j : Nat), u ≠ t → (l.withRows b v).record u j = b.record u j := by
    intro b v u j h
    cases u <;> simp at h <;> rfl

/-- The records of the table are read and written as R192 says: a record of the right length decodes exactly when it passes, what it
stores is what its fields say, and it reads back. -/
structure Layout.Coded {t : TableId} {E : Type} {n : Nat} (l : Layout t E n) : Prop where
  length : ∀ {r : List Byte} {e : E}, l.decode r = some e → r.length = t.recordLength
  passes : ∀ {r : List Byte}, r.length = t.recordLength → ((∃ e, l.decode r = some e) ↔ recordPasses t r)
  stored : ∀ {r : List Byte} {e : E} {b : Bank} {i : Nat} {k : Fin n}, l.decode r = some e → i = t.first + k.val →
    (l.rows b).get k = e → recordStored b t i r
  encode_eq : ∀ {r : List Byte} {e : E}, l.decode r = some e → l.encode e = readBack t r
  decode_readBack : ∀ {r : List Byte} {e : E}, l.decode r = some e → l.decode (readBack t r) = some e

section Effect
variable {t : TableId} {E : Type} {n : Nat} {l : Layout t E n}

/-- Some entry has the index exactly when it lies in the range of the table. -/
theorem Layout.Placed.index_isSome (placed : l.Placed) (i : Nat) : (∃ k, l.index i = some k) ↔ indexIn t i := by
  simp only [placed.index_eq_some, indexIn_iff, ← placed.size]
  exact ⟨fun ⟨k, h⟩ => by omega, fun h => ⟨⟨i - t.first, by omega⟩, by simp; omega⟩⟩

/-- A WRITE stores a record by putting its entry at its index. -/
theorem Layout.Placed.write_eq_some (placed : l.Placed) {b b' : Bank} {i : Nat} {r : List Byte} :
    b.write t i r = some b' ↔
      ∃ k e, l.index i = some k ∧ l.decode r = some e ∧ b' = l.withRows b (put (l.rows b) k e) := by
  rw [placed.write_eq]
  simp only [Option.bind_eq_some_iff, Option.some.injEq]
  exact ⟨fun ⟨k, hk, e, he, eq⟩ => ⟨k, e, hk, he, eq.symm⟩, fun ⟨k, e, hk, he, eq⟩ => ⟨k, hk, e, he, eq.symm⟩⟩

theorem Layout.Placed.record_of_index (placed : l.Placed) {b : Bank} {i : Nat} {k : Fin n} (h : l.index i = some k) :
    b.record t i = l.encode ((l.rows b).get k) := by
  rw [placed.record_eq, h]
  rfl

/-- An entry put in one table leaves every other record of the bank. -/
theorem Layout.Placed.record_other (placed : l.Placed) {b : Bank} {i j : Nat} {k : Fin n} {e : E} {u : TableId}
    (at_i : l.index i = some k) (other : ¬ (u = t ∧ j = i)) :
    (l.withRows b (put (l.rows b) k e)).record u j = b.record u j := by
  by_cases table : u = t
  · subst table
    have apart : ∀ m, l.index j = some m → m ≠ k := by
      rintro m at_j rfl
      exact other ⟨rfl, (placed.index_eq_some.1 at_j).trans (placed.index_eq_some.1 at_i).symm⟩
    rw [placed.record_eq, placed.record_eq, placed.rows_withRows]
    cases at_j : l.index j with
    | none => rfl
    | some m => simp [put_get_other _ e (apart m at_j)]
  · exact placed.frame b _ u j table

/-- A record decodes exactly when it passes the checks of its table (R3). -/
theorem Layout.Coded.decodes_iff (coded : l.Coded) (r : List Byte) : (∃ e, l.decode r = some e) ↔ recordPasses t r :=
  ⟨fun ⟨e, h⟩ => (coded.passes (coded.length h)).1 ⟨e, h⟩, fun h => (coded.passes (recordPasses_length h)).2 h⟩

/-- What WRITE does to a bank, from the layout of its table. -/
theorem Layout.Placed.effect (placed : l.Placed) (coded : l.Coded) (b : Bank) (i : Nat) (r : List Byte) :
    ((b.write t i r).isSome = true ↔ indexIn t i ∧ recordPasses t r) ∧
    ∀ b' ∈ b.write t i r,
      recordStored b' t i r ∧ b'.write t i (b'.record t i) = some b' ∧ (b'.record t i).length = t.recordLength ∧
      b'.record t i = readBack t r ∧ ∀ (u : TableId) (j : Nat), ¬ (u = t ∧ j = i) → b'.record u j = b.record u j := by
  constructor
  · simp only [Option.isSome_iff_exists, placed.write_eq_some, ← placed.index_isSome, ← coded.decodes_iff]
    exact ⟨fun ⟨_, k, e, hk, he, _⟩ => ⟨⟨k, hk⟩, e, he⟩, fun ⟨⟨k, hk⟩, e, he⟩ => ⟨_, k, e, hk, he, rfl⟩⟩
  · intro b' written
    obtain ⟨k, e, hk, he, rfl⟩ := placed.write_eq_some.1 written
    have entry : (l.rows (l.withRows b (put (l.rows b) k e))).get k = e := by
      rw [placed.rows_withRows, put_get_same]
    have reads : (l.withRows b (put (l.rows b) k e)).record t i = readBack t r := by
      rw [placed.record_of_index hk, entry, coded.encode_eq he]
    have again : l.decode (readBack t r) = some e := coded.decode_readBack he
    refine ⟨coded.stored he (placed.index_eq_some.1 hk) entry, ?_, ?_, reads, fun u j => placed.record_other hk⟩
    · rw [reads, placed.write_eq_some]
      exact ⟨k, e, hk, again, by rw [placed.withRows_withRows, placed.rows_withRows, put_put]⟩
    · rw [reads]
      exact coded.length again

end Effect

end Sys2Proof.Proofs.Records

/-!
WRITE (O38), the tables whose records are fixed fields. For each, one lemma says which records decode and to what entry; the
rest of its layout is read off that.
-/
namespace Sys2Proof.Proofs.Records
open Sys2Proof Sys2Proof.Machine Sys2Proof.Proofs.Bytes

/-! ### Tables of fixed fields: a record reads back as it was written -/

/-- Two entries of a table with the same number are one. -/
theorem index_unique {n first i : Nat} {k m : Fin n} (hk : i = first + k.val) (hm : i = first + m.val) : m = k :=
  Fin.ext (by omega)

/-- The Position Table (R4). -/
def positionLayout : Layout .positionTable PositionEntry 6 where
  rows := Bank.positions
  withRows b v := { b with positions := v }
  index := ofNum 6
  decode := PositionEntry.ofRecord
  encode := PositionEntry.record

theorem positionLayout_placed : positionLayout.Placed where
  index_eq_some := ofNum_eq_some

theorem position_ofRecord_eq_some {r : List Byte} {e : PositionEntry} :
    PositionEntry.ofRecord r = some e ↔ ∃ en src mode : Byte, r = [en, src, mode] ∧
      (en.toNat ≤ 1 ∧ src.toNat ≤ 1 ∧ mode.toNat ≤ 1) ∧ ⟨decide (en.toNat = 1),
        if src.toNat = 1 then .lines else .link, if mode.toNat = 1 then .manual else .follow⟩ = e := by
  unfold PositionEntry.ofRecord
  split
  next en src mode =>
    simp [Option.bind_eq_some_iff, ofFlag_eq_some, bandSource_twoValued.eq_some, mode_twoValued.eq_some, and_assoc]
  next other => simpa using fun _ _ _ eq => absurd eq (other _ _ _)

theorem positionLayout_coded : positionLayout.Coded where
  length h := by
    obtain ⟨en, src, mode, rfl, -⟩ := position_ofRecord_eq_some.1 h
    rfl
  passes {r} len := by
    match r, len with
    | [en, src, mode], _ => simp [positionLayout, position_ofRecord_eq_some, recordPasses, byteAt]
  stored {r e b i k} h at_i entry k' at_i' := by
    obtain ⟨en, src, mode, rfl, -, rfl⟩ := position_ofRecord_eq_some.1 h
    obtain rfl := index_unique at_i (at_i'.trans (add_comm _ 1))
    exact entry
  encode_eq {r e} h := by
    obtain ⟨en, src, mode, rfl, ⟨hen, hsrc, hmode⟩, rfl⟩ := position_ofRecord_eq_some.1 h
    simp [positionLayout, PositionEntry.record, byte_flag hen, bandSource_twoValued.byte_code hsrc,
      mode_twoValued.byte_code hmode, readBack]
  decode_readBack h := h

/-- The Band Plan (R5). -/
def planLayout : Layout .bandPlan PlanEntry 24 where
  rows := Bank.plan
  withRows b v := { b with plan := v }
  index := ofNum 24
  decode := PlanEntry.ofRecord
  encode := PlanEntry.record

theorem planLayout_placed : planLayout.Placed where
  index_eq_some := ofNum_eq_some

theorem plan_ofRecord_eq_some {r : List Byte} {e : PlanEntry} :
    PlanEntry.ofRecord r = some e ↔ ∃ v lowHi lowLo highHi highLo bandNo listNo : Byte,
      r = [v, lowHi, lowLo, highHi, highLo, bandNo, listNo] ∧ v.toNat ≤ 1 ∧
      ∃ band : Band, bandNo.toNat = 1 + band.val ∧ ∃ list : ListIx, listNo.toNat = 1 + list.val ∧
        ofTwoBytes lowHi lowLo ≤ ofTwoBytes highHi highLo ∧
        ⟨decide (v.toNat = 1), ofTwoBytes lowHi lowLo, ofTwoBytes highHi highLo, band, list⟩ = e := by
  unfold PlanEntry.ofRecord
  split
  next v lowHi lowLo highHi highLo bandNo listNo =>
    simp [Option.bind_eq_some_iff, ofFlag_eq_some, ofNum_eq_some, and_assoc]
  next other => simpa using fun _ _ _ _ _ _ _ eq => absurd eq (other _ _ _ _ _ _ _)

theorem planLayout_coded : planLayout.Coded where
  length h := by
    obtain ⟨v, lowHi, lowLo, highHi, highLo, bandNo, listNo, rfl, -⟩ := plan_ofRecord_eq_some.1 h
    rfl
  passes {r} len := by
    match r, len with
    | [v, lowHi, lowLo, highHi, highLo, bandNo, listNo], _ =>
      simp [planLayout, plan_ofRecord_eq_some, recordPasses, byteAt, pairAt, exists_index_iff, ofTwoBytes]
      exact fun _ => ⟨fun ⟨band, list, limits⟩ => ⟨limits, band, list⟩, fun ⟨limits, band, list⟩ => ⟨band, list, limits⟩⟩
  stored {r e b i k} h at_i entry k' at_i' := by
    obtain ⟨v, lowHi, lowLo, highHi, highLo, bandNo, listNo, rfl, -, band, hband, list, hlist, -, rfl⟩ :=
      plan_ofRecord_eq_some.1 h
    obtain rfl := index_unique at_i (at_i'.trans (add_comm _ 1))
    have at_k : b.plan.get k' = _ := entry
    rw [at_k]
    exact ⟨rfl, rfl, rfl, (hband.trans (add_comm _ _)).symm, (hlist.trans (add_comm _ _)).symm⟩
  encode_eq {r e} h := by
    obtain ⟨v, lowHi, lowLo, highHi, highLo, bandNo, listNo, rfl, hv, band, hband, list, hlist, -, rfl⟩ :=
      plan_ofRecord_eq_some.1 h
    simp [planLayout, PlanEntry.record, byte_flag hv, byte_num hband, byte_num hlist, readBack]
  decode_readBack h := h

/-- The Band Attributes (R7). -/
def attributesLayout : Layout .bandAttributes Bool 12 where
  rows := Bank.attributes
  withRows b v := { b with attributes := v }
  index := ofNum 12
  decode := attributeOfRecord
  encode x := [byte (flag x)]

theorem attributesLayout_placed : attributesLayout.Placed where
  index_eq_some := ofNum_eq_some

theorem attributeOfRecord_eq_some {r : List Byte} {x : Bool} :
    attributeOfRecord r = some x ↔ ∃ f : Byte, r = [f] ∧ f.toNat ≤ 1 ∧ decide (f.toNat = 1) = x := by
  unfold attributeOfRecord
  split
  next f => simp [ofFlag_eq_some, @eq_comm _ x]
  next other => simpa using fun _ eq => absurd eq (other _)

theorem attributesLayout_coded : attributesLayout.Coded where
  length h := by
    obtain ⟨f, rfl, -⟩ := attributeOfRecord_eq_some.1 h
    rfl
  passes {r} len := by
    match r, len with
    | [f], _ => simp [attributesLayout, attributeOfRecord_eq_some, recordPasses, byteAt]
  stored {r e b i k} h at_i entry k' at_i' := by
    obtain ⟨f, rfl, -, rfl⟩ := attributeOfRecord_eq_some.1 h
    obtain rfl := index_unique at_i (at_i'.trans (add_comm _ 1))
    exact entry
  encode_eq {r e} h := by
    obtain ⟨f, rfl, hf, rfl⟩ := attributeOfRecord_eq_some.1 h
    simp [attributesLayout, byte_flag hf, readBack]
  decode_readBack h := h

/-- The Antenna Table (R10). -/
def antennaLayout : Layout .antennaTable AntennaEntry 16 where
  rows := Bank.antennas
  withRows b v := { b with antennas := v }
  index := ofNum 16
  decode := AntennaEntry.ofRecord
  encode := AntennaEntry.record

theorem antennaLayout_placed : antennaLayout.Placed where
  index_eq_some := ofNum_eq_some

theorem antenna_ofRecord_eq_some {r : List Byte} {e : AntennaEntry} :
    AntennaEntry.ofRecord r = some e ↔ ∃ en covHi covLo cls limit : Byte, r = [en, covHi, covLo, cls, limit] ∧
      (en.toNat ≤ 1 ∧ cls.toNat ≤ 1 ∧ ofTwoBytes covHi covLo < 4096 ∧ limit.toNat ≤ 4) ∧
      ⟨decide (en.toNat = 1), BitVec.ofNat 12 (ofTwoBytes covHi covLo),
        if cls.toNat = 1 then .split else .exclusive, limit.toNat⟩ = e := by
  unfold AntennaEntry.ofRecord
  split
  next en covHi covLo cls limit =>
    simp [Option.bind_eq_some_iff, ofFlag_eq_some, shareClass_twoValued.eq_some, and_assoc]
  next other => simpa using fun _ _ _ _ _ eq => absurd eq (other _ _ _ _ _)

/-- The coverage is the two bytes of the record, whose four upper bits are clear (R192). -/
theorem coverage_toNat {hi lo : Byte} (h : ofTwoBytes hi lo < 4096) :
    (BitVec.ofNat 12 (ofTwoBytes hi lo)).toNat = ofTwoBytes hi lo := by
  simpa using h

theorem antennaLayout_coded : antennaLayout.Coded where
  length h := by
    obtain ⟨en, covHi, covLo, cls, limit, rfl, -⟩ := antenna_ofRecord_eq_some.1 h
    rfl
  passes {r} len := by
    match r, len with
    | [en, covHi, covLo, cls, limit], _ =>
      have upper : ofTwoBytes covHi covLo < 4096 ↔ covHi.toNat < 16 := by simp only [ofTwoBytes]; omega
      simp [antennaLayout, antenna_ofRecord_eq_some, recordPasses, byteAt, upper]
      tauto
  stored {r e b i k} h at_i entry k' at_i' := by
    obtain ⟨en, covHi, covLo, cls, limit, rfl, ⟨-, -, hcov, -⟩, rfl⟩ := antenna_ofRecord_eq_some.1 h
    obtain rfl := index_unique at_i (at_i'.trans (add_comm _ 1))
    have at_k : b.antennas.get k' = _ := entry
    rw [at_k]
    exact ⟨rfl, coverage_toNat hcov, rfl, rfl⟩
  encode_eq {r e} h := by
    obtain ⟨en, covHi, covLo, cls, limit, rfl, ⟨hen, hcls, hcov, -⟩, rfl⟩ := antenna_ofRecord_eq_some.1 h
    simp only [antennaLayout, AntennaEntry.record, coverage_toNat hcov, byte_flag hen, shareClass_twoValued.byte_code hcls,
      twoBytes_ofTwoBytes, byte_toNat, readBack]
    rfl
  decode_readBack h := h

/-- The Lockout Table (R16). -/
def lockoutLayout : Layout .lockoutTable LockoutEntry 16 where
  rows := Bank.lockouts
  withRows b v := { b with lockouts := v }
  index := ofNum 16
  decode := LockoutEntry.ofRecord
  encode := LockoutEntry.record

theorem lockoutLayout_placed : lockoutLayout.Placed where
  index_eq_some := ofNum_eq_some

theorem lockout_ofRecord_eq_some {r : List Byte} {e : LockoutEntry} :
    LockoutEntry.ofRecord r = some e ↔ ∃ v first second : Byte, r = [v, first, second] ∧ v.toNat ≤ 1 ∧
      ∃ x : Band, first.toNat = 1 + x.val ∧ ∃ y : Band, second.toNat = 1 + y.val ∧ ⟨decide (v.toNat = 1), x, y⟩ = e := by
  unfold LockoutEntry.ofRecord
  split
  next v first second => simp [Option.bind_eq_some_iff, ofFlag_eq_some, ofNum_eq_some, and_assoc]
  next other => simpa using fun _ _ _ eq => absurd eq (other _ _ _)

theorem lockoutLayout_coded : lockoutLayout.Coded where
  length h := by
    obtain ⟨v, first, second, rfl, -⟩ := lockout_ofRecord_eq_some.1 h
    rfl
  passes {r} len := by
    match r, len with
    | [v, first, second], _ =>
      simp [lockoutLayout, lockout_ofRecord_eq_some, recordPasses, byteAt, exists_index_iff]
  stored {r e b i k} h at_i entry k' at_i' := by
    obtain ⟨v, first, second, rfl, -, x, hx, y, hy, rfl⟩ := lockout_ofRecord_eq_some.1 h
    obtain rfl := index_unique at_i (at_i'.trans (add_comm _ 1))
    have at_k : b.lockouts.get k' = _ := entry
    rw [at_k]
    exact ⟨rfl, (hx.trans (add_comm _ _)).symm, (hy.trans (add_comm _ _)).symm⟩
  encode_eq {r e} h := by
    obtain ⟨v, first, second, rfl, hv, x, hx, y, hy, rfl⟩ := lockout_ofRecord_eq_some.1 h
    simp [lockoutLayout, LockoutEntry.record, byte_flag hv, byte_num hx, byte_num hy, readBack]
  decode_readBack h := h

/-- The Line Code Map (R8). -/
def lineCodeLayout : Layout .lineCodeMap (Option Nat) 16 where
  rows := Bank.lineCodes
  withRows b v := { b with lineCodes := v }
  index := ofIndex 16
  decode := lineCodeOfRecord
  encode := lineCodeRecord

theorem lineCodeLayout_placed : lineCodeLayout.Placed where
  index_eq_some := by simp [lineCodeLayout, ofIndex_eq_some, TableId.first]

theorem lineCodeOfRecord_eq_some {r : List Byte} {e : Option Nat} :
    lineCodeOfRecord r = some e ↔ ∃ n : Byte, r = [n] ∧ (if n.toNat = 0 then none else some n.toNat) = e := by
  unfold lineCodeOfRecord
  split
  next n => simp
  next other => simpa using fun _ eq => absurd eq (other _)

theorem lineCodeLayout_coded : lineCodeLayout.Coded where
  length h := by
    obtain ⟨n, rfl, -⟩ := lineCodeOfRecord_eq_some.1 h
    rfl
  passes {r} len := by
    match r, len with
    | [n], _ => simp [lineCodeLayout, lineCodeOfRecord_eq_some, recordPasses]
  stored {r e b i k} h at_i entry k' at_i' := by
    obtain ⟨n, rfl, rfl⟩ := lineCodeOfRecord_eq_some.1 h
    obtain rfl := index_unique at_i (at_i'.trans (zero_add _).symm)
    exact entry
  encode_eq {r e} h := by
    obtain ⟨n, rfl, rfl⟩ := lineCodeOfRecord_eq_some.1 h
    have written : byte ((if n.toNat = 0 then none else some n.toNat : Option Nat).getD 0) = n :=
      byte_eq_of_toNat (by split <;> simp [*])
    simp only [lineCodeLayout, lineCodeRecord, written, readBack]
  decode_readBack h := h

/-- The modes of the Coil Groups (R14). -/
def groupLayout : Layout .coilGroups GroupMode 8 where
  rows := Bank.groups
  withRows b v := { b with groups := v }
  index := ofIndex 8
  decode := groupModeOfRecord
  encode m := [byte m.code]

theorem groupLayout_placed : groupLayout.Placed where
  index_eq_some := by simp [groupLayout, ofIndex_eq_some, TableId.first]

theorem groupModeOfRecord_eq_some {r : List Byte} {m : GroupMode} :
    groupModeOfRecord r = some m ↔
      ∃ x : Byte, r = [x] ∧ x.toNat ≤ 1 ∧ (if x.toNat = 1 then .exclusive else .shared) = m := by
  unfold groupModeOfRecord
  split
  next x => simp [groupMode_twoValued.eq_some, eq_comm]
  next other => simpa using fun _ eq => absurd eq (other _)

theorem groupLayout_coded : groupLayout.Coded where
  length h := by
    obtain ⟨x, rfl, -⟩ := groupModeOfRecord_eq_some.1 h
    rfl
  passes {r} len := by
    match r, len with
    | [x], _ => simp [groupLayout, groupModeOfRecord_eq_some, recordPasses, byteAt]
  stored {r e b i k} h at_i entry k' at_i' := by
    obtain ⟨x, rfl, -, rfl⟩ := groupModeOfRecord_eq_some.1 h
    obtain rfl := index_unique at_i (at_i'.trans (zero_add _).symm)
    exact entry
  encode_eq {r e} h := by
    obtain ⟨x, rfl, hx, rfl⟩ := groupModeOfRecord_eq_some.1 h
    simp [groupLayout, groupMode_twoValued.byte_code hx, readBack]
  decode_readBack h := h

/-- The Coil Table (R15). -/
def coilLayout : Layout .coilTable CoilEntry 64 where
  rows := Bank.coils
  withRows b v := { b with coils := v }
  index := ofIndex 64
  decode := CoilEntry.ofRecord
  encode := CoilEntry.record

theorem coilLayout_placed : coilLayout.Placed where
  index_eq_some := by simp [coilLayout, ofIndex_eq_some, TableId.first]

theorem coil_ofRecord_eq_some {r : List Byte} {e : CoilEntry} :
    CoilEntry.ofRecord r = some e ↔ ∃ rest diag thr safe : Byte, r = [rest, diag, thr, safe] ∧
      (rest.toNat ≤ 1 ∧ diag.toNat ≤ 1 ∧ thr.toNat ≤ 1 ∧ safe.toNat ≤ 3) ∧
      ⟨decide (rest.toNat = 1), decide (diag.toNat = 1), if thr.toNat = 1 then .t1 else .t0,
        if safe.toNat = 0 then .off else if safe.toNat = 1 then .on else if safe.toNat = 2 then .sa else .sb⟩ = e := by
  unfold CoilEntry.ofRecord
  split
  next rest diag thr safe =>
    simp [Option.bind_eq_some_iff, ofFlag_eq_some, shortThreshold_twoValued.eq_some, failSafe_eq_some, and_assoc]
  next other => simpa using fun _ _ _ _ eq => absurd eq (other _ _ _ _)

theorem coilLayout_coded : coilLayout.Coded where
  length h := by
    obtain ⟨rest, diag, thr, safe, rfl, -⟩ := coil_ofRecord_eq_some.1 h
    rfl
  passes {r} len := by
    match r, len with
    | [rest, diag, thr, safe], _ => simp [coilLayout, coil_ofRecord_eq_some, recordPasses, byteAt]
  stored {r e b i k} h at_i entry k' at_i' := by
    obtain ⟨rest, diag, thr, safe, rfl, -, rfl⟩ := coil_ofRecord_eq_some.1 h
    obtain rfl := index_unique at_i (at_i'.trans (zero_add _).symm)
    exact entry
  encode_eq {r e} h := by
    obtain ⟨rest, diag, thr, safe, rfl, ⟨hrest, hdiag, hthr, hsafe⟩, rfl⟩ := coil_ofRecord_eq_some.1 h
    simp [coilLayout, CoilEntry.record, byte_flag hrest, byte_flag hdiag, shortThreshold_twoValued.byte_code hthr,
      byte_failSafe hsafe, readBack]
  decode_readBack h := h

end Sys2Proof.Proofs.Records

/-!
WRITE (O38), the Timing Set and the Diagnostic Setup: tables of one entry, whose record is checked before the index.
-/
namespace Sys2Proof.Proofs.Records
open Sys2Proof Sys2Proof.Machine Sys2Proof.Proofs.Bytes

/-! ### The two tables of one entry -/

/-- The index 1 is the one index of a table of one entry. -/
theorem ofNum_one (i : Nat) : ofNum 1 i = if i = 1 then some 0 else none := by
  by_cases h : i = 1
  · subst h; rfl
  · have : ¬ (1 ≤ i ∧ i ≤ 1) := by omega
    simp [ofNum, h, this]

/-- A write to a table of one entry checks its record before its index, with the same result (R198). -/
theorem bind_ite_index {E : Type} (i : Nat) (o : Option E) (f : Fin 1 → E → Bank) :
    (o.bind fun e => if i = 1 then some (f 0 e) else none) = (ofNum 1 i).bind fun k => o.bind fun e => some (f k e) := by
  rw [ofNum_one]
  split
  · rfl
  · cases o <;> rfl

/-- The Timing Set (R17). -/
def timingLayout : Layout .timingSet TimingSet 1 where
  rows b := #v[b.timing]
  withRows b v := { b with timing := v.get 0 }
  index := ofNum 1
  decode := TimingSet.ofRecord
  encode := TimingSet.record

/-- A table of one entry is its entry. -/
theorem singleton_get {α : Type} (v : Vector α 1) : #v[v.get 0] = v := by
  apply vector_ext
  intro i
  rw [Subsingleton.elim i 0]
  rfl

theorem timingLayout_placed : timingLayout.Placed where
  write_eq b i r := bind_ite_index i (TimingSet.ofRecord r) fun k e => { b with timing := (put #v[b.timing] k e).get 0 }
  record_eq b i := by
    simp only [timingLayout, ofNum_one, Bank.record]
    split <;> rfl
  index_eq_some := ofNum_eq_some
  rows_withRows b v := singleton_get v

/-- The ranges and steps of R17. -/
theorem timing_inRange_iff (t : TimingSet) : t.inRange = true ↔
    (1 ≤ t.breakMs ∧ t.breakMs ≤ 100) ∧ (1 ≤ t.makeMs ∧ t.makeMs ≤ 100) ∧ t.blankMs ∈ [2, 4, 6, 8, 10, 15, 20, 30] ∧
    (t.tailMs ≤ 2000 ∧ t.tailMs % 10 = 0) ∧
    (t.keyWaitMs = 0 ∨ 100 ≤ t.keyWaitMs ∧ t.keyWaitMs ≤ 25500 ∧ t.keyWaitMs % 100 = 0) ∧
    (1 ≤ t.quietWaitS ∧ t.quietWaitS ≤ 60) ∧ (1 ≤ t.commitWaitS ∧ t.commitWaitS ≤ 120) ∧
    5 ≤ t.settleMs ∧ t.settleMs ≤ 250 ∧ t.settleMs % 5 = 0 := by
  simp only [TimingSet.inRange, Bool.and_eq_true, decide_eq_true_eq, List.contains_iff_mem, and_assoc]

theorem timing_ofRecord_eq_some {r : List Byte} {t : TimingSet} :
    TimingSet.ofRecord r = some t ↔ ∃ brk mk blank tailHi tailLo kwHi kwLo quiet commit settle : Byte,
      r = [brk, mk, blank, tailHi, tailLo, kwHi, kwLo, quiet, commit, settle] ∧ t.inRange = true ∧
      ⟨brk.toNat, mk.toNat, blank.toNat, ofTwoBytes tailHi tailLo, ofTwoBytes kwHi kwLo, quiet.toNat, commit.toNat,
        settle.toNat⟩ = t := by
  unfold TimingSet.ofRecord
  split
  next brk mk blank tailHi tailLo kwHi kwLo quiet commit settle =>
    simp only [Option.ite_none_right_eq_some, Option.some.injEq]
    constructor
    · rintro ⟨range, rfl⟩
      exact ⟨_, _, _, _, _, _, _, _, _, _, rfl, range, rfl⟩
    · rintro ⟨_, _, _, _, _, _, _, _, _, _, ⟨⟩, range, rfl⟩
      exact ⟨range, rfl⟩
  next other => simpa using fun _ _ _ _ _ _ _ _ _ _ eq => absurd eq (other _ _ _ _ _ _ _ _ _ _)

theorem timingLayout_coded : timingLayout.Coded where
  length h := by
    obtain ⟨_, _, _, _, _, _, _, _, _, _, rfl, -⟩ := timing_ofRecord_eq_some.1 h
    rfl
  passes {r} len := by
    change (∃ t, TimingSet.ofRecord r = some t) ↔ _
    match r, len with
    | [brk, mk, blank, tailHi, tailLo, kwHi, kwLo, quiet, commit, settle], _ =>
      constructor
      · rintro ⟨t, h⟩
        obtain ⟨_, _, _, _, _, _, _, _, _, _, ⟨⟩, range, rfl⟩ := timing_ofRecord_eq_some.1 h
        exact ⟨rfl, (timing_inRange_iff _).1 range⟩
      · rintro ⟨-, range⟩
        exact ⟨_, timing_ofRecord_eq_some.2
          ⟨_, _, _, _, _, _, _, _, _, _, rfl, (timing_inRange_iff _).2 range, rfl⟩⟩
  stored {r e b i k} h _ entry := by
    obtain ⟨_, _, _, _, _, _, _, _, _, _, rfl, -, rfl⟩ := timing_ofRecord_eq_some.1 h
    obtain rfl := Subsingleton.elim k 0
    exact entry
  encode_eq {r e} h := by
    obtain ⟨_, _, _, _, _, _, _, _, _, _, rfl, -, rfl⟩ := timing_ofRecord_eq_some.1 h
    simp [timingLayout, TimingSet.record, readBack]
  decode_readBack h := h

/-- The Diagnostic Setup (R18). -/
def diagnosticLayout : Layout .diagnosticSetup DiagnosticSetup 1 where
  rows b := #v[b.diagnostics]
  withRows b v := { b with diagnostics := v.get 0 }
  index := ofNum 1
  decode := DiagnosticSetup.ofRecord
  encode := DiagnosticSetup.record

theorem diagnosticLayout_placed : diagnosticLayout.Placed where
  write_eq b i r := bind_ite_index i (DiagnosticSetup.ofRecord r) fun k e =>
    { b with diagnostics := (put #v[b.diagnostics] k e).get 0 }
  record_eq b i := by
    simp only [diagnosticLayout, ofNum_one, Bank.record]
    split <;> rfl
  index_eq_some := ofNum_eq_some
  rows_withRows b v := singleton_get v

/-- The ranges and steps of R18. -/
theorem diagnostic_inRange_iff (d : DiagnosticSetup) : d.inRange = true ↔
    (5 ≤ d.openLimit ∧ d.openLimit ≤ 100 ∧ d.openLimit % 5 = 0) ∧ (50 ≤ d.t0 ∧ d.t0 ≤ 1000 ∧ d.t0 % 10 = 0) ∧
    (50 ≤ d.t1 ∧ d.t1 ≤ 1000 ∧ d.t1 % 10 = 0) ∧ (100 ≤ d.supplyLow ∧ d.supplyLow ≤ 260) ∧
    90 ≤ d.supplyFail ∧ d.supplyFail ≤ 250 := by
  simp only [DiagnosticSetup.inRange, Bool.and_eq_true, decide_eq_true_eq, and_assoc]

/-- The mask byte's five flags (R18). -/
def maskOf (m : Byte) : NoticeMask := ⟨m.getLsbD 0, m.getLsbD 1, m.getLsbD 2, m.getLsbD 3, m.getLsbD 4⟩

theorem maskOf_eq (m : Byte) : maskOf m = ⟨decide (m.toNat % 2 = 1), decide (m.toNat / 2 % 2 = 1),
    decide (m.toNat / 4 % 2 = 1), decide (m.toNat / 8 % 2 = 1), decide (m.toNat / 16 % 2 = 1)⟩ := by
  simp only [maskOf, getLsbD_eq_decide, Nat.reducePow, Nat.pow_zero, Nat.div_one]

/-- A mask byte with the bits 5 to 7 clear is the code of its flags (R192). -/
theorem byte_maskOf {m : Byte} (h : m.toNat < 32) : byte (maskOf m).code = m := by
  apply byte_eq_of_toNat
  simp only [maskOf_eq, NoticeMask.code, bitsOf, List.foldr_cons, List.foldr_nil, flag_decide_mod_two]
  omega

theorem diagnostic_ofRecord_eq_some {r : List Byte} {d : DiagnosticSetup} :
    DiagnosticSetup.ofRecord r = some d ↔ ∃ openLimit t0Hi t0Lo t1Hi t1Lo lowHi lowLo failHi failLo mask : Byte,
      r = [openLimit, t0Hi, t0Lo, t1Hi, t1Lo, lowHi, lowLo, failHi, failLo, mask] ∧
      (d.inRange = true ∧ mask.toNat < 32) ∧ ⟨openLimit.toNat, ofTwoBytes t0Hi t0Lo, ofTwoBytes t1Hi t1Lo,
        ofTwoBytes lowHi lowLo, ofTwoBytes failHi failLo, maskOf mask⟩ = d := by
  unfold DiagnosticSetup.ofRecord
  split
  next openLimit t0Hi t0Lo t1Hi t1Lo lowHi lowLo failHi failLo mask =>
    simp only [Option.ite_none_right_eq_some, Option.some.injEq]
    constructor
    · rintro ⟨range, rfl⟩
      exact ⟨_, _, _, _, _, _, _, _, _, _, rfl, range, rfl⟩
    · rintro ⟨_, _, _, _, _, _, _, _, _, _, ⟨⟩, range, rfl⟩
      exact ⟨range, rfl⟩
  next other => simpa using fun _ _ _ _ _ _ _ _ _ _ eq => absurd eq (other _ _ _ _ _ _ _ _ _ _)

theorem diagnosticLayout_coded : diagnosticLayout.Coded where
  length h := by
    obtain ⟨_, _, _, _, _, _, _, _, _, _, rfl, -⟩ := diagnostic_ofRecord_eq_some.1 h
    rfl
  passes {r} len := by
    change (∃ d, DiagnosticSetup.ofRecord r = some d) ↔ _
    match r, len with
    | [openLimit, t0Hi, t0Lo, t1Hi, t1Lo, lowHi, lowLo, failHi, failLo, mask], _ =>
      constructor
      · rintro ⟨d, h⟩
        obtain ⟨_, _, _, _, _, _, _, _, _, _, ⟨⟩, ⟨range, small⟩, rfl⟩ := diagnostic_ofRecord_eq_some.1 h
        obtain ⟨openLimit, t0, t1, low, fail⟩ := (diagnostic_inRange_iff _).1 range
        exact ⟨rfl, openLimit, t0, t1, low, fail, small⟩
      · rintro ⟨-, openLimit, t0, t1, low, fail, small⟩
        exact ⟨_, diagnostic_ofRecord_eq_some.2 ⟨_, _, _, _, _, _, _, _, _, _, rfl,
          ⟨(diagnostic_inRange_iff _).2 ⟨openLimit, t0, t1, low, fail⟩, small⟩, rfl⟩⟩
  stored {r e b i k} h _ entry := by
    obtain ⟨_, _, _, _, _, _, _, _, _, mask, rfl, -, rfl⟩ := diagnostic_ofRecord_eq_some.1 h
    obtain rfl := Subsingleton.elim k 0
    rw [maskOf_eq] at entry
    exact entry
  encode_eq {r e} h := by
    obtain ⟨_, _, _, _, _, _, _, _, _, mask, rfl, ⟨-, small⟩, rfl⟩ := diagnostic_ofRecord_eq_some.1 h
    simp [diagnosticLayout, DiagnosticSetup.record, byte_maskOf small, readBack]
  decode_readBack h := h

end Sys2Proof.Proofs.Records

/-!
WRITE (O38), the Preference Lists and the Path Table: what lies beyond the count is neither checked nor kept, and reads back
as 0 (R9, R12). The statement is assembled here from the twelve layouts.
-/
namespace Sys2Proof.Proofs.Records
open Sys2Proof Sys2Proof.Machine Sys2Proof.Proofs.Bytes

/-! ### The two tables whose records carry a count -/

/-- A field whose unused bytes are cleared starts with the bytes in use. -/
theorem take_cleared {c n : Nat} {l : List Byte} (h : c ≤ l.length) :
    (l.take c ++ List.replicate (n - c) 0).take c = l.take c := by
  rw [List.take_append_of_le_length (by simp [h]), List.take_take, min_self]

theorem length_cleared {c n : Nat} {l : List Byte} (hl : l.length = n) (h : c ≤ n) :
    (l.take c ++ List.replicate (n - c) 0).length = n := by
  simp [hl, h]

/-- The Preference Lists (R9). -/
def preferenceLayout : Layout .preferenceLists (List Nat) 16 where
  rows := Bank.preferences
  withRows b v := { b with preferences := v }
  index := ofNum 16
  decode := preferenceOfRecord
  encode := preferenceRecord

theorem preferenceLayout_placed : preferenceLayout.Placed where
  index_eq_some := ofNum_eq_some

theorem preferenceOfRecord_eq_some {r : List Byte} {l : List Nat} :
    preferenceOfRecord r = some l ↔ ∃ (count : Byte) (slots : List Byte), r = count :: slots ∧
      (slots.length = 4 ∧ count.toNat ≤ 4 ∧ ((slots.take count.toNat).map BitVec.toNat).Nodup) ∧
      (slots.take count.toNat).map BitVec.toNat = l := by
  cases r with
  | nil => simp [preferenceOfRecord]
  | cons count slots => simp [preferenceOfRecord, and_assoc]

/-- The counted slots by their places in the record. -/
theorem counted_slots {count : Byte} {slots : List Byte} (h : count.toNat ≤ slots.length) :
    (slots.take count.toNat).map BitVec.toNat =
      (List.range count.toNat).map fun j => byteAt (count :: slots) (j + 1) := by
  rw [take_eq_map_range h, List.map_map]
  rfl

theorem preferenceRecord_counted {count : Byte} {slots : List Byte} (hl : slots.length = 4) (h : count.toNat ≤ 4) :
    preferenceRecord ((slots.take count.toNat).map BitVec.toNat) =
      count :: (slots.take count.toNat ++ List.replicate (4 - count.toNat) 0) := by
  have used : (slots.take count.toNat).length = count.toNat := by simp [hl, h]
  have bytes : ((slots.take count.toNat).map BitVec.toNat).map byte = slots.take count.toNat := by
    simp [Function.comp_def]
  rw [preferenceRecord, bytes, padded_eq (by omega), List.length_map, used, byte_toNat]

theorem readBack_preference (count : Byte) (slots : List Byte) : readBack .preferenceLists (count :: slots) =
    count :: (slots.take count.toNat ++ List.replicate (4 - count.toNat) 0) := by
  simp [readBack, byteAt, add_comm 1]

theorem preferenceLayout_coded : preferenceLayout.Coded where
  length h := by
    obtain ⟨count, slots, rfl, ⟨hl, -, -⟩, -⟩ := preferenceOfRecord_eq_some.1 h
    simp [hl, TableId.recordLength]
  passes {r} len := by
    change (∃ l, preferenceOfRecord r = some l) ↔ _
    obtain ⟨count, slots, rfl⟩ := List.exists_cons_of_length_eq_add_one (n := 4) len
    have hl : slots.length = 4 := by simpa [TableId.recordLength] using len
    have distinct (h : count.toNat ≤ 4) : ((slots.take count.toNat).map BitVec.toNat).Nodup ↔
        ∀ j, j < count.toNat → ∀ i, i < j → byteAt (count :: slots) (i + 1) ≠ byteAt (count :: slots) (j + 1) := by
      rw [counted_slots (by omega), nodup_map_range]
    simp only [preferenceOfRecord_eq_some]
    constructor
    · rintro ⟨l, _, _, ⟨⟩, ⟨-, few, nodup⟩, -⟩
      exact ⟨len, few, (distinct few).1 nodup⟩
    · rintro ⟨-, few, apart⟩
      exact ⟨_, _, _, rfl, ⟨hl, few, (distinct few).2 apart⟩, rfl⟩
  stored {r e b i k} h at_i entry k' at_i' := by
    obtain ⟨count, slots, rfl, ⟨hl, few, -⟩, rfl⟩ := preferenceOfRecord_eq_some.1 h
    obtain rfl := index_unique at_i (at_i'.trans (add_comm _ 1))
    exact entry.trans (counted_slots (by omega))
  encode_eq {r e} h := by
    obtain ⟨count, slots, rfl, ⟨hl, few, -⟩, rfl⟩ := preferenceOfRecord_eq_some.1 h
    exact (preferenceRecord_counted hl few).trans (readBack_preference count slots).symm
  decode_readBack {r e} h := by
    obtain ⟨count, slots, rfl, ⟨hl, few, nodup⟩, rfl⟩ := preferenceOfRecord_eq_some.1 h
    have same : (slots.take count.toNat ++ List.replicate (4 - count.toNat) 0).take count.toNat = slots.take count.toNat :=
      take_cleared (by omega)
    rw [readBack_preference]
    exact preferenceOfRecord_eq_some.2 ⟨_, _, rfl, ⟨length_cleared hl few, few, by rwa [same]⟩, by rw [same]⟩

/-! ### Claims and paths (R12) -/

/-- The claim a claim byte makes. -/
def claimOf (b : Byte) : Claim := ⟨⟨b.toNat % 64, Nat.mod_lt _ (by decide)⟩, b.getLsbD 7⟩

theorem claim_ofByte_eq (b : Byte) : Claim.ofByte b = if b.getLsbD 6 then none else some (claimOf b) := rfl

theorem claim_ofByte_eq_some {b : Byte} {c : Claim} :
    Claim.ofByte b = some c ↔ b.toNat / 64 % 2 = 0 ∧ claimOf b = c := by
  simp only [claim_ofByte_eq, getLsbD_eq_decide, Nat.reducePow, decide_eq_true_eq, Option.ite_none_left_eq_some,
    Option.some.injEq, Nat.mod_two_not_eq_one]

theorem claimOf_on (b : Byte) : (claimOf b).on = decide (128 ≤ b.toNat) := by
  simp only [claimOf, getLsbD_eq_decide, Nat.reducePow]
  congr 1
  apply propext
  omega

/-- A claim byte whose bit 6 is clear is the record of its claim (R192). -/
theorem claimOf_record {b : Byte} (h : b.toNat / 64 % 2 = 0) : (claimOf b).record = b := by
  apply byte_eq_of_toNat
  rw [claimOf_on]
  simp only [claimOf, flag, decide_eq_true_eq]
  split <;> omega

/-- A list of claim bytes stands for claims exactly when bit 6 is clear in each of them. -/
theorem mapM_claim_eq_some {l : List Byte} {cs : List Claim} :
    l.mapM Claim.ofByte = some cs ↔ (∀ b ∈ l, b.toNat / 64 % 2 = 0) ∧ l.map claimOf = cs := by
  induction l generalizing cs with
  | nil => simp [eq_comm]
  | cons b l ih => simp [Option.bind_eq_some_iff, claim_ofByte_eq_some, ih, and_assoc]

/-- The Path Table (R12). -/
def pathLayout : Layout .pathTable PathEntry 96 where
  rows := Bank.paths
  withRows b v := { b with paths := v }
  index := ofNum 96
  decode := PathEntry.ofRecord
  encode := PathEntry.record

theorem pathLayout_placed : pathLayout.Placed where
  index_eq_some := ofNum_eq_some

/-- A record of a path is that of one not defined, or of one with its counted claims. -/
theorem path_ofRecord_eq_some {r : List Byte} {e : PathEntry} :
    PathEntry.ofRecord r = some e ↔ ∃ (dfn count : Byte) (bytes : List Byte), r = dfn :: count :: bytes ∧
      bytes.length = 6 ∧ (dfn.toNat = 0 ∧ ⟨false, []⟩ = e ∨
        dfn.toNat = 1 ∧ (1 ≤ count.toNat ∧ count.toNat ≤ 6) ∧ (∀ b ∈ bytes.take count.toNat, b.toNat / 64 % 2 = 0) ∧
          ⟨true, (bytes.take count.toNat).map claimOf⟩ = e) := by
  unfold PathEntry.ofRecord
  split
  next dfn count bytes =>
    have h : dfn.toNat = 0 ∨ dfn.toNat = 1 ∨ ¬ dfn.toNat ≤ 1 := by omega
    obtain h | h | h := h
    · simp [Option.bind_eq_some_iff, ofFlag_eq_some, h]
    · simp [Option.bind_eq_some_iff, ofFlag_eq_some, mapM_claim_eq_some, h, and_assoc]
    · simp [Option.bind_eq_some_iff, ofFlag_eq_some, h]
      omega
  next other => simpa using fun _ _ _ eq => absurd eq (other _ _ _)

/-- The counted claim bytes by their places in the record. -/
theorem counted_clear_iff {dfn count : Byte} {bytes : List Byte} (h : count.toNat ≤ bytes.length) :
    (∀ b ∈ bytes.take count.toNat, b.toNat / 64 % 2 = 0) ↔
      ∀ j, j < count.toNat → byteAt (dfn :: count :: bytes) (j + 2) / 64 % 2 = 0 := by
  simp [take_eq_map_range h, byteAt]

theorem counted_claims (dfn : Byte) {count : Byte} {bytes : List Byte} (h : count.toNat ≤ bytes.length) :
    ((bytes.take count.toNat).map claimOf).map (fun k => (k.coil.val, k.on)) =
      (List.range count.toNat).map fun j => (byteAt (dfn :: count :: bytes) (j + 2) % 64,
        decide (128 ≤ byteAt (dfn :: count :: bytes) (j + 2))) := by
  rw [take_eq_map_range h, List.map_map, List.map_map]
  simp only [Function.comp_def, claimOf_on]
  rfl

theorem path_record_undefined : PathEntry.record ⟨false, []⟩ = List.replicate 8 0 := rfl

theorem path_record_defined {dfn count : Byte} {bytes : List Byte} (hd : dfn.toNat = 1) (hl : bytes.length = 6)
    (h : count.toNat ≤ 6) (clear : ∀ b ∈ bytes.take count.toNat, b.toNat / 64 % 2 = 0) :
    PathEntry.record ⟨true, (bytes.take count.toNat).map claimOf⟩ =
      dfn :: count :: (bytes.take count.toNat ++ List.replicate (6 - count.toNat) 0) := by
  have used : (bytes.take count.toNat).length = count.toNat := by simp [hl, h]
  have claims : ((bytes.take count.toNat).map claimOf).map Claim.record = bytes.take count.toNat := by
    rw [List.map_map]
    exact (List.map_congr_left fun b hb => claimOf_record (clear b hb)).trans (List.map_id _)
  have one : byte (flag true) = dfn := byte_eq_of_toNat hd
  simp only [PathEntry.record, one, claims, List.length_map, used, byte_toNat, padded_eq (used.le.trans h)]

theorem readBack_path_undefined {dfn count : Byte} {bytes : List Byte} (h : dfn.toNat = 0) :
    readBack .pathTable (dfn :: count :: bytes) = List.replicate 8 0 := by
  simp [readBack, byteAt, h]

theorem readBack_path_defined {dfn count : Byte} {bytes : List Byte} (h : dfn.toNat = 1) :
    readBack .pathTable (dfn :: count :: bytes) =
      dfn :: count :: (bytes.take count.toNat ++ List.replicate (6 - count.toNat) 0) := by
  simp [readBack, byteAt, h, add_comm 2]

theorem pathLayout_coded : pathLayout.Coded where
  length h := by
    obtain ⟨dfn, count, bytes, rfl, hl, -⟩ := path_ofRecord_eq_some.1 h
    simp [hl, TableId.recordLength]
  passes {r} len := by
    change (∃ e, PathEntry.ofRecord r = some e) ↔ _
    obtain ⟨dfn, tail, rfl⟩ := List.exists_cons_of_length_eq_add_one (n := 7) len
    obtain ⟨count, bytes, rfl⟩ := List.exists_cons_of_length_eq_add_one (n := 6) (Nat.succ.inj len)
    have hl : bytes.length = 6 := by simpa [TableId.recordLength] using len
    simp only [path_ofRecord_eq_some]
    constructor
    · rintro ⟨e, _, _, _, ⟨⟩, -, ⟨zero, -⟩ | ⟨one, few, clear, -⟩⟩
      · exact ⟨len, .inl zero⟩
      · exact ⟨len, .inr ⟨one, few, (counted_clear_iff (few.2.trans hl.ge)).1 clear⟩⟩
    · rintro ⟨-, zero | ⟨one, few, clear⟩⟩
      · exact ⟨_, _, _, _, rfl, hl, .inl ⟨zero, rfl⟩⟩
      · exact ⟨_, _, _, _, rfl, hl, .inr ⟨one, few, (counted_clear_iff (few.2.trans hl.ge)).2 clear, rfl⟩⟩
  stored {r e b i k} h at_i entry p a at_i' := by
    obtain ⟨dfn, count, bytes, rfl, hl, kinds⟩ := path_ofRecord_eq_some.1 h
    have index : pathIndex p a = k := index_unique at_i (at_i'.trans (add_comm _ 1))
    have at_k : path b p a = e := by rw [path, index]; exact entry
    rw [at_k]
    obtain ⟨zero, rfl⟩ | ⟨one, few, -, rfl⟩ := kinds
    · simp [byteAt, zero]
    · exact ⟨by simp [byteAt, one], (counted_claims dfn (few.2.trans hl.ge)).trans (if_pos one).symm⟩
  encode_eq {r e} h := by
    obtain ⟨dfn, count, bytes, rfl, hl, ⟨zero, rfl⟩ | ⟨one, few, clear, rfl⟩⟩ := path_ofRecord_eq_some.1 h
    · exact path_record_undefined.trans (readBack_path_undefined zero).symm
    · exact (path_record_defined one hl few.2 clear).trans (readBack_path_defined one).symm
  decode_readBack {r e} h := by
    obtain ⟨dfn, count, bytes, rfl, hl, ⟨zero, rfl⟩ | ⟨one, few, clear, rfl⟩⟩ := path_ofRecord_eq_some.1 h
    · rw [readBack_path_undefined zero]
      rfl
    · have same : (bytes.take count.toNat ++ List.replicate (6 - count.toNat) 0).take count.toNat =
          bytes.take count.toNat := take_cleared (by omega)
      rw [readBack_path_defined one]
      exact path_ofRecord_eq_some.2 ⟨_, _, _, rfl, length_cleared hl few.2, .inr ⟨one, few, by rwa [same], by rw [same]⟩⟩

/-! ### WRITE, table by table -/

/-- Settles O38: each of the twelve tables has a layout, and the effect of WRITE follows from it. -/
theorem writtenRecordReadsBack : Obligations.WrittenRecordReadsBack := by
  intro b t i r
  cases t with
  | positionTable => exact positionLayout_placed.effect positionLayout_coded b i r
  | bandPlan => exact planLayout_placed.effect planLayout_coded b i r
  | bandAttributes => exact attributesLayout_placed.effect attributesLayout_coded b i r
  | preferenceLists => exact preferenceLayout_placed.effect preferenceLayout_coded b i r
  | antennaTable => exact antennaLayout_placed.effect antennaLayout_coded b i r
  | pathTable => exact pathLayout_placed.effect pathLayout_coded b i r
  | lockoutTable => exact lockoutLayout_placed.effect lockoutLayout_coded b i r
  | lineCodeMap => exact lineCodeLayout_placed.effect lineCodeLayout_coded b i r
  | coilGroups => exact groupLayout_placed.effect groupLayout_coded b i r
  | coilTable => exact coilLayout_placed.effect coilLayout_coded b i r
  | timingSet => exact timingLayout_placed.effect timingLayout_coded b i r
  | diagnosticSetup => exact diagnosticLayout_placed.effect diagnosticLayout_coded b i r

end Sys2Proof.Proofs.Records

/-!
The Band Plan search and the position lines (O3, O10, O13, O14).
-/
namespace Sys2Proof.Proofs.Lines
open Sys2Proof Sys2Proof.Machine Sys2Proof.Proofs.FirstIndex Sys2Proof.Proofs.Take Sys2Proof.Proofs.Bytes

/-- Settles O3: each table of the reset state is a constant one, so each entry is the constant. -/
theorem resetValues : Obligations.ResetValues := by
  have constant {α : Type} {n : Nat} (x : α) (i : Fin n) : (Vector.replicate n x).get i = x := replicate_get x i
  refine ⟨fun p => constant _ p, fun a => ?_, rfl, fun p => constant _ p, fun p k => ?_, fun p => constant _ p,
    fun g => constant _ g, rfl, fun c => constant _ c, fun c => ?_, fun p => constant _ p, rfl, ⟨rfl, rfl, rfl, rfl, rfl⟩,
    rfl, rfl, rfl, rfl, rfl, fun p => constant _ p, fun lp => constant _ lp, rfl, rfl⟩
  · have reset : State.reset.antenna a = AntennaRecord.reset := constant _ a
    rw [reset]
    exact ⟨rfl, fun p => constant _ p⟩
  · have row : State.reset.lines.get p = Vector.replicate 4 LineRecord.reset := constant _ p
    rw [row]
    exact constant _ k
  · have record : State.reset.sense c = ⟨0, .normal, .none⟩ := ofFn_get _ c
    rw [record]
    exact ⟨rfl, rfl⟩

/-! ### The Band Plan search (R22) -/

/-- Plan entry `i` is valid and contains the frequency (R22). -/
def containsFrequency (b : Bank) (f : Nat) (i : PlanIx) : Prop :=
  (b.plan.get i).valid = true ∧ (b.plan.get i).low ≤ f ∧ f ≤ (b.plan.get i).high

/-- What the search tests of an entry. -/
theorem planTest_iff (b : Bank) (f : Nat) (i : PlanIx) :
    ((b.plan.get i).valid && decide ((b.plan.get i).low ≤ f ∧ f ≤ (b.plan.get i).high)) = true ↔ containsFrequency b f i := by
  simp [containsFrequency]

/-- Settles O10: the search in ascending order finds the lowest index that meets its test. -/
theorem planSearchFindsFirstEntry : Obligations.PlanSearchFindsFirstEntry := by
  intro b f
  refine ⟨fun i => ?_, ?_⟩
  · simp only [planSearch, find_finRange_eq_some, ← Bool.not_eq_true, planTest_iff]
    rfl
  · simp only [planSearch, find_finRange_eq_none, ← Bool.not_eq_true, planTest_iff]
    rfl

/-! ### A change of level on a line (R23) -/

theorem exec_positionLineChange (p : Pos) (k : LineNo) (level : Bool) (s : State) :
    exec (.positionLineChange p k level) s = .next (s.positionLineChange p k level) := rfl

/-- The start of the settle timer replaces one classifier record and does nothing else (R23). -/
theorem event_startSettle (s : State) (p : Pos) : (s.event fun v w => startSettle v p w) =
    s.withClassRecord p { s.classRecord p with settleTimer := some s.bank.timing.settleMs } := rfl

/-- Settles O13, by the cases of `State.positionLineChange`. -/
theorem lineChangeStartsSettle : Obligations.LineChangeStartsSettle := by
  rintro s p k level s' rfl
  refine ⟨fun same => ?_, fun differs link => ?_, fun differs lines => ?_⟩
  · rw [exec_positionLineChange, State.positionLineChange, if_pos same]
  · rw [exec_positionLineChange, State.positionLineChange, if_neg differs]
    simp only [link]
    rfl
  · rw [exec_positionLineChange, State.positionLineChange, if_neg differs]
    simp only [lines, event_startSettle]
    rfl

/-! ### LINE_SET (R33) -/

/-- The five bytes that R189 defines for a line. -/
theorem lineCommand_ofByte_eq_none {b : Byte} :
    LineCommand.ofByte b = none ↔ b ∉ ([0x00, 0x10, 0x11, 0x12, 0x13] : List Byte) := by
  unfold LineCommand.ofByte
  split_ifs <;> simp_all

/-- A defined byte keeps the line, or carries its direction in bit 1 and its latch in bit 0 (R189). -/
theorem lineCommand_apply {b : Byte} {m : LineCommand} (h : LineCommand.ofByte b = some m) (r : LineRecord) :
    m.apply r = if b = 0x00 then r else ⟨decide (2 ≤ b.toNat % 16), decide (b.toNat % 2 = 1)⟩ := by
  unfold LineCommand.ofByte at h
  split_ifs at h <;> cases h <;> subst b <;> rfl


theorem exec_lineSet (lp : Pos) (body : List Byte) (s : State) :
    exec (.lineSet lp body) s = .next (s.handle lp 0x11 body fun s => s.lineSet body) := rfl

/-- The five codes of a LINE_SET body, of which one undefined is answered BAD_ARG (R33). -/
theorem lineSet_badArg {s : State} {n b0 b1 b2 b3 : Byte}
    (h : ofNum 6 n.toNat = none ∨ LineCommand.ofByte b0 = none ∨ LineCommand.ofByte b1 = none ∨
      LineCommand.ofByte b2 = none ∨ LineCommand.ofByte b3 = none) : s.lineSet [n, b0, b1, b2, b3] = (s, .badArg) := by
  unfold State.lineSet
  dsimp only
  split
  · simp_all
  · rfl

theorem lineSet_done {s : State} {n b0 b1 b2 b3 : Byte} {p : Pos} {m0 m1 m2 m3 : LineCommand}
    (hp : ofNum 6 n.toNat = some p) (h0 : LineCommand.ofByte b0 = some m0) (h1 : LineCommand.ofByte b1 = some m1)
    (h2 : LineCommand.ofByte b2 = some m2) (h3 : LineCommand.ofByte b3 = some m3) {m : LineNo → LineCommand}
    (hm : m = fun k => (#v[m0, m1, m2, m3]).get k) :
    s.lineSet [n, b0, b1, b2, b3] = (s.setLines p m, .done (n :: (s.setLines p m).lineBytes p)) := by
  subst hm
  simp only [State.lineSet, hp, h0, h1, h2, h3]

/-- The numbers that name no position (R189). -/
theorem ofNum_six_eq_none {n : Byte} : ofNum 6 n.toNat = none ↔ n = 0 ∨ 6 < n.toNat := by
  have zero : n = 0 ↔ n.toNat = 0 := by rw [← BitVec.toNat_inj]; rfl
  rw [zero]
  unfold ofNum
  split_ifs with range
  · simp only [false_iff]
    omega
  · simp only [true_iff]
    omega

/-- The byte a line is reported with (R193): the value read of the pin, latch, direction and function. -/
theorem lineByte_eq (s : State) (p : Pos) (k : LineNo) : s.lineByte p k =
    byte (flag (if (s.classRecord p).source = .link ∧ ((s.lines.get p).get k).out = true
        then ((s.lines.get p).get k).latch else (s.pins.lines.get p).get k)
      + 2 * flag ((s.lines.get p).get k).latch + 4 * flag ((s.lines.get p).get k).out
      + 8 * flag (decide ((s.classRecord p).source = .lines))) := by
  have driven : s.lineDriven p k = true ↔ (s.classRecord p).source = .link ∧ ((s.lines.get p).get k).out = true := by
    simp [State.lineDriven]
  simp only [State.lineByte, State.readValue, State.pinLevel, bitsOf, List.foldr, driven, State.classRecord]
  congr 1
  omega

/-- Settles O14: an undefined byte or position is the one way to BAD_ARG; else the four commands are applied line by line. -/
theorem lineSetSetsLines : Obligations.LineSetSetsLines := by
  intro s lp n m h
  refine ⟨fun undefined => ?_, fun p named allowed => ?_⟩
  · have badArg : ofNum 6 n.toNat = none ∨ LineCommand.ofByte (m.get 0) = none ∨ LineCommand.ofByte (m.get 1) = none ∨
        LineCommand.ofByte (m.get 2) = none ∨ LineCommand.ofByte (m.get 3) = none := by
      simp only [ofNum_six_eq_none, lineCommand_ofByte_eq_none]
      obtain no | ⟨k, bad⟩ := undefined
      · exact .inl no
      · match k with
        | 0 => exact .inr (.inl bad)
        | 1 => exact .inr (.inr (.inl bad))
        | 2 => exact .inr (.inr (.inr (.inl bad)))
        | 3 => exact .inr (.inr (.inr (.inr bad)))
    rw [exec_lineSet, handle_answered h (lineSet_badArg badArg)]
  · have defined (k : LineNo) : ∃ c, LineCommand.ofByte (m.get k) = some c :=
      Option.ne_none_iff_exists'.1 fun none => lineCommand_ofByte_eq_none.1 none (allowed k)
    choose c hc using defined
    have vec : c = fun k => (#v[c 0, c 1, c 2, c 3]).get k := by
      funext k
      match k with
      | 0 => rfl
      | 1 => rfl
      | 2 => rfl
      | 3 => rfl
    have number : ofNum 6 n.toNat = some p := ofNum_eq_some.2 (by omega)
    have done := lineSet_done (s := s.take lp) number (hc 0) (hc 1) (hc 2) (hc 3) vec
    have lines : ((s.setLines p c).lines.get p) = Vector.ofFn fun k => (c k).apply ((s.lines.get p).get k) :=
      put_get_same ..
    refine ⟨(s.setLines p c).answered lp 0x11 (.done (n :: (s.setLines p c).lineBytes p)), ?_, ?_, fun k => ?_⟩
    · rw [exec_lineSet, handle_taken _ h, done, ← placeReply_take]
      rfl
    · have reported := List.map_congr_left (l := List.finRange 4) fun k _ => lineByte_eq (s.setLines p c) p k
      rw [State.lineBytes, reported]
      simp only [State.answered, State.setLines, put_get_same]
      rfl
    · change ((s.setLines p c).lines.get p).get k = _
      rw [lines, ofFn_get]
      exact lineCommand_apply (hc k) _

end Sys2Proof.Proofs.Lines

/-!
Every band entry stays the one the Active bank gives (O59). Most commands leave the classifier and the Active bank
(`bandsKept`); the reports, the settle expiry, the line changes, load completion, the apply and the resets leave records that
`recordDerived` holds of.
-/
namespace Sys2Proof.Proofs.Entries
open Sys2Proof Sys2Proof.Machine

/-! ### A record derived under a bank (R20, R29) -/

/-- The record has the entry its source gives under the bank, and under LINK no settled code and no settle timer. -/
def recordDerived (b : Bank) (r : ClassRecord) : Prop :=
  r.entry = deriveEntry b r ∧ (r.source = .link → r.settled = none ∧ r.settleTimer = none)

/-- Every record of the classifier is derived under the bank. -/
def classifierDerived (b : Bank) (c : Vector ClassRecord 6) : Prop := ∀ p : Pos, recordDerived b (c.get p)

/-- A fold of operations that leave the classifier leaves it. -/
theorem foldl_classifier {α : Type} {f : Work → α → Work} (h : ∀ w a, (f w a).classifier = w.classifier) (l : List α)
    (w : Work) : (l.foldl f w).classifier = w.classifier :=
  foldl_frame (fun w : Work => w.classifier) f h l w

/-- A pass over positions that makes each record it comes to fit `Q`, once it fits `R`, and touches no other. -/
theorem foldl_records {f : Work → Pos → Work} {R Q : ClassRecord → Prop} (keeps : ∀ r, Q r → R r)
    (own : ∀ w p, R (w.record p) → Q ((f w p).record p)) (other : ∀ w p q, q ≠ p → (f w p).record q = w.record q)
    (l : List Pos) (w : Work) (h : ∀ q, R (w.record q)) :
    ∀ q, (Q (w.record q) ∨ q ∈ l) → Q ((l.foldl f w).record q) := by
  induction l generalizing w with
  | nil => exact fun q hq => hq.resolve_right List.not_mem_nil
  | cons p l ih =>
    have next (q : Pos) : ((f w p).record q = w.record q ∧ q ≠ p) ∨ (Q ((f w p).record q) ∧ q = p) := by
      by_cases e : q = p
      · exact .inr ⟨e ▸ own w p (h p), e⟩
      · exact .inl ⟨other w p q e, e⟩
    refine fun q hq => ih (f w p) (fun q => ?_) q ?_
    · rcases next q with ⟨same, -⟩ | ⟨fits, -⟩
      · exact same ▸ h q
      · exact keeps _ fits
    · rcases next q with ⟨same, ne⟩ | ⟨fits, -⟩
      · exact hq.imp (same ▸ ·) fun m => (List.mem_cons.1 m).resolve_left ne
      · exact .inl fits

theorem entriesDerived_iff (s : State) : entriesDerived s ↔ classifierDerived s.banks.active s.blocks.classifier := Iff.rfl

theorem recordDerived_reset (b : Bank) : recordDerived b ClassRecord.reset := ⟨rfl, fun _ => ⟨rfl, rfl⟩⟩

/-- A classifier in which one record is replaced by a derived one is derived. -/
theorem classifierDerived_put {b : Bank} {c : Vector ClassRecord 6} (h : classifierDerived b c) (p : Pos) {r : ClassRecord}
    (hr : recordDerived b r) : classifierDerived b (put c p r) := by
  intro q
  rw [put_get]
  split
  · exact hr
  · exact h q

/-! ### The commands that leave the classifier and the Active bank -/

/-- The classifier and the Active bank are kept. -/
def bandsKept (s t : State) : Prop := t.blocks.classifier = s.blocks.classifier ∧ t.banks.active = s.banks.active

theorem bandsKept_refl (s : State) : bandsKept s s := ⟨rfl, rfl⟩

theorem bandsKept.trans {s t u : State} (h : bandsKept s t) (k : bandsKept t u) : bandsKept s u :=
  ⟨k.1.trans h.1, k.2.trans h.2⟩

theorem bandsKept.derived {s t : State} (k : bandsKept s t) (h : entriesDerived s) : entriesDerived t := by
  obtain ⟨classifier, active⟩ := k
  rw [entriesDerived_iff, classifier, active]
  exact h

theorem bandsKept_finish (s : State) {w : Work} (h : w.classifier = s.blocks.classifier) : bandsKept s (s.finish w) := by
  simp [bandsKept, h]

theorem bandsKept_event (s : State) {f : View → Work → Work} (h : ∀ v w, (f v w).classifier = w.classifier) :
    bandsKept s (s.event f) :=
  bandsKept_finish s (h _ _)

theorem bandsKept_setPort (s : State) (lp : Pos) (pt : Port) : bandsKept s (s.setPort lp pt) := ⟨rfl, rfl⟩

/-- A request row keeps what the handling of its frame keeps (R186). -/
theorem handle_induction {P : State → Prop} (hP : ∀ {s t}, bandsKept s t → P s → P t) {f : State → State × Result}
    (hf : ∀ s, P s → P (f s).1) {s : State} (h : P s) (lp : Pos) (cls : Byte) (body : List Byte) :
    P (s.handle lp cls body f) := by
  unfold State.handle
  split
  · exact hP (bandsKept_setPort ..) (hf _ (hP (s := s) (t := s.take lp) ⟨rfl, rfl⟩ h))
  · exact h

theorem bandsKept_handle {f : State → State × Result} (hf : ∀ s, bandsKept s (f s).1) (s : State) (lp : Pos) (cls : Byte)
    (body : List Byte) : bandsKept s (s.handle lp cls body f) :=
  handle_induction (P := bandsKept s) (fun k h => h.trans k) (fun t h => h.trans (hf t)) (bandsKept_refl s) lp cls body

theorem bandsKept_oneByte {f : Byte → State → State × Result} (hf : ∀ b s, bandsKept s (f b s).1) (body : List Byte)
    (s : State) : bandsKept s (oneByte body f s).1 := by
  unfold oneByte
  split
  · exact hf _ s
  · exact bandsKept_refl s

theorem bandsKept_emptyBody {f : State → State × Result} (hf : ∀ s, bandsKept s (f s).1) (body : List Byte) (s : State) :
    bandsKept s (emptyBody body f s).1 := by
  unfold emptyBody
  split
  · exact hf s
  · exact bandsKept_refl s

theorem bandsKept_ite {c : Prop} [Decidable c] {s t u : State} (ht : bandsKept s t) (hu : bandsKept s u) :
    bandsKept s (if c then t else u) := by
  split
  · exact ht
  · exact hu

theorem bandsKept_routing (s : State) {f : View → Work → Work × Answer} (h : ∀ v w, (f v w).1.classifier = w.classifier) :
    bandsKept s (s.routing f).1 :=
  bandsKept_finish s (h _ _)

/-! ### Requests -/

theorem closeRequest_classifier (v : View) (r : Work × Answer) : (closeRequest v r).1.classifier = r.1.classifier := by
  simp [closeRequest]

theorem bandsKept_request (s : State) (lp : Pos) (kind : RequestKind) (cause : Cause) :
    bandsKept s (s.routing fun v w => closeRequest v (request v lp kind cause w)).1 :=
  bandsKept_routing s fun v w => by simp [closeRequest]

theorem bandsKept_route (s : State) (lp : Pos) (b : Byte) : bandsKept s (s.route lp b).1 := by
  unfold State.route
  split
  · exact bandsKept_refl s
  · exact bandsKept_request s lp _ _

theorem bandsKept_revert (s : State) (lp : Pos) : bandsKept s (s.revert lp).1 :=
  bandsKept_routing s fun v w => by simp [closeRequest]

theorem bandsKept_setMode (s : State) (lp : Pos) (m : Mode) : bandsKept s (s.setMode lp m) :=
  bandsKept_event s fun _ _ => rfl

theorem bandsKept_modeFollow (s : State) (lp : Pos) : bandsKept s (s.modeFollow lp).1 := by
  unfold State.modeFollow
  split
  · exact bandsKept_refl s
  · dsimp only
    split
    · exact bandsKept_setMode s lp .follow
    · exact (bandsKept_setMode s lp .follow).trans (bandsKept_request _ lp _ _)

theorem bandsKept_modeManual (s : State) (lp : Pos) : bandsKept s (s.modeManual lp).1 := by
  unfold State.modeManual
  split
  · exact bandsKept_refl s
  · exact bandsKept_setMode s lp .manual

theorem bandsKept_testApply (s : State) : bandsKept s s.testApply := by
  unfold State.testApply
  split
  · exact ⟨rfl, rfl⟩
  · exact bandsKept_refl s

theorem bandsKept_commit (s : State) (lp : Pos) : bandsKept s (s.commit lp).1 := by
  unfold State.commit
  split
  · exact bandsKept_refl s
  · split
    · exact bandsKept_refl s
    · exact bandsKept.trans (t := { s with banks := s.banks.accepted lp }) ⟨rfl, rfl⟩ (bandsKept_testApply _)

theorem bandsKept_discard (s : State) : bandsKept s s.discard.1 := by
  unfold State.discard
  split <;> exact ⟨rfl, rfl⟩

theorem bandsKept_storeRequest (s : State) (lp : Pos) : bandsKept s (s.storeRequest lp).1 := by
  unfold State.storeRequest
  split <;> exact ⟨rfl, rfl⟩

theorem bandsKept_restart (s : State) (lp : Pos) : bandsKept s (s.restart lp).1 := by
  unfold State.restart
  split <;> exact ⟨rfl, rfl⟩

theorem bandsKept_clearNamed (s : State) (b : Byte) : bandsKept s (s.clearNamed b).1 := by
  unfold State.clearNamed
  split
  · exact bandsKept_refl s
  · exact bandsKept_event s fun v w => by simp

theorem bandsKept_clearAll (s : State) : bandsKept s s.clearAll.1 := by
  unfold State.clearAll
  dsimp only
  refine bandsKept_event s fun v w => ?_
  rw [foldl_classifier fun w c => (clearCoil_frame v w c).1]

theorem bandsKept_resume (s : State) (lp : Pos) : bandsKept s (s.resume lp) := by
  refine bandsKept.trans (t := { s with station := { s.station with mode := .normal, causes := CauseSet.empty } })
    ⟨rfl, rfl⟩ (bandsKept_event _ fun v w => ?_)
  unfold resumeBlocks
  dsimp only
  rw [foldl_classifier fun w p => (resumeFollow_frame v w p).1, Work.raise_classifier, (recomputeAll_frame ..).1,
    Work.setSource_classifier, foldl_classifier fun w p => (takeDefaultMode_frame v.bank w p).1]

theorem bandsKept_resumeRequest (s : State) (lp : Pos) : bandsKept s (s.resumeRequest lp).1 := by
  unfold State.resumeRequest
  split
  · exact bandsKept_refl s
  · exact bandsKept_resume s lp

theorem bandsKept_lineSet (s : State) (body : List Byte) : bandsKept s (s.lineSet body).1 := by
  unfold State.lineSet
  split
  · split <;> exact ⟨rfl, rfl⟩
  · exact bandsKept_refl s

theorem bandsKept_select (s : State) (lp : Pos) (body : List Byte) : bandsKept s (s.select lp body).1 := by
  unfold State.select
  split
  · split
    · split <;> exact ⟨rfl, rfl⟩
    · exact bandsKept_refl s
  · exact bandsKept_refl s

theorem bandsKept_write (s : State) (lp : Pos) (body : List Byte) : bandsKept s (s.write lp body).1 := by
  unfold State.write
  split
  · exact bandsKept_refl s
  · split_ifs
    · exact bandsKept_refl s
    · exact bandsKept_refl s
    · exact bandsKept_refl s
    · split <;> exact ⟨rfl, rfl⟩
    · exact bandsKept_refl s

theorem bandsKept_read (s : State) (lp : Pos) (count : Nat) : bandsKept s (s.read lp count).1 := by
  unfold State.read
  split
  · split <;> exact ⟨rfl, rfl⟩
  · exact bandsKept_refl s

theorem bandsKept_query (s : State) (lp : Pos) (target : Byte) (body : List Byte) (f : State → Nat → Option (List Byte)) :
    bandsKept s (s.query lp target body f).1 := by
  unfold State.query
  dsimp only
  split
  · split
    · split <;> exact ⟨rfl, rfl⟩
    · exact ⟨rfl, rfl⟩
  · exact ⟨rfl, rfl⟩

theorem bandsKept_queryLink (s : State) (lp : Pos) (body : List Byte) : bandsKept s (s.queryLink lp body).1 := by
  unfold State.queryLink
  dsimp only
  split
  · exact (bandsKept_query s lp 4 body _).trans ⟨rfl, rfl⟩
  · exact bandsKept_query s lp 4 body _

/-! ### Fail-safe entry (R170, R171) -/

theorem bandsKept_raiseCause (s : State) (k : SafeCause) {w : Work} (h : w.classifier = s.blocks.classifier) :
    bandsKept s (s.raiseCause k w) := by
  unfold State.raiseCause
  split
  · exact bandsKept_finish s h
  · exact bandsKept.trans ⟨rfl, rfl⟩ (bandsKept_finish { s with station := _ } (by simp [h]))
  · unfold State.addCause
    split
    · exact bandsKept_finish s h
    · exact bandsKept.trans ⟨rfl, rfl⟩ (bandsKept_finish { s with station := _ } (by simp [h]))

theorem bandsKept_forceSafe (s : State) : bandsKept s s.forceSafe.1 := bandsKept_raiseCause s .forced rfl

theorem bandsKept_applySupplyFailEntry (s : State) : bandsKept s s.applySupplyFailEntry := by
  unfold State.applySupplyFailEntry
  split
  · exact bandsKept.trans ⟨rfl, rfl⟩ (bandsKept_raiseCause { s with station := _ } .supplyFail rfl)
  · exact bandsKept_refl s

/-! ### Key, supply and coil events -/

theorem bandsKept_keyDown (s : State) (p : Pos) : bandsKept s (s.keyDown p) := by
  unfold State.keyDown
  split
  · exact bandsKept_refl s
  · exact bandsKept_ite (bandsKept.trans (t := { s with pins := s.pins.withKey p true }) ⟨rfl, rfl⟩
      (bandsKept_event _ fun v w => by simp)) ⟨rfl, rfl⟩

theorem bandsKept_keyUp (s : State) (p : Pos) : bandsKept s (s.keyUp p) := by
  unfold State.keyUp
  split
  · exact bandsKept_ite (bandsKept.trans (t := { s with pins := s.pins.withKey p false }) ⟨rfl, rfl⟩
      (bandsKept_event _ fun v w => by simp)) ⟨rfl, rfl⟩
  · exact bandsKept_refl s

theorem bandsKept_tailExpiry (s : State) (p : Pos) : bandsKept s (s.tailExpiry p) := by
  unfold State.tailExpiry
  split
  · exact bandsKept_refl s
  · exact bandsKept_event s fun v w => by simp

theorem bandsKept_keyWaitExpiry (s : State) (p : Pos) : bandsKept s (s.keyWaitExpiry p) := by
  unfold State.keyWaitExpiry
  split
  · exact bandsKept_event s fun v w => by simp
  · exact bandsKept_refl s

theorem bandsKept_levelChanged (s : State) (before : SupplyLevel) : bandsKept s (s.levelChanged before) := by
  have raised : (raiseSupply s.banks.active before s.supply.level s.supply.measured (Work.start s.blocks)).classifier =
      s.blocks.classifier := by simp [Work.start]
  unfold State.levelChanged
  dsimp only
  split
  · exact bandsKept_raiseCause s .supplyFail raised
  · exact bandsKept_finish s (by simp [Work.start])
  · exact bandsKept_finish s (by simp [Work.start])

theorem bandsKept_supplyEvent (s : State) (tenths : Nat) : bandsKept s (s.supplyEvent tenths) := by
  unfold State.supplyEvent
  dsimp only
  split
  · exact ⟨rfl, rfl⟩
  · split
    · exact ⟨rfl, rfl⟩
    all_goals
      split
      · exact ⟨rfl, rfl⟩
      · exact bandsKept.trans ⟨rfl, rfl⟩ (bandsKept_levelChanged (s.withSupply tenths _ true) _)

theorem bandsKept_senseEvent (s : State) (c : Coil) (current : Nat) : bandsKept s (s.senseEvent c current) := by
  unfold State.senseEvent
  split
  · exact ⟨rfl, rfl⟩
  · exact bandsKept_event s fun v w => by simp

theorem bandsKept_blankExpiry (s : State) (c : Coil) : bandsKept s (s.blankExpiry c) := by
  unfold State.blankExpiry
  split
  · exact bandsKept_refl s
  · exact bandsKept_event s fun v w => by simp

theorem bandsKept_selectorLineChange (s : State) (line : Selector) (level : Bool) :
    bandsKept s (s.selectorLineChange line level) := by
  unfold State.selectorLineChange
  split
  · exact bandsKept_refl s
  · exact bandsKept.trans (t := { s with pins := s.pins.withSelector line level }) ⟨rfl, rfl⟩
      (bandsKept_event _ fun v w => by simp)

/-! ### Transitions and the commit timer -/

theorem bandsKept_quietWaitExpiry (s : State) (p : Pos) : bandsKept s (s.quietWaitExpiry p) := by
  unfold State.quietWaitExpiry
  split
  · exact bandsKept_refl s
  · exact bandsKept_ite (bandsKept_event s fun v w => by unfold quietWaitEnd; split <;> simp) (bandsKept_refl s)

theorem bandsKept_departure (s : State) (p : Pos) : bandsKept s (s.departure p) := by
  unfold State.departure
  split
  · exact bandsKept_refl s
  · exact bandsKept_ite (bandsKept_event s fun v w => by simp) (bandsKept_refl s)

theorem bandsKept_breakExpiry (s : State) (p : Pos) : bandsKept s (s.breakExpiry p) := by
  unfold State.breakExpiry
  split
  · exact bandsKept_refl s
  · exact bandsKept_ite (bandsKept_event s fun v w => by simp) (bandsKept_refl s)

theorem bandsKept_makeExpiry (s : State) (p : Pos) : bandsKept s (s.makeExpiry p) := by
  unfold State.makeExpiry
  split
  · exact bandsKept_refl s
  · exact bandsKept_ite (bandsKept_event s fun v w => by simp) (bandsKept_refl s)

theorem bandsKept_commitTimerExpiry (s : State) : bandsKept s s.commitTimerExpiry := by
  unfold State.commitTimerExpiry
  split
  · exact bandsKept.trans (t := { s with banks := s.banks.abandoned }) ⟨rfl, rfl⟩ (bandsKept_event _ fun v w => by simp)
  · exact bandsKept_refl s

/-! ### The ports -/

theorem bandsKept_byteReceived (s : State) (lp : Pos) (data : Byte) : bandsKept s (s.byteReceived lp data) := by
  unfold State.byteReceived
  split <;> exact ⟨rfl, rfl⟩

theorem bandsKept_gapTimerExpiry (s : State) (lp : Pos) : bandsKept s (s.gapTimerExpiry lp) := by
  unfold State.gapTimerExpiry
  split <;> exact ⟨rfl, rfl⟩

theorem bandsKept_resetLineHigh (s : State) (straps : Straps) : bandsKept s (s.resetLineHigh straps) := by
  unfold State.resetLineHigh
  split <;> exact ⟨rfl, rfl⟩

theorem bandsKept_storeDone (s : State) (verified : Bool) (taken : Bank) (lp : Pos) :
    bandsKept s (s.storeDone verified taken lp) :=
  bandsKept.trans ⟨rfl, rfl⟩ (bandsKept_event { s with store := _, station := _ } fun v w => by split <;> simp)

/-! ### Resets and load completion (R178, R181) -/

theorem entriesDerived_of_reset {s : State} (h : s.blocks.classifier = Vector.replicate 6 ClassRecord.reset) :
    entriesDerived s := by
  rw [entriesDerived_iff, h]
  intro p
  rw [replicate_get]
  exact recordDerived_reset _

theorem entriesDerived_powerOn (s : State) (resetLow : Bool) (straps : Straps) : entriesDerived (s.powerOn resetLow straps) := by
  unfold State.powerOn
  dsimp only
  split <;> exact entriesDerived_of_reset rfl

theorem entriesDerived_restartReset (s : State) (straps : Straps) : entriesDerived (s.restartReset straps) :=
  entriesDerived_of_reset rfl

theorem entriesDerived_resetLineLow {s : State} (h : entriesDerived s) : entriesDerived s.resetLineLow := by
  unfold State.resetLineLow
  split
  · exact h
  · exact entriesDerived_of_reset rfl

theorem entriesDerived_storeCompletion {s : State} (h : entriesDerived s) (verified : Bool) (straps : Straps) :
    entriesDerived (s.storeCompletion verified straps) := by
  unfold State.storeCompletion
  split
  · exact h
  · dsimp only
    split
    · exact entriesDerived_restartReset _ straps
    · exact (bandsKept_storeDone s verified _ _).derived h

theorem entriesDerived_transmitCompletion {s : State} (h : entriesDerived s) (lp : Pos) (straps : Straps) :
    entriesDerived (s.transmitCompletion lp straps) := by
  have sent : entriesDerived (s.setPort lp (s.ports.get lp).complete) := (bandsKept_setPort ..).derived h
  unfold State.transmitCompletion
  dsimp only
  split
  · unfold State.restartReplySent
    split
    · exact entriesDerived_restartReset _ straps
    · exact sent
  · exact sent

/-- The record a position starts with at load completion has no entry, and none is derived (R28). -/
theorem loadRecord_derived (v : View) (w : Work) (p : Pos) : recordDerived v.bank ((loadRecord v w p).record p) := by
  unfold loadRecord
  dsimp only
  split <;> rename_i source <;>
    simp [recordDerived, startSettle, Work.record, Work.setRecord, source, deriveEntry, ClassRecord.reset]

theorem loadRecord_other (v : View) (w : Work) (p q : Pos) (h : q ≠ p) : (loadRecord v w p).record q = w.record q := by
  unfold loadRecord
  dsimp only
  split <;> simp [startSettle, Work.record, Work.setRecord, put_get_other _ _ h]

theorem loadKey_classifier (v : View) (keys : Vector Bool 6) (w : Work) (p : Pos) :
    (loadKey v keys w p).classifier = w.classifier := by
  unfold loadKey
  dsimp only
  split
  · split <;> rfl
  · rfl

theorem raiseLoadedSupply_classifier (b : Bank) (level : SupplyLevel) (measured : Nat) (w : Work) :
    (raiseLoadedSupply b level measured w).classifier = w.classifier := by
  unfold raiseLoadedSupply
  split <;> rfl

/-- Load completion derives every record under the bank it loads (R28, R181). -/
theorem loadBlocks_derived {b : Bank} {v : View} (hb : v.bank = b) (st : Station) (measured : Nat) (keys : Vector Bool 6) (valid : Bool) (w : Work) :
    classifierDerived b (loadBlocks v st measured keys valid w).classifier := by
  subst hb
  unfold loadBlocks
  dsimp only
  rw [Work.raise_classifier, raiseLoadedSupply_classifier, foldl_classifier (loadKey_classifier v keys),
    (recomputeAll_frame ..).1, Work.setSource_classifier, foldl_classifier (f := loadGroup v.bank) fun w g => rfl]
  exact fun p => foldl_records (R := fun _ => True) (fun _ _ => trivial) (fun w p _ => loadRecord_derived v w p)
    (loadRecord_other v) positions _ (fun _ => trivial) p (.inr (List.mem_finRange p))

theorem entriesDerived_loadCompletion {s : State} (h : entriesDerived s) : entriesDerived s.loadCompletion := by
  unfold State.loadCompletion
  split
  · rw [entriesDerived_iff]
    simp only [event_frame]
    exact loadBlocks_derived rfl _ _ _ _ _
  · exact h

/-! ### Reports, settle expiries and line changes (R21, R23, R24) -/

/-- A report replaces the frequency and, under LINK, the entry it gives (R21). -/
theorem takeReport_record (v : View) (p : Pos) (f : Nat) (w : Work) : (takeReport v p f w).classifier =
    put w.classifier p { w.classifier.get p with
      frequency := some f
      entry := if (w.classifier.get p).source = .link then planSearch v.bank f else (w.classifier.get p).entry } := by
  unfold takeReport
  dsimp only
  split <;> rename_i source <;> simp only [Work.record, Work.setRecord, put_get_same] at source
  · simp [Work.record, Work.setRecord, source, Take.put_put]
  · simp [Work.record, Work.setRecord, source]

theorem settleEnd_record (v : View) (p : Pos) (code : LineCode) (w : Work) : (settleEnd v p code w).classifier =
    put w.classifier p { w.classifier.get p with
      settled := some code, settleTimer := none, entry := lineSearch v.bank code } := by
  simp [settleEnd, Work.record, Work.setRecord, Take.put_put]

theorem entriesDerived_bandReport {s : State} (h : entriesDerived s) (lp : Pos) (body : List Byte) :
    entriesDerived (s.bandReport lp body).1 := by
  unfold State.bandReport
  split
  · rw [entriesDerived_iff]
    simp only [event_frame]
    rw [takeReport_record]
    refine classifierDerived_put h lp ?_
    obtain ⟨entry, link⟩ := h lp
    cases source : (s.classRecord lp).source with
    | link => exact ⟨by simp [deriveEntry, source, Work.start, State.view], link⟩
    | lines => exact ⟨by simpa [deriveEntry, source, Work.start, State.view] using entry, link⟩
  · exact h

theorem entriesDerived_settleExpiry {s : State} (h : entriesDerived s) (p : Pos) : entriesDerived (s.settleExpiry p) := by
  unfold State.settleExpiry
  split
  · exact h
  · rename_i running
    rw [entriesDerived_iff]
    simp only [event_frame]
    rw [settleEnd_record]
    refine classifierDerived_put h p ?_
    cases source : (s.classRecord p).source with
    | link =>
      have stopped := ((h p).2 source).2
      simp [running] at stopped
    | lines => exact ⟨by simp [deriveEntry, source, Work.start, State.view], fun link => by simp [source, Work.start] at link⟩

theorem entriesDerived_positionLineChange {s : State} (h : entriesDerived s) (p : Pos) (k : LineNo) (level : Bool) :
    entriesDerived (s.positionLineChange p k level) := by
  unfold State.positionLineChange
  split
  · exact h
  · dsimp only
    split
    · exact h
    · rename_i lines
      refine classifierDerived_put h p ⟨(h p).1, fun link => ?_⟩
      exact absurd (link.symm.trans lines) (by decide)

/-! ### The apply (R29) -/

/-- Under LINK the record has no settled code and no settle timer. -/
def linkClean (r : ClassRecord) : Prop := r.source = .link → r.settled = none ∧ r.settleTimer = none

theorem takeSource_clean (b : Bank) (p : Pos) {r : ClassRecord} (h : linkClean r) : linkClean (takeSource b p r) := by
  unfold takeSource
  dsimp only
  split
  · exact h
  · split
    · exact fun _ => ⟨rfl, rfl⟩
    · exact fun link => by cases link

theorem reclassify_derived (v : View) (w : Work) (p : Pos) (h : linkClean (w.record p)) :
    recordDerived v.bank ((reclassify v w p).record p) := by
  have record : (reclassify v w p).record p = { takeSource v.bank p (w.record p) with
      entry := deriveEntry v.bank (takeSource v.bank p (w.record p)) } := put_get_same ..
  rw [record]
  exact ⟨rfl, takeSource_clean v.bank p h⟩

theorem reclassify_other (v : View) (w : Work) (p q : Pos) (h : q ≠ p) : (reclassify v w p).record q = w.record q :=
  put_get_other _ _ h

theorem forceRelease_classifier (v : View) (w : Work) (p : Pos) : (forceRelease v p w).classifier = w.classifier := by
  simp [forceRelease]

theorem releaseAll_classifier (v : View) (ps : List Pos) (r : Work × Nat) :
    (releaseAll v ps r).1.classifier = r.1.classifier :=
  foldl_classifier (forceRelease_classifier v) ps r.1

/-- Steps A to C of an apply leave the classifier (R160 to R162). -/
theorem applyC_classifier (old : Bank) (v : View) (kept : List Kept) (w : Work) :
    (applyC v (applyB v (applyA old v kept w))).1.classifier = w.classifier := by
  unfold applyC applyB applyA
  rw [foldl_frame (fun r : Work × Nat => r.1.classifier) _ (fun r a => releaseAll_classifier v _ r), releaseAll_classifier]
  dsimp only
  rw [foldl_classifier fun w p => (setEnablement_frame old v w p).1,
    foldl_classifier fun w k => (abandonKept_frame v w k).1]

/-- Step D derives every record under the new bank (R29). -/
theorem applyD_derived (old : Bank) (v : View) {w : Work} (h : ∀ p, linkClean (w.record p)) :
    classifierDerived v.bank (applyD old v w).1.classifier := by
  unfold applyD
  dsimp only
  rw [(recheckAll_frame ..).1, foldl_classifier fun w p => (recheckChanged_frame v _ w p).1]
  have groupsClean (p : Pos) : linkClean ((groups.foldl (applyGroup v.bank) w).record p) := by
    unfold Work.record
    rw [foldl_classifier fun w g => (applyGroup_frame v.bank w g).1]
    exact h p
  exact fun p => foldl_records (fun _ d => d.2) (reclassify_derived v) (reclassify_other v) positions _ groupsClean p
    (.inr (List.mem_finRange p))

theorem applyF_classifier (old : Bank) (v : View) (w : Work) : (applyF old v w).classifier = w.classifier := by
  unfold applyF
  dsimp only
  rw [foldl_classifier fun w c => (examineCoil_frame v false c w).1,
    foldl_classifier fun w c => (reclassifyCoil_frame v w c).1, (recomputeAll_frame ..).1]

theorem applySupply_classifier (v : View) (before : SupplyLevel) (measured : Nat) (w : Work) :
    (applySupply v before measured w).classifier = w.classifier := by
  unfold applySupply
  split <;> simp

theorem applyBlocks_derived {b : Bank} {v : View} (hb : v.bank = b) (old : Bank) (level : SupplyLevel) (measured : Nat) (issuer : Option Pos) {w : Work}
    (h : ∀ p, linkClean (w.record p)) : classifierDerived b (applyBlocks old v level measured issuer w).classifier := by
  subst hb
  unfold applyBlocks applyG applyE
  dsimp only
  rw [Work.raise_classifier, (close_frame ..).1, applySupply_classifier, applyF_classifier,
    foldl_classifier fun w p => (reselect_frame v _ _ w p).1]
  refine applyD_derived old v fun p => ?_
  unfold Work.record
  rw [applyC_classifier]
  exact h p

theorem entriesDerived_commitApply {s : State} (h : entriesDerived s) : entriesDerived s.commitApply := by
  unfold State.commitApply
  split
  · dsimp only
    split
    · rw [entriesDerived_iff]
      unfold State.apply
      simp only [event_frame]
      exact applyBlocks_derived rfl _ _ _ _ fun p => (h p).2
    · exact h
  · exact h

/-! ### Every command -/

/-- Every command keeps every record derived: it keeps the bands, or is one of those above. -/
theorem exec_keeps_entriesDerived (c : Instr) {s : State} (h : entriesDerived s) :
    ∃ t, exec c s = .next t ∧ entriesDerived t := by
  cases c
  case byteReceived lp data =>
    exact ⟨_, rfl, (bandsKept_byteReceived s lp data).derived h⟩
  case gapTimerExpiry lp =>
    exact ⟨_, rfl, (bandsKept_gapTimerExpiry s lp).derived h⟩
  case transmitStart lp =>
    exact ⟨_, rfl, (bandsKept_setPort ..).derived h⟩
  case transmitCompletion lp straps =>
    exact ⟨_, rfl, entriesDerived_transmitCompletion h lp straps⟩
  case unknownClass lp cls body =>
    exact ⟨_, rfl, (bandsKept_ite (bandsKept_refl s) (bandsKept_handle bandsKept_refl s lp cls body)).derived h⟩
  case bandReport lp body =>
    exact ⟨_, rfl, handle_induction bandsKept.derived (fun s h => entriesDerived_bandReport h lp body) h lp _ body⟩
  case route lp body =>
    exact ⟨_, rfl, (bandsKept_handle (bandsKept_oneByte (fun b s => bandsKept_route s lp b) body) s lp _ body).derived h⟩
  case revert lp body =>
    exact ⟨_, rfl, (bandsKept_handle (bandsKept_emptyBody (fun s => bandsKept_revert s lp) body) s lp _ body).derived h⟩
  case release lp body =>
    exact ⟨_, rfl, (bandsKept_handle (bandsKept_emptyBody (fun s => bandsKept_request s lp _ _) body) s lp _ body).derived h⟩
  case modeFollow lp body =>
    exact ⟨_, rfl, (bandsKept_ite (bandsKept_handle (bandsKept_oneByte (fun _ s => bandsKept_modeFollow s lp) body) s lp _ body)
      (bandsKept_refl s)).derived h⟩
  case modeManual lp body =>
    refine ⟨_, rfl, (bandsKept_ite (bandsKept_refl s) (bandsKept_handle (bandsKept_oneByte (fun b s => ?_) body) s lp _ body)).derived h⟩
    split
    · exact bandsKept_modeManual s lp
    · exact bandsKept_refl s
  case select lp body =>
    exact ⟨_, rfl, (bandsKept_handle (fun s => bandsKept_select s lp body) s lp _ body).derived h⟩
  case write lp body =>
    exact ⟨_, rfl, (bandsKept_handle (fun s => bandsKept_write s lp body) s lp _ body).derived h⟩
  case read lp body =>
    exact ⟨_, rfl, (bandsKept_handle (bandsKept_oneByte (fun b s => bandsKept_read s lp b.toNat) body) s lp _ body).derived h⟩
  case queryPosition lp body =>
    exact ⟨_, rfl, (bandsKept_ite (bandsKept_handle (fun s => bandsKept_query s lp 1 body _) s lp _ body) (bandsKept_refl s)).derived h⟩
  case queryAntenna lp body =>
    exact ⟨_, rfl, (bandsKept_ite (bandsKept_handle (fun s => bandsKept_query s lp 2 body _) s lp _ body) (bandsKept_refl s)).derived h⟩
  case queryStation lp body =>
    exact ⟨_, rfl, (bandsKept_ite (bandsKept_handle (fun s => bandsKept_query s lp 3 body _) s lp _ body) (bandsKept_refl s)).derived h⟩
  case queryLink lp body =>
    exact ⟨_, rfl, (bandsKept_ite (bandsKept_handle (fun s => bandsKept_queryLink s lp body) s lp _ body) (bandsKept_refl s)).derived h⟩
  case queryLines lp body =>
    exact ⟨_, rfl, (bandsKept_ite (bandsKept_handle (fun s => bandsKept_query s lp 5 body _) s lp _ body) (bandsKept_refl s)).derived h⟩
  case queryCoil lp body =>
    exact ⟨_, rfl, (bandsKept_ite (bandsKept_handle (fun s => bandsKept_query s lp 6 body _) s lp _ body) (bandsKept_refl s)).derived h⟩
  case commit lp body =>
    exact ⟨_, rfl, (bandsKept_handle (bandsKept_emptyBody (fun s => bandsKept_commit s lp) body) s lp _ body).derived h⟩
  case discard lp body =>
    exact ⟨_, rfl, (bandsKept_handle (bandsKept_emptyBody bandsKept_discard body) s lp _ body).derived h⟩
  case store lp body =>
    exact ⟨_, rfl, (bandsKept_handle (bandsKept_emptyBody (fun s => bandsKept_storeRequest s lp) body) s lp _ body).derived h⟩
  case clearFault lp body =>
    exact ⟨_, rfl, (bandsKept_ite (bandsKept_refl s)
      (bandsKept_handle (bandsKept_oneByte (fun b s => bandsKept_clearNamed s b) body) s lp _ body)).derived h⟩
  case clearFaultAll lp body =>
    exact ⟨_, rfl, (bandsKept_ite (bandsKept_handle bandsKept_clearAll s lp _ body) (bandsKept_refl s)).derived h⟩
  case resume lp body =>
    exact ⟨_, rfl, (bandsKept_handle (bandsKept_emptyBody (fun s => bandsKept_resumeRequest s lp) body) s lp _ body).derived h⟩
  case forceSafe lp body =>
    exact ⟨_, rfl, (bandsKept_handle (bandsKept_emptyBody bandsKept_forceSafe body) s lp _ body).derived h⟩
  case restart lp body =>
    exact ⟨_, rfl, (bandsKept_handle (bandsKept_emptyBody (fun s => bandsKept_restart s lp) body) s lp _ body).derived h⟩
  case lineSet lp body =>
    exact ⟨_, rfl, (bandsKept_handle (fun s => bandsKept_lineSet s body) s lp _ body).derived h⟩
  case keyDown p =>
    exact ⟨_, rfl, (bandsKept_keyDown s p).derived h⟩
  case keyUp p =>
    exact ⟨_, rfl, (bandsKept_keyUp s p).derived h⟩
  case positionLineChange p k level =>
    exact ⟨_, rfl, entriesDerived_positionLineChange h p k level⟩
  case selectorLineChange line level =>
    exact ⟨_, rfl, (bandsKept_selectorLineChange s line level).derived h⟩
  case senseEvent c current =>
    exact ⟨_, rfl, (bandsKept_senseEvent s c current).derived h⟩
  case supplyEvent tenths =>
    exact ⟨_, rfl, (bandsKept_supplyEvent s tenths).derived h⟩
  case powerOn resetLow straps =>
    exact ⟨_, rfl, entriesDerived_powerOn s resetLow straps⟩
  case resetLineLow =>
    exact ⟨_, rfl, entriesDerived_resetLineLow h⟩
  case resetLineHigh straps =>
    exact ⟨_, rfl, (bandsKept_resetLineHigh s straps).derived h⟩
  case loadCompletion =>
    exact ⟨_, rfl, entriesDerived_loadCompletion h⟩
  case settleExpiry p =>
    exact ⟨_, rfl, entriesDerived_settleExpiry h p⟩
  case quietWaitExpiry p =>
    exact ⟨_, rfl, (bandsKept_quietWaitExpiry s p).derived h⟩
  case departure p =>
    exact ⟨_, rfl, (bandsKept_departure s p).derived h⟩
  case breakExpiry p =>
    exact ⟨_, rfl, (bandsKept_breakExpiry s p).derived h⟩
  case makeExpiry p =>
    exact ⟨_, rfl, (bandsKept_makeExpiry s p).derived h⟩
  case blankExpiry c =>
    exact ⟨_, rfl, (bandsKept_blankExpiry s c).derived h⟩
  case tailExpiry p =>
    exact ⟨_, rfl, (bandsKept_tailExpiry s p).derived h⟩
  case keyWaitExpiry p =>
    exact ⟨_, rfl, (bandsKept_keyWaitExpiry s p).derived h⟩
  case commitTimerExpiry =>
    exact ⟨_, rfl, (bandsKept_commitTimerExpiry s).derived h⟩
  case storeCompletion verified straps =>
    exact ⟨_, rfl, entriesDerived_storeCompletion h verified straps⟩
  case commitApply =>
    exact ⟨_, rfl, entriesDerived_commitApply h⟩
  case applySupplyFailEntry =>
    exact ⟨_, rfl, (bandsKept_applySupplyFailEntry s).derived h⟩

/-- Settles O59: the part idles, or runs the command at the front of its queue. -/
theorem stepKeepsEntriesDerived : Obligations.StepKeepsEntriesDerived := by
  intro s t h run
  unfold step at run
  split at run
  · cases run
    exact h
  · rename_i c rest _
    obtain ⟨t', run', derived⟩ := exec_keeps_entriesDerived c (s := { s with pending := rest }) h
    cases run'.symm.trans run
    exact derived

end Sys2Proof.Proofs.Entries

/-!
SUPPORT. The notices of an event as its end delivers them (R188): a ROUTE or KEY NOTICE that no later one of its kind replaces
is held by its link, when at most four notices waited there before.
-/
namespace Sys2Proof.Proofs.Delivery
open Sys2Proof Sys2Proof.Machine

/-! ### One delivery -/

/-- The notices of a port that a new one may replace: all but the head while it is sent (R188). -/
def unsent (pt : Port) : List Notice :=
  match pt.transmitter, pt.notices with
  | .sendingNotice, _ :: rest => rest
  | _, l => l

theorem replaceFirst_eq_none {n : Notice} {l : List Notice} : replaceFirst n l = none ↔ ∀ m ∈ l, n.replaces m = false := by
  induction l with
  | nil => simp [replaceFirst]
  | cons m l ih => by_cases h : n.replaces m = true <;> simp [replaceFirst, h, ih]

/-- A replacement puts the notice in and takes out one that it replaces. -/
theorem mem_replaceFirst {n m : Notice} {l l' : List Notice} (h : replaceFirst n l = some l') :
    n ∈ l' ∧ (m ∈ l → n.replaces m = false → m ∈ l') := by
  induction l generalizing l' with
  | nil => simp [replaceFirst] at h
  | cons x l ih =>
    by_cases hx : n.replaces x = true
    · simp only [replaceFirst, hx, if_true, Option.some.injEq] at h
      subst h
      refine ⟨List.mem_cons_self, fun hm keep => ?_⟩
      rcases List.mem_cons.1 hm with rfl | hm
      · simp [hx] at keep
      · exact List.mem_cons_of_mem _ hm
    · simp only [replaceFirst, hx, Bool.false_eq_true, if_false, Option.map_eq_some_iff] at h
      obtain ⟨r, hr, rfl⟩ := h
      obtain ⟨new, old⟩ := ih hr
      refine ⟨List.mem_cons_of_mem _ new, fun hm keep => ?_⟩
      rcases List.mem_cons.1 hm with rfl | hm
      · exact List.mem_cons_self
      · exact List.mem_cons_of_mem _ (old hm keep)

/-- A notice with no unsent notice of its kind replaces none. -/
theorem replaceUnsent_eq_none {pt : Port} {n : Notice} :
    pt.replaceUnsent n = none ↔ ∀ m ∈ unsent pt, n.replaces m = false := by
  cases sending : pt.transmitter <;> cases notices : pt.notices <;>
    simp [Port.replaceUnsent, unsent, sending, notices, replaceFirst_eq_none]

theorem mem_replaceUnsent {pt : Port} {n m : Notice} {l : List Notice} (h : pt.replaceUnsent n = some l) :
    n ∈ l ∧ (m ∈ pt.notices → n.replaces m = false → m ∈ l) := by
  unfold Port.replaceUnsent at h
  split at h
  · rename_i head rest _ notices
    simp only [Option.map_eq_some_iff] at h
    obtain ⟨r, hr, rfl⟩ := h
    obtain ⟨new, old⟩ := mem_replaceFirst (m := m) hr
    refine ⟨List.mem_cons_of_mem _ new, fun hm keep => ?_⟩
    rw [notices] at hm
    rcases List.mem_cons.1 hm with rfl | hm
    · exact List.mem_cons_self
    · exact List.mem_cons_of_mem _ (old hm keep)
  · exact mem_replaceFirst h

/-- A delivery keeps every notice that the new one does not replace. -/
theorem mem_deliver_old {pt : Port} {n m : Notice} (h : m ∈ pt.notices) (keep : n.replaces m = false) :
    m ∈ (pt.deliver n).notices := by
  unfold Port.deliver
  split
  · rename_i l hl
    exact (mem_replaceUnsent hl).2 h keep
  · split
    · exact List.mem_append_left _ h
    · exact h

/-- A delivery puts the notice in a queue of fewer than 8. -/
theorem mem_deliver_new {pt : Port} {n : Notice} (h : pt.notices.length < 8 ∨ ∃ m ∈ unsent pt, n.replaces m = true) :
    n ∈ (pt.deliver n).notices := by
  unfold Port.deliver
  split
  · rename_i l hl
    exact (mem_replaceUnsent (m := n) hl).1
  · rename_i none
    split
    · exact List.mem_append_right _ List.mem_cons_self
    · rename_i full
      obtain ⟨m, hm, rep⟩ := h.resolve_left full
      simp [replaceUnsent_eq_none.1 none m hm] at rep

/-! ### The room a queue still needs -/

/-- The notice is a ROUTE NOTICE. -/
def isRouteNotice : Notice → Bool
  | .route .. => true
  | _ => false

/-- The notice is a KEY NOTICE. -/
def isKeyNotice : Notice → Bool
  | .key .. => true
  | _ => false

/-- The longest the queue can get by deliveries of ROUTE and KEY NOTICEs: its length, with a place for each of the two kinds of
which no notice is unsent, and one for a head that would be sent at once. -/
def reach (pt : Port) : Nat :=
  pt.notices.length + (if (unsent pt).any isRouteNotice then 0 else 1) + (if (unsent pt).any isKeyNotice then 0 else 1)
    + (if pt.transmitter = .sendingNotice ∧ pt.notices = [] then 1 else 0)

theorem reach_le (pt : Port) (h : pt.notices.length ≤ 4) : reach pt ≤ 6 := by
  by_cases weird : pt.transmitter = .sendingNotice ∧ pt.notices = []
  · simp [reach, unsent, weird.1, weird.2]
  · simp only [reach, if_neg weird]
    split_ifs <;> omega

/-- A ROUTE or KEY NOTICE replaces exactly the notices of its kind. -/
theorem replaces_eq (n m : Notice) :
    n.replaces m = (isRouteNotice n && isRouteNotice m || isKeyNotice n && isKeyNotice m) := by
  cases n <;> cases m <;> rfl

/-- No notice is of both kinds. -/
theorem isKeyNotice_of_isRouteNotice {n : Notice} (h : isRouteNotice n = true) : isKeyNotice n = false := by
  cases n <;> simp_all [isRouteNotice, isKeyNotice]

/-- A replacement keeps what kinds of notice are unsent. -/
theorem any_replaceFirst {n : Notice} {K : Notice → Bool} (hK : ∀ m, n.replaces m = true → K m = K n) {l l' : List Notice}
    (h : replaceFirst n l = some l') : l'.any K = l.any K := by
  induction l generalizing l' with
  | nil => simp [replaceFirst] at h
  | cons x l ih =>
    by_cases hx : n.replaces x = true
    · simp only [replaceFirst, hx, if_true, Option.some.injEq] at h
      subst h
      simp [hK x hx]
    · simp only [replaceFirst, hx, Bool.false_eq_true, if_false, Option.map_eq_some_iff] at h
      obtain ⟨r, hr, rfl⟩ := h
      simp [ih hr]

theorem any_unsent_replaced {pt : Port} {n : Notice} {K : Notice → Bool} (hK : ∀ m, n.replaces m = true → K m = K n)
    {l : List Notice} (h : pt.replaceUnsent n = some l) : (unsent { pt with notices := l }).any K = (unsent pt).any K := by
  unfold Port.replaceUnsent at h
  split at h
  · rename_i head rest sending notices
    simp only [Option.map_eq_some_iff] at h
    obtain ⟨r, hr, rfl⟩ := h
    simp only [unsent, sending, notices]
    exact any_replaceFirst hK hr
  · rename_i other
    have same := any_replaceFirst hK h
    cases sending : pt.transmitter with
    | idle => simpa [unsent, sending] using same
    | sendingReply => simpa [unsent, sending] using same
    | sendingNotice =>
      cases notices : pt.notices with
      | nil => simp [notices, replaceFirst] at h
      | cons head rest => exact absurd notices (other head rest sending)

/-- A notice that joins the queue is unsent, but for one that joins an empty queue whose head would be sent. -/
theorem unsent_joined (pt : Port) (n : Notice) (h : ¬ (pt.transmitter = .sendingNotice ∧ pt.notices = [])) :
    unsent { pt with notices := pt.notices ++ [n] } = unsent pt ++ [n] := by
  cases sending : pt.transmitter with
  | idle => simp [unsent, sending]
  | sendingReply => simp [unsent, sending]
  | sendingNotice =>
    cases notices : pt.notices with
    | nil => exact absurd ⟨sending, notices⟩ h
    | cons head rest => simp [unsent, sending, notices]

/-- A ROUTE or KEY NOTICE does not lengthen the reach of a queue. -/
theorem reach_deliver_kind (pt : Port) {n : Notice} (kind : isRouteNotice n = true ∨ isKeyNotice n = true) :
    reach (pt.deliver n) ≤ reach pt := by
  have same (K : Notice → Bool) (h : K = isRouteNotice ∨ K = isKeyNotice) (m : Notice) (rep : n.replaces m = true) :
      K m = K n := by
    rw [replaces_eq] at rep
    rcases h with rfl | rfl <;> cases n <;> cases m <;> simp_all [isRouteNotice, isKeyNotice]
  unfold Port.deliver
  split
  · rename_i l hl
    have length := replaceUnsent_length pt n l hl
    have empty : l = [] ↔ pt.notices = [] := by simp only [← List.length_eq_zero_iff, length]
    simp only [reach, any_unsent_replaced (same _ (.inl rfl)) hl, any_unsent_replaced (same _ (.inr rfl)) hl, length, empty]
    exact le_rfl
  · rename_i none
    have absent (m : Notice) (hm : m ∈ unsent pt) : n.replaces m = false := replaceUnsent_eq_none.1 none m hm
    split
    · by_cases weird : pt.transmitter = .sendingNotice ∧ pt.notices = []
      · simp [reach, unsent, weird.1, weird.2]
      · simp only [reach, unsent_joined pt n weird, List.any_append, weird, if_false]
        rcases kind with kind | kind
        · have noRoute : (unsent pt).any isRouteNotice = false := by
            simp only [List.any_eq_false, Bool.not_eq_true]
            intro m hm
            simpa [replaces_eq, kind, isKeyNotice_of_isRouteNotice kind] using absent m hm
          simp [noRoute, kind, isKeyNotice_of_isRouteNotice kind]
        · have noRoute : isRouteNotice n = false := by
            by_contra route
            simp [isKeyNotice_of_isRouteNotice (by simpa using route)] at kind
          have noKey : (unsent pt).any isKeyNotice = false := by
            simp only [List.any_eq_false, Bool.not_eq_true]
            intro m hm
            simpa [replaces_eq, kind, noRoute] using absent m hm
          simp [noKey, kind, noRoute]
          omega
    · exact le_rfl

/-- A queue with room for its reach takes every ROUTE and KEY NOTICE. -/
theorem mem_deliver_kind {pt : Port} {n : Notice} (kind : isRouteNotice n = true ∨ isKeyNotice n = true) (room : reach pt ≤ 8) :
    n ∈ (pt.deliver n).notices := by
  refine mem_deliver_new ?_
  by_contra full
  simp only [not_or, not_exists, not_and, Bool.not_eq_true, not_lt] at full
  obtain ⟨long, absent⟩ := full
  have none (K : Notice → Bool) (h : ∀ m, K m = true → n.replaces m = true) : (unsent pt).any K = false := by
    simp only [List.any_eq_false]
    intro m hm hK
    exact absurd (h m hK) (by simp [absent m hm])
  unfold reach at room
  rcases kind with kind | kind
  · rw [none isRouteNotice fun m hm => by simp [replaces_eq, kind, hm]] at room
    simp at room
    omega
  · rw [none isKeyNotice fun m hm => by simp [replaces_eq, kind, hm]] at room
    simp at room
    omega

/-! ### The notices of an event -/

/-- What a raised notice says to link `q`, when it goes there (R188). -/
def Told (b : Bank) (w : Blocks) (q : Pos) : Raised → Option Notice
  | .route p cause answer => if q = p then some (routeNotice w p cause answer) else none
  | .key p event conflict => if q = p then some (keyNotice b w p event conflict) else none
  | .all n => some n

theorem deliverOne_told (b : Bank) (w : Blocks) (ports : Vector Port 6) (n : Raised) (q : Pos) :
    (deliverOne b w ports n).get q = match Told b w q n with
      | none => ports.get q
      | some m => (ports.get q).deliver m := by
  cases n with
  | route p cause answer =>
    simp only [deliverOne, Told, put_get]
    split <;> rename_i h
    · subst h; rfl
    · rfl
  | key p event conflict =>
    simp only [deliverOne, Told, put_get]
    split <;> rename_i h
    · subst h; rfl
    · rfl
  | all n => simp [deliverOne, Told]

/-- None of the raised notices goes to every link. -/
def NoAlls (l : List Raised) : Prop := ∀ n, Raised.all n ∉ l

/-- What is said to one link alone is a ROUTE or KEY NOTICE. -/
theorem told_kind {b : Bank} {w : Blocks} {q : Pos} {n : Raised} {m : Notice} (h : Told b w q n = some m)
    (one : ∀ m, n ≠ .all m) : isRouteNotice m = true ∨ isKeyNotice m = true := by
  cases n with
  | route p cause answer =>
    simp only [Told] at h
    split at h <;> cases h
    exact .inl rfl
  | key p event conflict =>
    simp only [Told] at h
    split at h <;> cases h
    exact .inr rfl
  | all n => exact absurd rfl (one n)

theorem reach_deliverAll (b : Bank) (w : Blocks) (q : Pos) (l : List Raised) (ports : Vector Port 6) (noAlls : NoAlls l) :
    reach ((l.foldl (deliverOne b w) ports).get q) ≤ reach (ports.get q) := by
  induction l generalizing ports with
  | nil => exact le_rfl
  | cons n l ih =>
    refine (ih _ fun m hm => noAlls m (List.mem_cons_of_mem _ hm)).trans ?_
    rw [deliverOne_told]
    split
    · exact le_rfl
    · rename_i m told
      exact reach_deliver_kind _ (told_kind told fun m e => noAlls m (e ▸ List.mem_cons_self))

theorem mem_deliverAll_old {b : Bank} {w : Blocks} {q : Pos} {m : Notice} (l : List Raised) (ports : Vector Port 6)
    (keep : ∀ n ∈ l, ∀ k, Told b w q n = some k → k.replaces m = false) (h : m ∈ (ports.get q).notices) :
    m ∈ ((l.foldl (deliverOne b w) ports).get q).notices := by
  induction l generalizing ports with
  | nil => exact h
  | cons n l ih =>
    refine ih _ (fun k hk => keep k (List.mem_cons_of_mem _ hk)) ?_
    rw [deliverOne_told]
    split
    · exact h
    · rename_i k hk
      exact mem_deliver_old h (keep n List.mem_cons_self k hk)

/-- `x` is the last of the raised notices of which `P` is true. -/
def LastOf (P : Raised → Prop) (x : Raised) (l : List Raised) : Prop :=
  ∃ before after, l = before ++ x :: after ∧ ∀ y ∈ after, ¬ P y

theorem LastOf.append {P : Raised → Prop} {x : Raised} {l : List Raised} (h : LastOf P x l) {l' : List Raised}
    (no : ∀ y ∈ l', ¬ P y) : LastOf P x (l ++ l') := by
  obtain ⟨before, after, rfl, last⟩ := h
  refine ⟨before, after ++ l', by simp, fun y hy => ?_⟩
  exact (List.mem_append.1 hy).elim (last y) (no y)

theorem LastOf.prepend {P : Raised → Prop} {x : Raised} {l : List Raised} (h : LastOf P x l) (l' : List Raised) :
    LastOf P x (l' ++ l) := by
  obtain ⟨before, after, rfl, last⟩ := h
  exact ⟨l' ++ before, after, by simp, last⟩

theorem lastOf_concat (P : Raised → Prop) (x : Raised) (l : List Raised) : LastOf P x (l ++ [x]) :=
  ⟨l, [], rfl, fun _ hy => absurd hy List.not_mem_nil⟩

/-- The raised notice is a KEY NOTICE of position `q`. -/
def isKeyOf (q : Pos) : Raised → Prop
  | .key p _ _ => p = q
  | .route .. => False
  | .all _ => False

/-- The raised notice is a ROUTE NOTICE of position `q`. -/
def isRouteOf (q : Pos) : Raised → Prop
  | .route p _ _ => p = q
  | .key .. => False
  | .all _ => False

/-- A raised notice that goes to link `q` and that no later one replaces is held by the link (R188). -/
theorem holds_last {b : Bank} {w : Blocks} {q : Pos} {P : Raised → Prop} {x : Raised} {m : Notice} {l : List Raised}
    (last : LastOf P x l) (told : Told b w q x = some m)
    (keep : ∀ y k, (∀ n, y ≠ .all n) → ¬ P y → Told b w q y = some k → k.replaces m = false) (noAlls : NoAlls l)
    (ports : Vector Port 6) (few : (ports.get q).notices.length ≤ 4) :
    m ∈ ((l.foldl (deliverOne b w) ports).get q).notices := by
  obtain ⟨before, after, rfl, later⟩ := last
  have one {y : Raised} (hy : y ∈ before ++ x :: after) (n : Notice) : y ≠ .all n := fun e => noAlls n (e ▸ hy)
  rw [List.foldl_append, List.foldl_cons]
  refine mem_deliverAll_old after _ (fun y hy k => keep y k (one (by simp [hy])) (later y hy)) ?_
  have room := reach_deliverAll b w q before ports fun n hn => one (List.mem_append_left _ hn) n rfl
  rw [deliverOne_told, told]
  exact mem_deliver_kind (told_kind told (one (by simp))) (by have := reach_le _ few; omega)

/-- The last KEY NOTICE an event raises for a position is held by its link (R188). -/
theorem holds_lastKey {b : Bank} {w : Blocks} {q : Pos} {event : KeyEvent} {conflict : Option Pos} {l : List Raised}
    (last : LastOf (isKeyOf q) (.key q event conflict) l) (noAlls : NoAlls l) (ports : Vector Port 6)
    (few : (ports.get q).notices.length ≤ 4) :
    keyNotice b w q event conflict ∈ ((l.foldl (deliverOne b w) ports).get q).notices := by
  refine holds_last last (if_pos rfl) (fun y k one other told => ?_) noAlls ports few
  cases y with
  | route p cause answer =>
    simp only [Told] at told
    split at told <;> cases told
    rfl
  | key p e c =>
    simp only [Told] at told
    split at told <;> rename_i same
    · exact absurd same.symm other
    · cases told
  | all n => exact absurd rfl (one n)

/-- The last ROUTE NOTICE an event raises for a position is held by its link (R188). -/
theorem holds_lastRoute {b : Bank} {w : Blocks} {q : Pos} {cause : RouteCause} {answer : Option Answer} {l : List Raised}
    (last : LastOf (isRouteOf q) (.route q cause answer) l) (noAlls : NoAlls l) (ports : Vector Port 6)
    (few : (ports.get q).notices.length ≤ 4) :
    routeNotice w q cause answer ∈ ((l.foldl (deliverOne b w) ports).get q).notices := by
  refine holds_last last (if_pos rfl) (fun y k one other told => ?_) noAlls ports few
  cases y with
  | route p cause answer =>
    simp only [Told] at told
    split at told <;> rename_i same
    · exact absurd same.symm other
    · cases told
  | key p e c =>
    simp only [Told] at told
    split at told <;> cases told
    rfl
  | all n => exact absurd rfl (one n)

end Sys2Proof.Proofs.Delivery

/-!
SUPPORT. Selection over two states of the blocks (R42 to R46): it reads the band, the current antenna, the groups, and what the
other positions occupy and claim; and the more these take, the fewer antennas are available.
-/
namespace Sys2Proof.Proofs.Selecting
open Sys2Proof Sys2Proof.Machine

/-- In `w'` the positions other than `p` occupy and claim all that they do in `w`, and no group is judged less strictly. -/
structure Crowds (p : Pos) (w w' : Blocks) : Prop where
  occupants : ∀ (a : Ant) (q : Pos), q ≠ p → (∃ o ∈ (w.routes.antennas.get a).occupants, o.pos = q) →
    ∃ o ∈ (w'.routes.antennas.get a).occupants, o.pos = q
  claims : ∀ q : Pos, q ≠ p → ∀ k ∈ (w.image.claims.get q).effective ++ (w.image.claims.get q).reserved,
    k ∈ (w'.image.claims.get q).effective ++ (w'.image.claims.get q).reserved
  groups : ∀ c : Coil, judgedExclusive w c = true → judgedExclusive w' c = true

theorem Crowds.refl (p : Pos) (w : Blocks) : Crowds p w w := ⟨fun _ _ _ h => h, fun _ _ _ h => h, fun _ h => h⟩

theorem Crowds.trans {p : Pos} {w w' w'' : Blocks} (h : Crowds p w w') (k : Crowds p w' w'') : Crowds p w w'' :=
  ⟨fun a q ne o => k.occupants a q ne (h.occupants a q ne o), fun q ne c hc => k.claims q ne c (h.claims q ne c hc),
    fun c j => k.groups c (h.groups c j)⟩

/-- An antenna open in the more crowded state is open in the other (R45). -/
theorem Crowds.openTo {p : Pos} {w w' : Blocks} (h : Crowds p w w') {b : Bank} {a : Ant} (o : openTo b w' a p = true) :
    Machine.openTo b w a p = true := by
  have fewer := List.Sublist.length_le (List.monotone_filter_right positions
    (p := fun q => decide (q ≠ p) && (w.routes.antennas.get a).occupants.any fun o => decide (o.pos = q))
    (q := fun q => decide (q ≠ p) && (w'.routes.antennas.get a).occupants.any fun o => decide (o.pos = q))
    fun q hq => by
      simp only [Bool.and_eq_true, decide_eq_true_eq, List.any_eq_true] at hq ⊢
      exact ⟨hq.1, h.occupants a q hq.1 hq.2⟩)
  unfold Machine.openTo at o ⊢
  dsimp only at o ⊢
  split <;> rename_i share <;> simp only [share, decide_eq_true_eq] at o ⊢ <;> omega

/-- A path compatible in the more crowded state is compatible in the other (R46). -/
theorem Crowds.compatible {p : Pos} {w w' : Blocks} (h : Crowds p w w') {b : Bank} {a : Ant}
    (c : compatible b w' a p = true) : Machine.compatible b w a p = true := by
  unfold Machine.compatible at c ⊢
  rw [List.all_eq_true] at c ⊢
  intro k hk
  have claim := c k hk
  unfold claimCompatible at claim ⊢
  simp only [List.all_eq_true, Bool.or_eq_true, decide_eq_true_eq, Bool.not_eq_true', Bool.and_eq_false_iff,
    decide_eq_false_iff_not, Bool.or_eq_false_iff] at claim ⊢
  intro q hq
  rcases claim q hq with own | others
  · exact .inl own
  · by_cases own : q = p
    · exact .inl own
    · refine .inr fun o ho => (others o (h.claims q own o ho)).imp_right fun ⟨judged, value⟩ => ⟨?_, value⟩
      by_contra strict
      rw [Bool.not_eq_false] at strict
      simp [h.groups _ strict] at judged

theorem Crowds.available {p : Pos} {w w' : Blocks} (h : Crowds p w w') {b : Bank} {a : Ant}
    (v : available b w' a p = true) : Machine.available b w a p = true := by
  simp only [Machine.available, Bool.and_eq_true] at v ⊢
  exact ⟨h.openTo v.1, h.compatible v.2⟩

/-- A walk of a preference list that does not come to a target comes to the same where fewer antennas are available (R43). -/
theorem preferenceWalk_of_fewer {v : View} {w w' : Blocks} {p : Pos} {n : Band}
    (fewer : ∀ a, available v.bank w' a p = true → available v.bank w a p = true)
    (antenna : (w'.routes.contexts.get p).antenna = (w.routes.contexts.get p).antenna) (l : List Nat) (passed : Bool)
    (no : ∀ a, preferenceWalk v w p n passed l ≠ .target a) :
    preferenceWalk v w' p n passed l = preferenceWalk v w p n passed l := by
  induction l generalizing passed with
  | nil => rfl
  | cons k l ih =>
    unfold preferenceWalk at no ⊢
    split
    · rename_i h
      simp only [h] at no ⊢
      exact ih passed no
    · rename_i a h
      simp only [h, antenna] at no ⊢
      by_cases statics : passesStatic v.bank p n a = true
      · by_cases now : (w.routes.contexts.get p).antenna = some a
        · simp [statics, now]
        · have taken : ¬ available v.bank w a p = true := fun av => by simp [statics, now, av] at no
          have taken' : ¬ available v.bank w' a p = true := fun av => taken (fewer a av)
          simp only [statics, now, taken, taken', if_true, if_false] at no ⊢
          exact ih true no
      · simp only [statics, Bool.false_eq_true, if_false] at no ⊢
        exact ih passed no

/-- A selection that does not come to a target comes to the same where fewer antennas are available (R42). -/
theorem selection_of_fewer {v : View} {w w' : Blocks} {p : Pos} {kind : RequestKind}
    (fewer : ∀ a, available v.bank w' a p = true → available v.bank w a p = true)
    (antenna : (w'.routes.contexts.get p).antenna = (w.routes.contexts.get p).antenna)
    (entry : (w'.classifier.get p).entry = (w.classifier.get p).entry) (no : ∀ a, selection v w p kind ≠ .target a) :
    selection v w' p kind = selection v w p kind := by
  cases kind with
  | byPreference =>
    unfold selection at no ⊢
    simp only [entry] at no ⊢
    cases h : (w.classifier.get p).entry with
    | none => rfl
    | some e =>
      simp only [h] at no ⊢
      exact preferenceWalk_of_fewer fewer antenna _ _ no
  | antenna a =>
    unfold selection at no ⊢
    simp only [antenna] at no ⊢
    split_ifs at no ⊢ <;> simp_all
  | release =>
    unfold selection
    simp only [antenna]

/-- Where as much is available, a selection comes to the same. -/
theorem selection_congr {v : View} {w w' : Blocks} {p : Pos} (kind : RequestKind) (more : Crowds p w w') (less : Crowds p w' w)
    (antenna : (w'.routes.contexts.get p).antenna = (w.routes.contexts.get p).antenna)
    (entry : (w'.classifier.get p).entry = (w.classifier.get p).entry) :
    selection v w' p kind = selection v w p kind := by
  have same (a : Ant) : available v.bank w' a p = available v.bank w a p :=
    Bool.eq_iff_iff.2 ⟨more.available, less.available⟩
  have walk (n : Band) (l : List Nat) (passed : Bool) :
      preferenceWalk v w' p n passed l = preferenceWalk v w p n passed l := by
    induction l generalizing passed with
    | nil => rfl
    | cons k l ih =>
      unfold preferenceWalk
      split
      · exact ih passed
      · simp only [antenna, same, ih]
  cases kind <;> simp only [selection, entry, antenna, same, walk]

end Sys2Proof.Proofs.Selecting

/-!
SUPPORT. What an operation of the Route Engine on one position leaves of the others (`Touches`), and what it does to the
position's permit (`PermitStep`).
-/
namespace Sys2Proof.Proofs.Acting
open Sys2Proof Sys2Proof.Machine Sys2Proof.Proofs.Delivery Sys2Proof.Proofs.Selecting

/-! ### The frame of an operation on one position -/

/-- The raised notice is about position `p`. -/
def about (p : Pos) (n : Raised) : Prop := isKeyOf p n ∨ isRouteOf p n

/-- Between `w` and `w'` only position `p` was acted on: the others keep their contexts, claims, places, switch holds and keys,
and `p` its effective claims; a group can only have been settled (R95). -/
structure Touches (p : Pos) (w w' : Work) : Prop where
  classifier : w'.classifier = w.classifier
  monitor : w'.monitor = w.monitor
  coils : w'.image.coils = w.image.coils
  source : w'.image.source = w.image.source
  contexts : ∀ q, q ≠ p → w'.routes.contexts.get q = w.routes.contexts.get q
  held : ∀ q, q ≠ p → (q ∈ w'.routes.held ↔ q ∈ w.routes.held)
  heldOrder : w'.routes.held.filter (fun q => decide (q ≠ p)) = w.routes.held.filter fun q => decide (q ≠ p)
  claims : ∀ q, q ≠ p → w'.image.claims.get q = w.image.claims.get q
  effective : (w'.image.claims.get p).effective = (w.image.claims.get p).effective
  holds : ∀ a q, q ≠ p → (w'.routes.antennas.get a).holds.get q = (w.routes.antennas.get a).holds.get q
  occupants : ∀ a, (w'.routes.antennas.get a).occupants.filter (fun o => decide (o.pos ≠ p)) =
    (w.routes.antennas.get a).occupants.filter fun o => decide (o.pos ≠ p)
  groups : ∀ g, w'.image.groups.get g = w.image.groups.get g ∨
    ((w.image.groups.get g).awaited = true ∧ w'.image.groups.get g = ⟨.exclusive, false⟩)
  keys : ∀ q, q ≠ p → w'.gate.keys.get q = w.gate.keys.get q
  waiting : w'.gate.waiting = w.gate.waiting
  examineAll : w'.examineAll = w.examineAll
  commitTold : w'.commitTold = w.commitTold
  examine : ∀ q, q ≠ p → (q ∈ w'.examine ↔ q ∈ w.examine)
  ended : ∀ q, q ≠ p → (q ∈ w'.ended ↔ q ∈ w.ended)
  raised : ∃ l, w'.raised = w.raised ++ l ∧ ∀ n ∈ l, about p n

theorem Touches.refl (p : Pos) (w : Work) : Touches p w w where
  classifier := rfl
  monitor := rfl
  coils := rfl
  source := rfl
  contexts _ _ := rfl
  held _ _ := Iff.rfl
  heldOrder := rfl
  claims _ _ := rfl
  effective := rfl
  holds _ _ _ := rfl
  occupants _ := rfl
  groups _ := .inl rfl
  keys _ _ := rfl
  waiting := rfl
  examineAll := rfl
  commitTold := rfl
  examine _ _ := Iff.rfl
  ended _ _ := Iff.rfl
  raised := ⟨[], by simp⟩

theorem Touches.trans {p : Pos} {w w' w'' : Work} (h : Touches p w w') (k : Touches p w' w'') : Touches p w w'' where
  classifier := k.classifier.trans h.classifier
  monitor := k.monitor.trans h.monitor
  coils := k.coils.trans h.coils
  source := k.source.trans h.source
  contexts q ne := (k.contexts q ne).trans (h.contexts q ne)
  held q ne := (k.held q ne).trans (h.held q ne)
  heldOrder := k.heldOrder.trans h.heldOrder
  claims q ne := (k.claims q ne).trans (h.claims q ne)
  effective := k.effective.trans h.effective
  holds a q ne := (k.holds a q ne).trans (h.holds a q ne)
  occupants a := (k.occupants a).trans (h.occupants a)
  groups g := by
    rcases h.groups g with same | ⟨awaited, settled⟩
    · rw [← same]
      exact k.groups g
    · refine .inr ⟨awaited, (k.groups g).elim (fun same => same.trans settled) fun ⟨again, _⟩ => ?_⟩
      simp [settled] at again
  keys q ne := (k.keys q ne).trans (h.keys q ne)
  waiting := k.waiting.trans h.waiting
  examineAll := k.examineAll.trans h.examineAll
  commitTold := k.commitTold.trans h.commitTold
  examine q ne := (k.examine q ne).trans (h.examine q ne)
  ended q ne := (k.ended q ne).trans (h.ended q ne)
  raised := by
    obtain ⟨l, hl, al⟩ := h.raised
    obtain ⟨m, hm, am⟩ := k.raised
    exact ⟨l ++ m, by rw [hm, hl, List.append_assoc], fun n hn => (List.mem_append.1 hn).elim (al n) (am n)⟩

/-- What the other positions occupy and claim is the same on both sides, and so are the judgements of the groups. -/
theorem Touches.crowds {p : Pos} {w w' : Work} (h : Touches p w w') :
    Crowds p w.toBlocks w'.toBlocks ∧ Crowds p w'.toBlocks w.toBlocks := by
  have places (a : Ant) (q : Pos) (ne : q ≠ p) (o : Occupant) (e : o.pos = q) :
      o ∈ (w.routes.antennas.get a).occupants ↔ o ∈ (w'.routes.antennas.get a).occupants := by
    have mem (l : List Occupant) : o ∈ l ↔ o ∈ l.filter fun o => decide (o.pos ≠ p) := by simp [e, ne]
    rw [mem, mem (w'.routes.antennas.get a).occupants, h.occupants a]
  have judged (c : Coil) : judgedExclusive w.toBlocks c = judgedExclusive w'.toBlocks c := by
    unfold judgedExclusive
    rcases h.groups (groupOf c) with same | ⟨awaited, settled⟩
    · rw [same]
    · simp [awaited, settled]
  exact ⟨⟨fun a q ne ⟨o, ho, e⟩ => ⟨o, (places a q ne o e).1 ho, e⟩, fun q ne k hk => by rwa [h.claims q ne],
      fun c j => (judged c) ▸ j⟩,
    ⟨fun a q ne ⟨o, ho, e⟩ => ⟨o, (places a q ne o e).2 ho, e⟩, fun q ne k hk => by rwa [h.claims q ne] at hk,
      fun c j => (judged c) ▸ j⟩⟩

/-- An operation on the position that keeps its antenna leaves its selections as they are. -/
theorem Touches.selection {p : Pos} {w w' : Work} (h : Touches p w w') (v : View) (kind : RequestKind)
    (antenna : (w'.context p).antenna = (w.context p).antenna) :
    Machine.selection v w'.toBlocks p kind = Machine.selection v w.toBlocks p kind :=
  selection_congr kind h.crowds.1 h.crowds.2 antenna (by rw [h.classifier])

/-! ### The elementary operations on one position -/

/-- An operation that changes the routes alone acts on `p` when it leaves the rest of the routes. -/
theorem touches_of_routes {p : Pos} {w w' : Work} (r : Routes) (e : w' = { w with routes := r })
    (contexts : ∀ q, q ≠ p → r.contexts.get q = w.routes.contexts.get q)
    (held : r.held.filter (fun q => decide (q ≠ p)) = w.routes.held.filter fun q => decide (q ≠ p))
    (holds : ∀ a q, q ≠ p → (r.antennas.get a).holds.get q = (w.routes.antennas.get a).holds.get q)
    (occupants : ∀ a, (r.antennas.get a).occupants.filter (fun o => decide (o.pos ≠ p)) =
      (w.routes.antennas.get a).occupants.filter fun o => decide (o.pos ≠ p)) : Touches p w w' := by
  subst e
  have mem (q : Pos) (ne : q ≠ p) (l : List Pos) : q ∈ l ↔ q ∈ l.filter fun q => decide (q ≠ p) := by simp [ne]
  exact { Touches.refl p w with
    contexts := contexts
    held := fun q ne => by rw [mem q ne, mem q ne w.routes.held, held]
    heldOrder := held
    holds := holds
    occupants := occupants }

theorem touches_setContext (p : Pos) (c : Context) (w : Work) : Touches p w (w.setContext p c) :=
  touches_of_routes _ rfl (fun _ ne => put_get_other _ _ ne) rfl (fun _ _ _ => rfl) fun _ => rfl

/-- An antenna record replaced by one that differs in what it says of `p`. -/
theorem touches_setAntenna {p : Pos} {a : Ant} {r : AntennaRecord} {w : Work}
    (holds : ∀ q, q ≠ p → r.holds.get q = (w.antenna a).holds.get q)
    (occupants : r.occupants.filter (fun o => decide (o.pos ≠ p)) =
      (w.antenna a).occupants.filter fun o => decide (o.pos ≠ p)) : Touches p w (w.setAntenna a r) := by
  refine touches_of_routes _ rfl (fun _ _ => rfl) rfl (fun n q ne => ?_) fun n => ?_
  · dsimp only
    rw [put_get]
    split <;> rename_i e
    · exact e ▸ holds q ne
    · rfl
  · dsimp only
    rw [put_get]
    split <;> rename_i e
    · exact e ▸ occupants
    · rfl

theorem touches_addHold (p : Pos) (a : Option Ant) (w : Work) : Touches p w (addHold p a w) := by
  cases a with
  | none => exact Touches.refl p w
  | some a => exact touches_setAntenna (fun q ne => put_get_other _ _ ne) rfl

theorem touches_dropHold (p : Pos) (a : Option Ant) (w : Work) : Touches p w (dropHold p a w) := by
  cases a with
  | none => exact Touches.refl p w
  | some a => exact touches_setAntenna (fun q ne => put_get_other _ _ ne) rfl

theorem touches_addReservation (p : Pos) (a : Ant) (w : Work) : Touches p w (addReservation p a w) :=
  touches_setAntenna (fun _ _ => rfl) (by simp)

theorem touches_dropReservation (p : Pos) (a : Ant) (w : Work) : Touches p w (dropReservation p a w) := by
  refine touches_setAntenna (fun _ _ => rfl) ?_
  dsimp only
  rw [List.filter_filter]
  refine List.filter_congr fun o _ => ?_
  by_cases e : o.pos = p <;> simp [e]

/-- An operation that changes the claims of `p` but for the effective ones. -/
theorem touches_setClaims {p : Pos} {c : ClaimLists} {w : Work} (h : c.effective = (w.claims p).effective) :
    Touches p w (w.setClaims p c) :=
  { Touches.refl p w with
    claims := fun _ ne => put_get_other _ _ ne
    effective := (congrArg ClaimLists.effective (put_get_same _ _ _)).trans h }

/-- Settling is a change of groups that wait (R95). -/
theorem touches_settleGroup (p : Pos) (g : Group) (w : Work) : Touches p w (settleGroup w g) := by
  unfold settleGroup
  split
  · rename_i h
    simp only [Bool.and_eq_true] at h
    refine { Touches.refl p w with groups := fun n => ?_ }
    change (put w.image.groups g ⟨.exclusive, false⟩).get n = _ ∨ _ ∧ (put w.image.groups g ⟨.exclusive, false⟩).get n = _
    rw [put_get]
    split <;> rename_i e
    · exact .inr ⟨e ▸ h.1, rfl⟩
    · exact .inl rfl
  · exact Touches.refl p w

theorem touches_settleGroups (p : Pos) (cs : List Claim) (w : Work) : Touches p w (settleGroups cs w) := by
  unfold settleGroups
  generalize cs.map (fun k => groupOf k.coil) = gs
  induction gs generalizing w with
  | nil => exact Touches.refl p w
  | cons g gs ih => exact (touches_settleGroup p g w).trans (ih _)

theorem touches_dropReserved (p : Pos) (w : Work) : Touches p w (dropReserved p w) :=
  (touches_setClaims (c := { w.claims p with reserved := [] }) rfl).trans (touches_settleGroups p _ _)

theorem touches_reserve (v : View) (p : Pos) (target : Option Ant) (w : Work) : Touches p w (reserve v p target w) := by
  cases target with
  | none => exact Touches.refl p w
  | some a => exact (touches_addReservation p a w).trans (touches_setClaims rfl)

theorem touches_unreserve (p : Pos) (target : Option Ant) (w : Work) : Touches p w (unreserve p target w) := by
  cases target with
  | none => exact Touches.refl p w
  | some a => exact (touches_dropReservation p a w).trans (touches_dropReserved p _)

theorem touches_raise {p : Pos} {n : Raised} (h : about p n) (w : Work) : Touches p w (w.raise n) :=
  { Touches.refl p w with raised := ⟨[n], rfl, fun m hm => by simpa [List.mem_singleton.1 hm] using h⟩ }

theorem touches_endPermit (v : View) (p : Pos) (next : KeyState) (w : Work) : Touches p w (endPermit v p next w) := by
  unfold endPermit
  split
  · exact { Touches.refl p w with
      keys := fun _ ne => put_get_other _ _ ne
      ended := fun q ne => by simp [ne] }
  · exact { Touches.refl p w with keys := fun _ ne => put_get_other _ _ ne }

theorem touches_withdraw (v : View) (p : Pos) (r : Reason) (c : Option Pos) (w : Work) : Touches p w (withdraw v p r c w) := by
  unfold withdraw
  split
  · have owed : Touches p (endPermit v p (.barred r) w) { endPermit v p (.barred r) w with waitingWalk := true } :=
      { Touches.refl p _ with }
    exact ((touches_endPermit v p (.barred r) w).trans owed).trans (touches_raise (.inl (by rfl)) _)
  · exact Touches.refl p w

/-- The walks and the examination of `p` itself that an operation owes are nothing of another position. -/
theorem touches_owed (p : Pos) (w : Work) (held waiting : Bool) (faults : List Pos) (l : List Pos)
    (h : ∀ q, q ≠ p → (q ∈ l ↔ q ∈ w.examine)) :
    Touches p w { w with heldWalk := held, waitingWalk := waiting, abandonFaults := faults, examine := l } :=
  { Touches.refl p w with examine := h }

/-! ### The composed operations -/

theorem touches_dropHeld (p : Pos) (w : Work) : Touches p w (dropHeld p w) := by
  unfold dropHeld
  split
  · exact Touches.refl p w
  · split
    · exact Touches.refl p w
    · refine Touches.trans (touches_of_routes (p := p) { w.routes with
        contexts := put w.routes.contexts p { w.context p with slot := none }
        held := w.routes.held.filter (· ≠ p) } rfl (fun _ ne => put_get_other _ _ ne) (by simp [List.filter_filter])
        (fun _ _ _ => rfl) fun _ => rfl) (touches_owed p _ true _ _ _ fun _ _ => Iff.rfl)

theorem touches_heldToLatched (p : Pos) (w : Work) : Touches p w (heldToLatched p w) := by
  unfold heldToLatched
  split
  · exact Touches.refl p w
  · split
    · exact Touches.refl p w
    · rename_i r _ _ _
      refine Touches.trans (touches_of_routes (p := p) { w.routes with
        contexts := put w.routes.contexts p { w.context p with slot := some { r with status := .latched } }
        held := w.routes.held.filter (· ≠ p) } rfl (fun _ ne => put_get_other _ _ ne) (by simp [List.filter_filter])
        (fun _ _ _ => rfl) fun _ => rfl) (touches_owed p _ true _ _ _ fun _ _ => Iff.rfl)

theorem touches_leaveHeld (p : Pos) (w : Work) : Touches p w (leaveHeld p w) :=
  touches_of_routes { w.routes with
    contexts := put w.routes.contexts p { w.context p with slot := none }
    held := w.routes.held.filter (· ≠ p) } rfl (fun _ ne => put_get_other _ _ ne) (by simp [List.filter_filter])
    (fun _ _ _ => rfl) fun _ => rfl

theorem touches_placeHeld (p : Pos) (kind : RequestKind) (cause : Cause) (w : Work) :
    Touches p w (placeHeld p kind cause w) :=
  touches_of_routes { w.routes with
    contexts := put w.routes.contexts p { w.context p with slot := some ⟨kind, .held, cause⟩ }
    held := w.routes.held ++ [p] } rfl (fun _ ne => put_get_other _ _ ne) (by simp) (fun _ _ _ => rfl) fun _ => rfl

theorem touches_placeLatched (p : Pos) (kind : RequestKind) (cause : Cause) (w : Work) :
    Touches p w (placeLatched p kind cause w) :=
  touches_setContext p _ w

theorem touches_startTransition (v : View) (p : Pos) (kind : RequestKind) (cause : Cause) (target : Option Ant)
    (start : RouteState) (w : Work) : Touches p w (startTransition v p kind cause target start w) := by
  unfold startTransition
  dsimp only
  refine Touches.trans ?_ (touches_owed p _ _ _ _ _ fun q ne => by simp [ne])
  exact ((((touches_setContext p _ w).trans (touches_reserve v p target _)).trans (touches_addHold p _ _)).trans
    (touches_addHold p target _)).trans (touches_withdraw v p .switching none _)

theorem touches_faultRoute (v : View) (p : Pos) (w : Work) : Touches p w (faultRoute v p w) := by
  unfold faultRoute
  dsimp only
  refine Touches.trans ?_ (touches_owed p _ _ true _ _ fun _ _ => Iff.rfl)
  exact (((touches_setContext p _ w).trans (touches_withdraw v p .fault none _)).trans (touches_heldToLatched p _)).trans
    (touches_startTransition v p .release .fault none .routed _)

theorem touches_abandon (v : View) (p : Pos) (w : Work) : Touches p w (abandon v p w) := by
  unfold abandon
  split
  · exact Touches.refl p w
  · dsimp only
    have freed (t : Transition) (w : Work) : Touches p w (dropHold p t.target (dropHold p t.old (unreserve p t.target w))) :=
      (touches_unreserve p t.target w).trans ((touches_dropHold p t.old _).trans (touches_dropHold p t.target _))
    split
    · refine Touches.trans (Touches.trans ?_ (touches_faultRoute v p _)) (touches_owed p _ _ _ _ _ fun _ _ => Iff.rfl)
      refine Touches.trans ?_ (touches_owed p _ true true _ _ fun _ _ => Iff.rfl)
      exact ((touches_setContext p _ w).trans (freed _ _)).trans (touches_setContext p _ _)
    · refine Touches.trans ?_ (touches_owed p _ true true _ _ fun _ _ => Iff.rfl)
      exact ((touches_setContext p _ w).trans (freed _ _)).trans (touches_setContext p _ _)

theorem touches_replaceTarget (v : View) (p : Pos) (t : Transition) (kind : RequestKind) (cause : Cause)
    (target : Option Ant) (w : Work) : Touches p w (replaceTarget v p t kind cause target w) := by
  have dropped (w : Work) : Touches p w (if t.target = t.old then w else dropHold p t.target w) := by
    split
    · exact Touches.refl p w
    · exact touches_dropHold p t.target w
  unfold replaceTarget
  dsimp only
  refine Touches.trans ?_ (touches_owed p _ true true _ _ fun q ne => by simp [ne])
  exact ((((touches_unreserve p t.target w).trans (dropped _)).trans (touches_reserve v p target _)).trans
    (touches_addHold p target _)).trans (touches_setContext p _ _)

theorem touches_heldEntry (v : View) (w : Work) (p : Pos) : Touches p w (heldEntry v w p) := by
  unfold heldEntry
  split
  · exact Touches.refl p w
  · split
    · exact Touches.refl p w
    · split
      · exact Touches.refl p w
      · exact ((touches_leaveHeld p w).trans (touches_startTransition ..)).trans (touches_raise (.inr (by rfl)) _)
      · exact (touches_leaveHeld p w).trans (touches_raise (.inr (by rfl)) _)
      · exact (touches_leaveHeld p w).trans (touches_raise (.inr (by rfl)) _)

end Sys2Proof.Proofs.Acting

/-!
SUPPORT. The permit of a position in an event up to its waiting walk: kept, or withdrawn once (R143); and the start of a
transition, part by part (R67).
-/
namespace Sys2Proof.Proofs.Acting
open Sys2Proof Sys2Proof.Machine Sys2Proof.Proofs.Delivery Sys2Proof.Proofs.Selecting

/-! ### The permit of the position acted on -/

/-- The key record of a withdrawn position (R143). -/
def withdrawnKey (b : Bank) (k : KeyRecord) (r : Reason) : KeyRecord :=
  { k with
    state := .barred r, permit := false, tail := if b.timing.tailMs = 0 then k.tail else some b.timing.tailMs }

/-- The operation leaves the key record of `p`, ends no liveness of it and tells it of no key event. -/
structure PermitKept (p : Pos) (w w' : Work) : Prop where
  key : w'.gate.keys.get p = w.gate.keys.get p
  ended : p ∈ w'.ended ↔ p ∈ w.ended
  walk : w.waitingWalk = true → w'.waitingWalk = true
  raised : ∃ l, w'.raised = w.raised ++ l ∧ ∀ n ∈ l, ¬ isKeyOf p n

/-- The operation withdraws `p`, which is ON, with reason `r`, and owes a waiting walk (R143, R144). -/
structure PermitTaken (v : View) (p : Pos) (r : Reason) (w w' : Work) : Prop where
  on : isOn w.toBlocks p = true
  key : w'.gate.keys.get p = withdrawnKey v.bank (w.gate.keys.get p) r
  ended : p ∈ w'.ended ↔ p ∈ w.ended ∨ v.bank.timing.tailMs = 0
  walk : w'.waitingWalk = true
  told : LastOf (isKeyOf p) (.key p .withdrawn none) w'.raised

theorem PermitKept.refl (p : Pos) (w : Work) : PermitKept p w w := ⟨rfl, Iff.rfl, id, [], by simp⟩

theorem PermitKept.trans {p : Pos} {w w' w'' : Work} (h : PermitKept p w w') (k : PermitKept p w' w'') :
    PermitKept p w w'' := by
  obtain ⟨l, hl, al⟩ := h.raised
  obtain ⟨m, hm, am⟩ := k.raised
  exact ⟨k.key.trans h.key, k.ended.trans h.ended, fun o => k.walk (h.walk o), l ++ m, by rw [hm, hl, List.append_assoc],
    fun n hn => (List.mem_append.1 hn).elim (al n) (am n)⟩

theorem PermitKept.isOn {p : Pos} {w w' : Work} (h : PermitKept p w w') :
    Machine.isOn w'.toBlocks p = Machine.isOn w.toBlocks p := by
  simp [Machine.isOn, h.key]

theorem PermitKept.trans_taken {v : View} {p : Pos} {r : Reason} {w w' w'' : Work} (h : PermitKept p w w')
    (k : PermitTaken v p r w' w'') : PermitTaken v p r w w'' :=
  ⟨h.isOn ▸ k.on, h.key ▸ k.key, k.ended.trans (or_congr_left h.ended), k.walk, k.told⟩

theorem PermitTaken.trans_kept {v : View} {p : Pos} {r : Reason} {w w' w'' : Work} (h : PermitTaken v p r w w')
    (k : PermitKept p w' w'') : PermitTaken v p r w w'' := by
  obtain ⟨l, hl, al⟩ := k.raised
  exact ⟨h.on, k.key.trans h.key, k.ended.trans h.ended, k.walk h.walk, hl ▸ h.told.append al⟩

theorem PermitTaken.off {v : View} {p : Pos} {r : Reason} {w w' : Work} (h : PermitTaken v p r w w') :
    Machine.isOn w'.toBlocks p = false := by
  simp [Machine.isOn, h.key, withdrawnKey]

/-- An operation that leaves the gate, the ends of liveness and the notices leaves the permit. -/
theorem permitKept_of_eq {p : Pos} {w w' : Work} (gate : w'.gate = w.gate) (ended : w'.ended = w.ended)
    (walk : w.waitingWalk = true → w'.waitingWalk = true) (raised : w'.raised = w.raised) : PermitKept p w w' :=
  ⟨by rw [gate], by rw [ended], walk, [], by simp [raised]⟩

theorem permitKept_raise {p : Pos} {n : Raised} (h : ¬ isKeyOf p n) (w : Work) : PermitKept p w (w.raise n) :=
  ⟨rfl, Iff.rfl, id, [n], rfl, by simpa using h⟩

theorem permitTaken_withdraw {v : View} {p : Pos} {r : Reason} {w : Work} (on : isOn w.toBlocks p = true) :
    PermitTaken v p r w (withdraw v p r none w) where
  on := on
  key := by rw [withdraw_keys_of_on v p r none w on, put_get_same]; rfl
  ended := by
    simp only [withdraw, on, if_true, Work.raise_ended, endPermit]
    split <;> simp_all
  walk := by simp [withdraw, on]
  told := by
    simp only [withdraw, on, if_true]
    exact lastOf_concat _ _ _

/-! ### The start of a transition (R67) -/

theorem isOn_setContext (p q : Pos) (c : Context) (w : Work) : isOn (w.setContext p c).toBlocks q = isOn w.toBlocks q := rfl

/-- What the start of a transition does before it withdraws the permit leaves the gate. -/
theorem startTransition_eq (v : View) (p : Pos) (kind : RequestKind) (cause : Cause) (target : Option Ant)
    (start : RouteState) (w : Work) : ∃ w₁ : Work, w₁.gate = w.gate ∧ w₁.ended = w.ended ∧ w₁.raised = w.raised ∧
      w₁.waitingWalk = w.waitingWalk ∧ w₁.examine = w.examine ∧
      startTransition v p kind cause target start w =
        { withdraw v p .switching none w₁ with examine := p :: (withdraw v p .switching none w₁).examine } ∧
      w₁.routes.antennas = (addHold p target (addHold p (w.context p).antenna (reserve v p target w))).routes.antennas ∧
      w₁.image = (reserve v p target w).image := by
  refine ⟨_, ?_, ?_, ?_, ?_, ?_, rfl, ?_, ?_⟩
  case refine_6 => cases target <;> cases (w.context p).antenna <;> rfl
  case refine_7 => cases target <;> cases (w.context p).antenna <;> rfl
  all_goals simp

theorem startTransition_taken {v : View} {p : Pos} {kind : RequestKind} {cause : Cause} {target : Option Ant}
    {start : RouteState} {w : Work} (on : isOn w.toBlocks p = true) :
    PermitTaken v p .switching w (startTransition v p kind cause target start w) := by
  obtain ⟨w₁, gate, ended, raised, walk, -, e, -, -⟩ := startTransition_eq v p kind cause target start w
  rw [e]
  have kept : PermitKept p w w₁ := permitKept_of_eq gate ended (walk ▸ id) raised
  exact (kept.trans_taken (permitTaken_withdraw (kept.isOn ▸ on))).trans_kept (permitKept_of_eq rfl rfl id rfl)

theorem startTransition_kept {v : View} {p : Pos} {kind : RequestKind} {cause : Cause} {target : Option Ant}
    {start : RouteState} {w : Work} (off : isOn w.toBlocks p = false) :
    PermitKept p w (startTransition v p kind cause target start w) ∧
      (startTransition v p kind cause target start w).waitingWalk = w.waitingWalk := by
  obtain ⟨w₁, gate, ended, raised, walk, -, e, -, -⟩ := startTransition_eq v p kind cause target start w
  have off₁ : isOn w₁.toBlocks p = false := by simpa [isOn, gate] using off
  rw [e, withdraw_of_not_on _ _ _ _ _ off₁]
  exact ⟨permitKept_of_eq gate ended (walk ▸ id) raised, walk⟩

theorem startTransition_examine (v : View) (p : Pos) (kind : RequestKind) (cause : Cause) (target : Option Ant)
    (start : RouteState) (w : Work) : (startTransition v p kind cause target start w).examine = p :: w.examine := by
  simp [startTransition]

theorem reserve_occupants (v : View) (p : Pos) (target : Option Ant) (w : Work) (a : Ant) :
    ((reserve v p target w).routes.antennas.get a).occupants =
      reservedAtEnd p target a (w.routes.antennas.get a).occupants := by
  cases target with
  | none => rfl
  | some n =>
    change ((put w.routes.antennas n _).get a).occupants = _
    rw [put_get]
    by_cases e : a = n
    · subst e
      simp [reservedAtEnd]
    · simp [reservedAtEnd, e, Ne.symm e]

theorem reserve_holds (v : View) (p : Pos) (target : Option Ant) (w : Work) (a : Ant) :
    ((reserve v p target w).routes.antennas.get a).holds = (w.routes.antennas.get a).holds := by
  cases target with
  | none => rfl
  | some n =>
    change ((put w.routes.antennas n _).get a).holds = _
    rw [put_get]
    split <;> rename_i e
    · subst e; rfl
    · rfl

theorem addHold_occupants (p : Pos) (target : Option Ant) (w : Work) (a : Ant) :
    ((addHold p target w).routes.antennas.get a).occupants = (w.routes.antennas.get a).occupants := by
  cases target with
  | none => rfl
  | some n =>
    rw [addHold_some, put_get]
    split <;> rename_i e
    · subst e; rfl
    · rfl

theorem addHold_holds (p : Pos) (target : Option Ant) (w : Work) (a : Ant) :
    ((addHold p target w).routes.antennas.get a).holds.get p =
      (decide (target = some a) || (w.routes.antennas.get a).holds.get p) := by
  cases target with
  | none => rfl
  | some n =>
    rw [addHold_some, put_get]
    by_cases e : a = n
    · subst e; simp
    · simp [e, Ne.symm e]

theorem startTransition_occupants (v : View) (p : Pos) (kind : RequestKind) (cause : Cause) (target : Option Ant)
    (start : RouteState) (w : Work) (a : Ant) :
    ((startTransition v p kind cause target start w).routes.antennas.get a).occupants =
      reservedAtEnd p target a (w.routes.antennas.get a).occupants := by
  obtain ⟨w₁, -, -, -, -, -, e, antennas, -⟩ := startTransition_eq v p kind cause target start w
  rw [e]
  change ((withdraw v p .switching none w₁).routes.antennas.get a).occupants = _
  rw [(withdraw_frame v p .switching none w₁).2.2.1, antennas, addHold_occupants, addHold_occupants, reserve_occupants]

theorem startTransition_holds (v : View) (p : Pos) (kind : RequestKind) (cause : Cause) (target : Option Ant)
    (start : RouteState) (w : Work) (a : Ant) :
    ((startTransition v p kind cause target start w).routes.antennas.get a).holds.get p =
      (decide (target = some a) || (decide ((w.context p).antenna = some a) || (w.routes.antennas.get a).holds.get p)) := by
  obtain ⟨w₁, -, -, -, -, -, e, antennas, -⟩ := startTransition_eq v p kind cause target start w
  rw [e]
  change ((withdraw v p .switching none w₁).routes.antennas.get a).holds.get p = _
  rw [(withdraw_frame v p .switching none w₁).2.2.1, antennas, addHold_holds, addHold_holds, reserve_holds]

theorem startTransition_reserved (v : View) (p : Pos) (kind : RequestKind) (cause : Cause) (target : Option Ant)
    (start : RouteState) (w : Work) :
    ((startTransition v p kind cause target start w).image.claims.get p).reserved =
      target.elim (w.image.claims.get p).reserved fun n => (path v.bank p n).claims := by
  obtain ⟨w₁, -, -, -, -, -, e, -, image⟩ := startTransition_eq v p kind cause target start w
  rw [e]
  change ((withdraw v p .switching none w₁).image.claims.get p).reserved = _
  rw [(withdraw_frame v p .switching none w₁).2.2.2.1, image]
  cases target with
  | none => rfl
  | some n => exact congrArg ClaimLists.reserved (put_get_same _ _ _)

/-- A start of a position with no reserved claims crowds every position (R45, R46, R67). -/
theorem startTransition_crowds {v : View} {p : Pos} {kind : RequestKind} {cause : Cause} {target : Option Ant}
    {start : RouteState} {w : Work} (none : (w.image.claims.get p).reserved = []) (q : Pos) :
    Crowds q w.toBlocks (startTransition v p kind cause target start w).toBlocks where
  occupants a x _ h := by
    obtain ⟨o, ho, e⟩ := h
    refine ⟨o, ?_, e⟩
    rw [startTransition_occupants]
    unfold reservedAtEnd
    split
    · exact List.mem_append_left _ ho
    · exact ho
  claims x _ k hk := by
    have touches := touches_startTransition v p kind cause target start w
    by_cases e : x = p
    · subst e
      rw [none, List.append_nil] at hk
      rw [touches.effective]
      exact List.mem_append_left _ hk
    · rwa [touches.claims x e]
  groups c h := by
    have groups := (startTransition_frame v p kind cause target start w).2.2.2.1
    simpa [judgedExclusive, groups] using h

end Sys2Proof.Proofs.Acting

/-!
SUPPORT. The gate of an event before its waiting walk (`GateStage`), and the held walk: what each of its entries comes to
(`EntryResult`), and what it leaves of every other position (`Spares`) (R54, R55).
-/
namespace Sys2Proof.Proofs.Acting
open Sys2Proof Sys2Proof.Machine Sys2Proof.Proofs.Delivery Sys2Proof.Proofs.Selecting

/-! ### The gate before the waiting walk -/

/-- An event that began with the blocks `b` and has come to `w`, before its waiting walk: a key record stands, or its ON position
was withdrawn, told of it last, and has ended its liveness under tail time 0 (R130, R143). -/
structure GateStage (v : View) (b : Blocks) (w : Work) : Prop where
  waiting : w.gate.waiting = b.gate.waiting
  keys : ∀ q, (w.gate.keys.get q = b.gate.keys.get q ∧ q ∉ w.ended) ∨
    ((b.gate.keys.get q).state = .on ∧ (∃ r, w.gate.keys.get q = withdrawnKey v.bank (b.gate.keys.get q) r) ∧
      (q ∈ w.ended ↔ v.bank.timing.tailMs = 0) ∧ w.waitingWalk = true ∧
      LastOf (isKeyOf q) (.key q .withdrawn none) w.raised)
  noAlls : NoAlls w.raised
  examineAll : w.examineAll = false

theorem noAlls_append {l m : List Raised} (h : NoAlls l) {p : Pos} (k : ∀ n ∈ m, about p n) : NoAlls (l ++ m) := by
  intro n hn
  rcases List.mem_append.1 hn with hn | hn
  · exact h n hn
  · exact (k _ hn).elim id id

/-- A notice about one position is no key notice of another. -/
theorem not_isKeyOf_of_about {p q : Pos} (ne : q ≠ p) {n : Raised} (h : about p n) : ¬ isKeyOf q n := by
  cases n with
  | route => exact id
  | key x e c => exact fun k => ne (k.symm.trans (h.elim id False.elim))
  | all => exact id

theorem not_isRouteOf_of_about {p q : Pos} (ne : q ≠ p) {n : Raised} (h : about p n) : ¬ isRouteOf q n := by
  cases n with
  | route x c a => exact fun k => ne (k.symm.trans (h.elim False.elim id))
  | key => exact id
  | all => exact id

/-- An operation on one position that keeps its permit or withdraws it keeps the gate of the event. -/
theorem GateStage.step {v : View} {b : Blocks} {w w' : Work} {p : Pos} (h : GateStage v b w) (t : Touches p w w')
    (k : PermitKept p w w' ∨ ∃ r, PermitTaken v p r w w') : GateStage v b w' := by
  obtain ⟨l, hl, al⟩ := t.raised
  have walk : w.waitingWalk = true → w'.waitingWalk = true := fun o => k.elim (·.walk o) fun ⟨_, k⟩ => k.walk
  refine ⟨t.waiting.trans h.waiting, fun q => ?_, hl ▸ noAlls_append h.noAlls al, t.examineAll.trans h.examineAll⟩
  by_cases own : q = p
  · subst own
    rcases k with k | ⟨r, k⟩
    · rcases h.keys q with ⟨key, ended⟩ | ⟨on, reason, ended, owed, told⟩
      · exact .inl ⟨k.key.trans key, fun e => ended (k.ended.1 e)⟩
      · obtain ⟨m, hm, am⟩ := k.raised
        exact .inr ⟨on, k.key ▸ reason, k.ended.trans ended, walk owed, hm ▸ told.append am⟩
    · rcases h.keys q with ⟨key, ended⟩ | ⟨on, ⟨r', reason⟩, -, -, -⟩
      · have on : (b.gate.keys.get q).state = .on := by simpa [isOn, key] using k.on
        exact .inr ⟨on, ⟨r, key ▸ k.key⟩, k.ended.trans (or_iff_right ended), k.walk, k.told⟩
      · have off := k.on
        simp [isOn, reason, withdrawnKey] at off
  · rcases h.keys q with ⟨key, ended⟩ | ⟨on, reason, ended, owed, told⟩
    · exact .inl ⟨(t.keys q own).trans key, fun e => ended ((t.ended q own).1 e)⟩
    · exact .inr ⟨on, t.keys q own ▸ reason, (t.ended q own).trans ended, walk owed,
        hl ▸ told.append fun n hn => not_isKeyOf_of_about own (al n hn)⟩

/-- The waiting walk is owed only for a withdrawal, or because `owed` says so. -/
def WalkOwed (b : Blocks) (owed : Prop) (w : Work) : Prop :=
  w.waitingWalk = true → owed ∨ ∃ q, (b.gate.keys.get q).state = .on ∧ (w.gate.keys.get q).state ≠ .on

/-! ### What is left of a position that is not acted on -/

/-- Between `w` and `w'` position `q` was not acted on, and the others can only have come to occupy and claim more. -/
structure Spares (q : Pos) (w w' : Work) : Prop where
  classifier : w'.classifier = w.classifier
  context : w'.routes.contexts.get q = w.routes.contexts.get q
  held : q ∈ w'.routes.held ↔ q ∈ w.routes.held
  claims : w'.image.claims.get q = w.image.claims.get q
  holds : ∀ a, (w'.routes.antennas.get a).holds.get q = (w.routes.antennas.get a).holds.get q
  places : ∀ a, (⟨q, .reserving⟩ : Occupant) ∈ (w'.routes.antennas.get a).occupants ↔
    (⟨q, .reserving⟩ : Occupant) ∈ (w.routes.antennas.get a).occupants
  permit : PermitKept q w w'
  examine : q ∈ w'.examine ↔ q ∈ w.examine
  raised : ∃ l, w'.raised = w.raised ++ l ∧ ∀ n ∈ l, ¬ isRouteOf q n
  crowds : Crowds q w.toBlocks w'.toBlocks

theorem Spares.refl (q : Pos) (w : Work) : Spares q w w :=
  ⟨rfl, rfl, Iff.rfl, rfl, fun _ => rfl, fun _ => Iff.rfl, PermitKept.refl q w, Iff.rfl, ⟨[], by simp⟩, Crowds.refl q _⟩

theorem Spares.trans {q : Pos} {w w' w'' : Work} (h : Spares q w w') (k : Spares q w' w'') : Spares q w w'' := by
  obtain ⟨l, hl, al⟩ := h.raised
  obtain ⟨m, hm, am⟩ := k.raised
  exact ⟨k.classifier.trans h.classifier, k.context.trans h.context, k.held.trans h.held, k.claims.trans h.claims,
    fun a => (k.holds a).trans (h.holds a), fun a => (k.places a).trans (h.places a), h.permit.trans k.permit,
    k.examine.trans h.examine,
    ⟨l ++ m, by rw [hm, hl, List.append_assoc], fun n hn => (List.mem_append.1 hn).elim (al n) (am n)⟩,
    h.crowds.trans k.crowds⟩

/-- An operation on another position spares `q` when it only crowds it. -/
theorem Touches.spares {p q : Pos} {w w' : Work} (t : Touches p w w') (ne : q ≠ p) (c : Crowds q w.toBlocks w'.toBlocks)
    (walk : w.waitingWalk = true → w'.waitingWalk = true) : Spares q w w' := by
  obtain ⟨l, hl, al⟩ := t.raised
  refine ⟨t.classifier, t.contexts q ne, t.held q ne, t.claims q ne, fun a => t.holds a q ne, fun a => ?_,
    ⟨t.keys q ne, t.ended q ne, walk, l, hl, fun n hn => not_isKeyOf_of_about ne (al n hn)⟩, t.examine q ne,
    ⟨l, hl, fun n hn => not_isRouteOf_of_about ne (al n hn)⟩, c⟩
  have mem (m : List Occupant) : (⟨q, .reserving⟩ : Occupant) ∈ m ↔ ⟨q, .reserving⟩ ∈ m.filter fun o => decide (o.pos ≠ p) := by
    simp [ne]
  rw [mem, t.occupants, ← mem]

/-! ### One entry of a held walk (R55) -/

/-- Position `q` is ready for its entry of a held walk: its slot holds the HELD request `r`, it has no transition, and no reserved
claims where it may start one (R52, R93). -/
structure HeldReady (v : View) (w : Work) (q : Pos) (r : PendingRequest) : Prop where
  slot : (w.routes.contexts.get q).slot = some r
  status : r.status = .held
  transition : (w.routes.contexts.get q).transition = none
  reserved : selection v w.toBlocks q r.kind = .held ∨ (w.image.claims.get q).reserved = []

/-- A selection that found no target finds none while the position is spared. -/
theorem Spares.selection {v : View} {q : Pos} {w w' : Work} (s : Spares q w w') {kind : RequestKind}
    (no : ∀ a, selection v w.toBlocks q kind ≠ .target a) :
    selection v w'.toBlocks q kind = selection v w.toBlocks q kind :=
  selection_of_fewer (fun _ => s.crowds.available) (by rw [s.context]) (by rw [s.classifier]) no

theorem Spares.heldReady {v : View} {q : Pos} {r : PendingRequest} {w w' : Work} (s : Spares q w w')
    (h : HeldReady v w q r) : HeldReady v w' q r :=
  ⟨s.context ▸ h.slot, h.status, s.context ▸ h.transition,
    h.reserved.imp (fun held => (s.selection (by simp [held])).trans held) fun none => s.claims ▸ none⟩

/-- The context that an entry of a held walk leaves when its request finds a target (R55, R67). -/
def heldStarted (v : View) (c : Context) (r : PendingRequest) (target : Option Ant) : Context :=
  { c with
    slot := none
    transition := some
      { old := c.antenna, target := target, kind := r.kind, cause := r.cause, phase := .wait, phaseTimer := none
        quietTimer := quietWait v, start := c.state, due := false, broken := [] }
    state := if r.cause = .fault then c.state else .switching
    mark := c.mark || r.cause.forced }

/-- What the held request `r` of position `q` comes to in a held walk from `w` to `w'` (R55). -/
inductive EntryResult (v : View) (w w' : Work) (q : Pos) (r : PendingRequest) : Prop
  | stays (held : q ∈ w'.routes.held) (context : w'.routes.contexts.get q = w.routes.contexts.get q)
      (claims : w'.image.claims.get q = w.image.claims.get q)
      (holds : ∀ a, (w'.routes.antennas.get a).holds.get q = (w.routes.antennas.get a).holds.get q)
      (places : ∀ a, (⟨q, .reserving⟩ : Occupant) ∈ (w'.routes.antennas.get a).occupants ↔
        (⟨q, .reserving⟩ : Occupant) ∈ (w.routes.antennas.get a).occupants)
      (permit : PermitKept q w w') (selection : selection v w'.toBlocks q r.kind = .held)
  | starts (target : Option Ant) (held : q ∉ w'.routes.held)
      (context : w'.routes.contexts.get q = heldStarted v (w.routes.contexts.get q) r target)
      (effective : (w'.image.claims.get q).effective = (w.image.claims.get q).effective)
      (reserved : ∀ n ∈ target, (w'.image.claims.get q).reserved = (path v.bank q n).claims)
      (place : ∀ n ∈ target, (⟨q, .reserving⟩ : Occupant) ∈ (w'.routes.antennas.get n).occupants)
      (holds : ∀ a, target = some a ∨ (w.routes.contexts.get q).antenna = some a →
        (w'.routes.antennas.get a).holds.get q = true)
      (taken : isOn w.toBlocks q = true → PermitTaken v q .switching w w')
      (kept : isOn w.toBlocks q = false → PermitKept q w w') (examine : q ∈ w'.examine)
      (told : LastOf (isRouteOf q) (.route q .heldSelected (some (.accepted .started))) w'.raised)
  | leaves (held : q ∉ w'.routes.held)
      (context : w'.routes.contexts.get q = { w.routes.contexts.get q with slot := none })
      (claims : w'.image.claims.get q = w.image.claims.get q)
      (holds : ∀ a, (w'.routes.antennas.get a).holds.get q = (w.routes.antennas.get a).holds.get q)
      (permit : PermitKept q w w') (notHeld : selection v w'.toBlocks q r.kind ≠ .held)
      (noTarget : ∀ a, selection v w'.toBlocks q r.kind ≠ .target a)
      (told : ∃ cause answer, (cause = .heldSelected ∨ cause = .refused) ∧
        LastOf (isRouteOf q) (.route q cause answer) w'.raised)

/-- A result stands while the position is spared afterwards: a selection that found no target finds none where less is
available. -/
theorem EntryResult.spares {v : View} {w w' w'' : Work} {q : Pos} {r : PendingRequest} (h : EntryResult v w w' q r)
    (s : Spares q w' w'') : EntryResult v w w'' q r := by
  obtain ⟨l, hl, al⟩ := s.raised
  have select (no : ∀ a, selection v w'.toBlocks q r.kind ≠ .target a) :
      selection v w''.toBlocks q r.kind = selection v w'.toBlocks q r.kind :=
    s.selection no
  cases h with
  | stays held context claims holds places permit selection =>
    exact .stays (s.held.2 held) (s.context.trans context) (s.claims.trans claims) (fun a => (s.holds a).trans (holds a))
      (fun a => (s.places a).trans (places a)) (permit.trans s.permit) ((select (by simp [selection])).trans selection)
  | starts target held context effective reserved place holds taken kept examine told =>
    exact .starts target (fun h => held (s.held.1 h)) (s.context.trans context) (by rw [s.claims, effective])
      (fun n hn => by rw [s.claims, reserved n hn]) (fun n hn => (s.places n).2 (place n hn))
      (fun a ha => (s.holds a).trans (holds a ha)) (fun on => (taken on).trans_kept s.permit)
      (fun off => (kept off).trans s.permit) (s.examine.2 examine) (hl ▸ told.append al)
  | leaves held context claims holds permit notHeld noTarget told =>
    obtain ⟨cause, answer, hc, told⟩ := told
    exact .leaves (fun h => held (s.held.1 h)) (s.context.trans context) (s.claims.trans claims)
      (fun a => (s.holds a).trans (holds a)) (permit.trans s.permit) (select noTarget ▸ notHeld) (select noTarget ▸ noTarget)
      ⟨cause, answer, hc, hl ▸ told.append al⟩

/-- A result stands when the position was spared before. -/
theorem Spares.entryResult {v : View} {w w' w'' : Work} {q : Pos} {r : PendingRequest} (s : Spares q w w')
    (h : EntryResult v w' w'' q r) : EntryResult v w w'' q r := by
  cases h with
  | stays held context claims holds places permit selection =>
    exact .stays held (context.trans s.context) (claims.trans s.claims) (fun a => (holds a).trans (s.holds a))
      (fun a => (places a).trans (s.places a)) (s.permit.trans permit) selection
  | starts target held context effective reserved place holds taken kept examine told =>
    exact .starts target held (s.context ▸ context) (effective.trans (by rw [s.claims])) reserved place
      (fun a ha => holds a (s.context ▸ ha)) (fun on => s.permit.trans_taken (taken (s.permit.isOn.trans on)))
      (fun off => s.permit.trans (kept (s.permit.isOn.trans off))) examine told
  | leaves held context claims holds permit notHeld noTarget told =>
    exact .leaves held (s.context ▸ context) (claims.trans s.claims) (fun a => (holds a).trans (s.holds a))
      (s.permit.trans permit) notHeld noTarget told

end Sys2Proof.Proofs.Acting

/-!
SUPPORT. The held walk entry by entry (R54, R55): each entry comes to its `EntryResult` and spares every other position.
-/
namespace Sys2Proof.Proofs.Acting
open Sys2Proof Sys2Proof.Machine Sys2Proof.Proofs.Delivery Sys2Proof.Proofs.Selecting

/-! ### One entry -/

theorem heldEntry_of_held {v : View} {w : Work} {q : Pos} {r : PendingRequest} (h : HeldReady v w q r)
    (sel : selection v w.toBlocks q r.kind = .held) : heldEntry v w q = w := by
  have slot : (w.context q).slot = some r := h.slot
  unfold heldEntry
  simp only [slot, h.status, sel]

theorem heldEntry_of_target {v : View} {w : Work} {q : Pos} {r : PendingRequest} (h : HeldReady v w q r) {a : Option Ant}
    (sel : selection v w.toBlocks q r.kind = .target a) : heldEntry v w q =
    (startTransition v q r.kind r.cause a (w.context q).state (leaveHeld q w)).raise
      (.route q .heldSelected (some (.accepted .started))) := by
  have slot : (w.context q).slot = some r := h.slot
  unfold heldEntry
  simp only [slot, h.status, sel]

theorem heldEntry_of_neither {v : View} {w : Work} {q : Pos} {r : PendingRequest} (h : HeldReady v w q r)
    (notHeld : selection v w.toBlocks q r.kind ≠ .held) (noTarget : ∀ a, selection v w.toBlocks q r.kind ≠ .target a) :
    ∃ cause answer, (cause = .heldSelected ∨ cause = .refused) ∧
      heldEntry v w q = (leaveHeld q w).raise (.route q cause answer) := by
  have slot : (w.context q).slot = some r := h.slot
  unfold heldEntry
  cases sel : selection v w.toBlocks q r.kind with
  | held => exact absurd sel notHeld
  | target a => exact absurd sel (noTarget a)
  | current => exact ⟨.heldSelected, some (.accepted .unchanged), .inl rfl, by simp only [slot, h.status, sel]⟩
  | refused e => exact ⟨.refused, some (.refused e), .inr rfl, by simp only [slot, h.status, sel]⟩

theorem leaveHeld_context (q : Pos) (w : Work) :
    (leaveHeld q w).routes.contexts.get q = { w.routes.contexts.get q with slot := none } :=
  put_get_same _ _ _

theorem leaveHeld_notMem (q : Pos) (w : Work) : q ∉ (leaveHeld q w).routes.held := by
  simp [leaveHeld, Work.setHeld]

theorem leaveHeld_kept (q : Pos) (w : Work) : PermitKept q w (leaveHeld q w) := permitKept_of_eq rfl rfl id rfl

/-- An entry of a held walk comes to its result (R55). -/
theorem heldEntry_result {v : View} {w : Work} {q : Pos} {r : PendingRequest} (h : HeldReady v w q r)
    (held : q ∈ w.routes.held) : EntryResult v w (heldEntry v w q) q r := by
  cases sel : selection v w.toBlocks q r.kind with
  | held =>
    rw [heldEntry_of_held h sel]
    exact .stays held rfl rfl (fun _ => rfl) (fun _ => Iff.rfl) (PermitKept.refl q w) sel
  | target a =>
    rw [heldEntry_of_target h sel]
    have off (off : isOn w.toBlocks q = false) := (startTransition_kept (v := v) (kind := r.kind) (cause := r.cause)
      (target := a) (start := (w.context q).state) (w := leaveHeld q w) off).1
    have told := permitKept_raise (p := q) (n := .route q .heldSelected (some (.accepted .started))) id
    have context : (leaveHeld q w).context q = { w.context q with slot := none } := leaveHeld_context q w
    refine .starts a ?_ ?_ ?_ ?_ ?_ ?_ (fun on => ?_) (fun o => ?_) ?_ (lastOf_concat _ _ _)
    · rw [Work.raise_routes, (startTransition_frame ..).2.2.1]
      exact leaveHeld_notMem q w
    · rw [Work.raise_routes, startTransition_contexts, put_get_same, leaveHeld_context]
      rfl
    · exact ((touches_leaveHeld q w).trans (touches_startTransition ..)).effective
    · rintro n rfl
      rw [Work.raise_image, startTransition_reserved]
      rfl
    · rintro n rfl
      rw [Work.raise_routes, startTransition_occupants, reservedAtEnd, if_pos rfl]
      exact List.mem_append_right _ List.mem_cons_self
    · intro n hn
      rw [Work.raise_routes, startTransition_holds, context]
      rcases hn with hn | hn
      · simp [hn]
      · simp [Work.context, hn]
    · exact ((leaveHeld_kept q w).trans_taken (startTransition_taken on)).trans_kept (told _)
    · exact ((leaveHeld_kept q w).trans (off o)).trans (told _)
    · rw [Work.raise_examine, startTransition_examine]
      exact List.mem_cons_self
  | current | refused e =>
    have notHeld : selection v w.toBlocks q r.kind ≠ .held := by simp [sel]
    have noTarget : ∀ a, selection v w.toBlocks q r.kind ≠ .target a := by simp [sel]
    obtain ⟨cause, answer, hc, e⟩ := heldEntry_of_neither h notHeld noTarget
    have same : selection v (leaveHeld q w).toBlocks q r.kind = selection v w.toBlocks q r.kind :=
      (touches_leaveHeld q w).selection v r.kind (by rw [Work.context, leaveHeld_context]; rfl)
    rw [e]
    exact .leaves (leaveHeld_notMem q w) (leaveHeld_context q w) rfl (fun _ => rfl)
      ((leaveHeld_kept q w).trans (permitKept_raise id _)) (same ▸ notHeld) (same ▸ noTarget)
      ⟨cause, answer, hc, lastOf_concat _ _ _⟩

/-- An entry of a held walk keeps the permit, with no walk owed for it, or withdraws it. -/
theorem heldEntry_permit {v : View} {w : Work} {q : Pos} {r : PendingRequest} (h : HeldReady v w q r) :
    (PermitKept q w (heldEntry v w q) ∧ (heldEntry v w q).waitingWalk = w.waitingWalk) ∨
      PermitTaken v q .switching w (heldEntry v w q) := by
  cases sel : selection v w.toBlocks q r.kind with
  | held =>
    rw [heldEntry_of_held h sel]
    exact .inl ⟨PermitKept.refl q w, rfl⟩
  | target a =>
    rw [heldEntry_of_target h sel]
    cases on : isOn w.toBlocks q with
    | true =>
      exact .inr (((leaveHeld_kept q w).trans_taken (startTransition_taken on)).trans_kept (permitKept_raise id _))
    | false =>
      have kept := startTransition_kept (v := v) (kind := r.kind) (cause := r.cause) (target := a)
        (start := (w.context q).state) (w := leaveHeld q w) on
      exact .inl ⟨((leaveHeld_kept q w).trans kept.1).trans (permitKept_raise id _), kept.2⟩
  | current | refused e =>
    obtain ⟨cause, answer, -, e⟩ := heldEntry_of_neither (v := v) h (by simp [sel]) (by simp [sel])
    rw [e]
    exact .inl ⟨(leaveHeld_kept q w).trans (permitKept_raise id _), rfl⟩

theorem leaveHeld_crowds (q x : Pos) (w : Work) : Crowds x w.toBlocks (leaveHeld q w).toBlocks :=
  ⟨fun _ _ _ h => h, fun _ _ _ h => h, fun _ h => h⟩

/-- An entry of a held walk crowds every position. -/
theorem heldEntry_crowds {v : View} {w : Work} {q : Pos} {r : PendingRequest} (h : HeldReady v w q r) (x : Pos) :
    Crowds x w.toBlocks (heldEntry v w q).toBlocks := by
  cases sel : selection v w.toBlocks q r.kind with
  | held =>
    rw [heldEntry_of_held h sel]
    exact Crowds.refl x _
  | target a =>
    rw [heldEntry_of_target h sel]
    exact (leaveHeld_crowds q x w).trans (startTransition_crowds (w := leaveHeld q w) (h.reserved.resolve_left (by simp [sel])) x)
  | current | refused e =>
    obtain ⟨cause, answer, -, e⟩ := heldEntry_of_neither (v := v) h (by simp [sel]) (by simp [sel])
    rw [e]
    exact leaveHeld_crowds q x w

/-- An entry of a held walk spares every other position. -/
theorem heldEntry_spares {v : View} {w : Work} {q x : Pos} {r : PendingRequest} (h : HeldReady v w q r) (ne : x ≠ q) :
    Spares x w (heldEntry v w q) := by
  refine (touches_heldEntry v w q).spares ne (heldEntry_crowds h x) fun owed => ?_
  rcases heldEntry_permit (v := v) h with ⟨kept, -⟩ | taken
  · exact kept.walk owed
  · exact taken.walk

/-- An entry of a held walk reserves for its position alone, at the end of the places of an antenna (R39). -/
theorem heldEntry_occupants {v : View} {w : Work} {q : Pos} {r : PendingRequest} (h : HeldReady v w q r) (a : Ant) :
    ∃ new : List Occupant, ((heldEntry v w q).routes.antennas.get a).occupants =
        (w.routes.antennas.get a).occupants ++ new ∧ (∀ o ∈ new, o.role = .reserving) ∧
      (new.map Occupant.pos).Sublist [q] := by
  cases sel : selection v w.toBlocks q r.kind with
  | held =>
    rw [heldEntry_of_held h sel]
    exact ⟨[], by simp⟩
  | target n =>
    rw [heldEntry_of_target h sel, Work.raise_routes, startTransition_occupants]
    unfold reservedAtEnd
    split
    · exact ⟨[⟨q, .reserving⟩], rfl, by simp, by simp⟩
    · exact ⟨[], (List.append_nil _).symm, by simp⟩
  | current | refused e =>
    obtain ⟨cause, answer, -, e⟩ := heldEntry_of_neither (v := v) h (by simp [sel]) (by simp [sel])
    rw [e]
    exact ⟨[], (List.append_nil _).symm, by simp⟩

/-- An entry of a held walk takes at most its own position out of the held list. -/
theorem heldEntry_held (v : View) (w : Work) (q : Pos) : (heldEntry v w q).routes.held = w.routes.held ∨
    (heldEntry v w q).routes.held = w.routes.held.filter (· ≠ q) := by
  unfold heldEntry
  split
  · exact .inl rfl
  · split
    · exact .inl rfl
    · split
      · exact .inl rfl
      · exact .inr (by rw [Work.raise_routes, (startTransition_frame ..).2.2.1]; rfl)
      · exact .inr rfl
      · exact .inr rfl

/-! ### The whole walk -/

/-- Every position of `l` stands in the held list, ready for its entry. -/
def AllReady (v : View) (w : Work) (l : List Pos) : Prop := ∀ q ∈ l, q ∈ w.routes.held ∧ ∃ r, HeldReady v w q r

theorem AllReady.tail {v : View} {w : Work} {p : Pos} {l : List Pos} (h : AllReady v w (p :: l)) (n : (p :: l).Nodup) :
    AllReady v (heldEntry v w p) l := by
  obtain ⟨-, r, ready⟩ := h p List.mem_cons_self
  intro q hq
  have ne : q ≠ p := fun e => (List.nodup_cons.1 n).1 (e ▸ hq)
  obtain ⟨held, r', ready'⟩ := h q (List.mem_cons_of_mem _ hq)
  have spares := heldEntry_spares (v := v) ready ne
  exact ⟨spares.held.2 held, r', spares.heldReady ready'⟩

/-- A held walk spares the positions it does not come to. -/
theorem heldEntries_spare {v : View} {l : List Pos} {w : Work} (n : l.Nodup) (h : AllReady v w l) {q : Pos} (hq : q ∉ l) :
    Spares q w (l.foldl (heldEntry v) w) := by
  induction l generalizing w with
  | nil => exact Spares.refl q w
  | cons p l ih =>
    obtain ⟨-, r, ready⟩ := h p List.mem_cons_self
    rw [List.mem_cons, not_or] at hq
    exact (heldEntry_spares ready hq.1).trans (ih (List.nodup_cons.1 n).2 (h.tail n) hq.2)

/-- Every entry of a held walk comes to its result, which stands at the end of the walk (R54, R55). -/
theorem heldEntries_result {v : View} {l : List Pos} {w : Work} (n : l.Nodup) (h : AllReady v w l) {q : Pos} (hq : q ∈ l)
    {r : PendingRequest} (slot : (w.routes.contexts.get q).slot = some r) :
    EntryResult v w (l.foldl (heldEntry v) w) q r := by
  induction l generalizing w with
  | nil => exact absurd hq List.not_mem_nil
  | cons p l ih =>
    obtain ⟨notMem, nodup⟩ := List.nodup_cons.1 n
    obtain ⟨held, rp, ready⟩ := h p List.mem_cons_self
    rcases List.mem_cons.1 hq with rfl | hq
    · obtain rfl : rp = r := by simpa [ready.slot] using slot
      exact (heldEntry_result ready held).spares (heldEntries_spare nodup (h.tail n) notMem)
    · have spares := heldEntry_spares (v := v) ready fun e : q = p => notMem (e ▸ hq)
      exact spares.entryResult (ih nodup (h.tail n) hq (spares.context ▸ slot))

/-- A held walk reserves at the end of the places of an antenna, in the order of its entries (R39, R54). -/
theorem heldEntries_occupants {v : View} {l : List Pos} {w : Work} (n : l.Nodup) (h : AllReady v w l) (a : Ant) :
    ∃ new : List Occupant, ((l.foldl (heldEntry v) w).routes.antennas.get a).occupants =
        (w.routes.antennas.get a).occupants ++ new ∧ (∀ o ∈ new, o.role = .reserving) ∧
      (new.map Occupant.pos).Sublist l := by
  induction l generalizing w with
  | nil => exact ⟨[], by simp⟩
  | cons p l ih =>
    obtain ⟨-, r, ready⟩ := h p List.mem_cons_self
    obtain ⟨new, e, role, sub⟩ := heldEntry_occupants (v := v) ready a
    obtain ⟨new', e', role', sub'⟩ := ih (List.nodup_cons.1 n).2 (h.tail n)
    refine ⟨new ++ new', ?_, fun o ho => (List.mem_append.1 ho).elim (role o) (role' o), ?_⟩
    · rw [List.foldl_cons, e', e, List.append_assoc]
    · rw [List.map_append]
      exact sub.append sub'

/-- A held walk takes entries out of the held list, and changes neither the order nor the place of the others. -/
theorem heldEntries_held (v : View) (l : List Pos) (w : Work) :
    ∃ f : Pos → Bool, (l.foldl (heldEntry v) w).routes.held = w.routes.held.filter f := by
  induction l generalizing w with
  | nil => exact ⟨fun _ => true, (List.filter_eq_self.mpr fun _ _ => rfl).symm⟩
  | cons p l ih =>
    obtain ⟨f, hf⟩ := ih (heldEntry v w p)
    rcases heldEntry_held v w p with e | e
    · exact ⟨f, by rw [List.foldl_cons, hf, e]⟩
    · exact ⟨fun q => f q && decide (q ≠ p), by rw [List.foldl_cons, hf, e, List.filter_filter]⟩

/-- A withdrawal, or an operation with no walk of its own, owes the waiting walk only for a withdrawal. -/
theorem WalkOwed.step {v : View} {b : Blocks} {owed : Prop} {w w' : Work} {p : Pos} (h : WalkOwed b owed w)
    (g : GateStage v b w) (t : Touches p w w')
    (k : (PermitKept p w w' ∧ w'.waitingWalk = w.waitingWalk) ∨ ∃ r, PermitTaken v p r w w') : WalkOwed b owed w' := by
  intro walk
  rcases k with ⟨kept, same⟩ | ⟨r, taken⟩
  · refine (h (same ▸ walk)).imp_right fun ⟨q, on, off⟩ => ⟨q, on, ?_⟩
    by_cases own : q = p
    · rwa [own, kept.key, ← own]
    · rwa [t.keys q own]
  · refine .inr ⟨p, ?_, ?_⟩
    · rcases g.keys p with ⟨key, -⟩ | ⟨on, -⟩
      · simpa [isOn, key] using taken.on
      · exact on
    · simp [taken.key, withdrawnKey]

/-- A held walk keeps the gate of the event, and owes the waiting walk only for its withdrawals (R139, R144). -/
theorem heldEntries_gate {v : View} {b : Blocks} {owed : Prop} {l : List Pos} {w : Work} (n : l.Nodup) (h : AllReady v w l)
    (g : GateStage v b w) (o : WalkOwed b owed w) :
    GateStage v b (l.foldl (heldEntry v) w) ∧ WalkOwed b owed (l.foldl (heldEntry v) w) := by
  induction l generalizing w with
  | nil => exact ⟨g, o⟩
  | cons p l ih =>
    obtain ⟨-, r, ready⟩ := h p List.mem_cons_self
    have permit := heldEntry_permit (v := v) ready
    have touches := touches_heldEntry v w p
    exact ih (List.nodup_cons.1 n).2 (h.tail n) (g.step touches (permit.imp And.left fun t => ⟨_, t⟩))
      (o.step g touches (permit.imp_right fun t => ⟨_, t⟩))

end Sys2Proof.Proofs.Acting

/-!
SUPPORT. The examinations and the waiting walk at the close of an event, in the words of Safety.lean (R71, R130, R138).
-/
namespace Sys2Proof.Proofs.Closing
open Sys2Proof Sys2Proof.Machine Sys2Proof.Proofs.Delivery Sys2Proof.Proofs.Acting

/-! ### The quiet condition (R70) -/

/-- The quiet condition reads the key records, the antenna records and the view. -/
theorem quiet_congr {v : View} {w w' : Blocks} (keys : w'.gate.keys = w.gate.keys)
    (antennas : w'.routes.antennas = w.routes.antennas) (p : Pos) (t : Transition) : quiet v w' p t = quiet v w p t := by
  have live : ∀ q, Machine.live w' q = Machine.live w q := fun q => by simp [Machine.live, keys]
  have holders : ∀ a, holdersQuiet w' a = holdersQuiet w a := fun a => by cases a <;> simp [holdersQuiet, live, antennas]
  simp only [quiet, live, holders]

theorem holdersQuiet_iff (w : Blocks) (a : Option Ant) : holdersQuiet w a = true ↔
    ∀ n ∈ a, ∀ q ∈ (w.routes.antennas.get n).holders, (w.gate.keys.get q).permit = false ∧ (w.gate.keys.get q).tail = none := by
  cases a <;> simp [holdersQuiet, live]

/-- The model's quiet condition is the one of R70. -/
theorem quiet_iff (x : State) (p : Pos) (tr : Transition) : quiet x.view x.blocks p tr = true ↔ quietCondition x p tr := by
  simp only [quiet, Bool.and_eq_true, holdersQuiet_iff, Bool.not_eq_true', State.view]
  constructor
  · rintro ⟨⟨⟨⟨still, old⟩, target⟩, good⟩, idle⟩
    exact ⟨by simpa [live] using still, old, target, of_decide_eq_true good, idle⟩
  · rintro ⟨still, old, target, good, idle⟩
    exact ⟨⟨⟨⟨by simpa [live] using still, old⟩, target⟩, decide_eq_true good⟩, idle⟩

/-! ### The examinations (R71, R72) -/

/-- The context of position `q` once the event has examined it. -/
def examinedContext (v : View) (w : Work) (q : Pos) : Context :=
  match (w.context q).transition with
  | none => w.context q
  | some t =>
    if t.phase = .wait ∧ toExamine w q t ∧ quiet v w.toBlocks q t then
      { w.context q with transition := some { t with due := true } }
    else w.context q

theorem examineOne_own (v : View) (w : Work) (p : Pos) :
    (examineOne v w p).routes.contexts.get p = examinedContext v w p := by
  unfold examineOne examinedContext
  cases h : (w.context p).transition with
  | none => rfl
  | some t =>
    dsimp only
    split
    · exact put_get_same _ _ _
    · rfl

theorem examineOne_other (v : View) (w : Work) {p q : Pos} (h : q ≠ p) :
    (examineOne v w p).routes.contexts.get q = w.routes.contexts.get q := by
  unfold examineOne
  split
  · rfl
  · split
    · exact put_get_other _ _ h
    · rfl

/-- An examination of another position changes nothing of what the examination of `q` reads. -/
theorem examinedContext_examineOne (v : View) (w : Work) {p q : Pos} (h : q ≠ p) :
    examinedContext v (examineOne v w p) q = examinedContext v w q := by
  have frame := examineOne_frame v w p
  obtain ⟨-, -, antennas, -, -, gate, -, -, -, examineAll, examine, ended, -, -⟩ := frame
  have context : (examineOne v w p).context q = w.context q := examineOne_other v w h
  have owed (t : Transition) : toExamine (examineOne v w p) q t = toExamine w q t := by
    simp only [toExamine, isHolder, examineAll, examine, ended, antennas]
  have still (t : Transition) : quiet v (examineOne v w p).toBlocks q t = quiet v w.toBlocks q t :=
    quiet_congr (by rw [gate]) antennas q t
  simp only [examinedContext, context, owed, still]

theorem examineEach_contexts (v : View) (l : List Pos) (w : Work) (n : l.Nodup) (q : Pos) :
    (l.foldl (examineOne v) w).routes.contexts.get q =
      if q ∈ l then examinedContext v w q else w.routes.contexts.get q := by
  induction l generalizing w with
  | nil => rfl
  | cons p l ih =>
    obtain ⟨notMem, nodup⟩ := List.nodup_cons.1 n
    rw [List.foldl_cons, ih _ nodup]
    by_cases own : q = p
    · subst own
      simp [notMem, examineOne_own]
    · simp [own, examinedContext_examineOne v w own, examineOne_other v w own]

theorem examineOwed_contexts (v : View) (w : Work) (q : Pos) :
    (examineOwed v w).routes.contexts.get q = examinedContext v w q := by
  unfold examineOwed
  dsimp only
  rw [examineEach_contexts v positions w (List.nodup_finRange 6), if_pos (List.mem_finRange q)]

/-! ### The waiting walk (R138) -/

theorem walkEntry_raised (v : View) (w : Work) (p : Pos) :
    ∃ l, (walkEntry v w p).raised = w.raised ++ l ∧ ∀ n ∈ l, isKeyOf p n := by
  unfold walkEntry
  split
  · split
    · exact ⟨[.key p .granted none], by simp [Work.raise], fun n hn => by rw [List.mem_singleton.1 hn]; exact rfl⟩
    · split
      · exact ⟨[], by simp [Work.setKey], by simp⟩
      · exact ⟨[.key p .barred none], by simp [Work.raise], fun n hn => by rw [List.mem_singleton.1 hn]; exact rfl⟩
  all_goals exact ⟨[], by simp, by simp⟩

/-- A walk raises KEY NOTICEs of its entries alone. -/
theorem walkEntries_raised (v : View) (l : List Pos) (w : Work) :
    ∃ m, (l.foldl (walkEntry v) w).raised = w.raised ++ m ∧ ∀ n ∈ m, ∃ p ∈ l, isKeyOf p n := by
  induction l generalizing w with
  | nil => exact ⟨[], by simp, by simp⟩
  | cons p l ih =>
    obtain ⟨m, hm, am⟩ := walkEntry_raised v w p
    obtain ⟨m', hm', am'⟩ := ih (walkEntry v w p)
    refine ⟨m ++ m', by rw [List.foldl_cons, hm', hm, List.append_assoc], fun n hn => ?_⟩
    rcases List.mem_append.1 hn with hn | hn
    · exact ⟨p, List.mem_cons_self, am n hn⟩
    · obtain ⟨x, hx, k⟩ := am' n hn
      exact ⟨x, List.mem_cons_of_mem _ hx, k⟩

theorem walkEntry_mem_waiting (v : View) (w : Work) {p q : Pos} (h : q ≠ p) :
    q ∈ (walkEntry v w p).gate.waiting ↔ q ∈ w.gate.waiting := by
  rcases walkEntry_waiting v w p with e | e <;> simp [e, h]

theorem walkEntries_mem_waiting (v : View) (l : List Pos) (w : Work) {q : Pos} (h : q ∉ l) :
    q ∈ (l.foldl (walkEntry v) w).gate.waiting ↔ q ∈ w.gate.waiting := by
  induction l generalizing w with
  | nil => exact Iff.rfl
  | cons p l ih =>
    rw [List.mem_cons, not_or] at h
    rw [List.foldl_cons, ih _ h.2, walkEntry_mem_waiting v w h.1]

/-- A key record that is not WAITING is passed over by a walk. -/
theorem walkEntries_key_of_not_waiting (v : View) (l : List Pos) (w : Work) {q : Pos}
    (h : ∀ r, (w.gate.keys.get q).state ≠ .waiting r) :
    (l.foldl (walkEntry v) w).gate.keys.get q = w.gate.keys.get q := by
  induction l generalizing w with
  | nil => rfl
  | cons p l ih =>
    have same : (walkEntry v w p).gate.keys.get q = w.gate.keys.get q := by
      by_cases own : q = p
      · subst own
        rw [walkEntry_of_not_waiting v w q h]
      · exact walkEntry_key_other v w own
    rw [List.foldl_cons, ih _ (same ▸ h), same]

/-- A walk says nothing of a position that is not WAITING. -/
theorem walkEntries_raised_of_not_waiting (v : View) (l : List Pos) (w : Work) {q : Pos}
    (h : ∀ r, (w.gate.keys.get q).state ≠ .waiting r) :
    ∃ m, (l.foldl (walkEntry v) w).raised = w.raised ++ m ∧ ∀ n ∈ m, ¬ isKeyOf q n := by
  induction l generalizing w with
  | nil => exact ⟨[], by simp, by simp⟩
  | cons p l ih =>
    by_cases own : q = p
    · subst own
      rw [List.foldl_cons, walkEntry_of_not_waiting v w q h]
      exact ih w h
    · obtain ⟨m, hm, am⟩ := walkEntry_raised v w p
      obtain ⟨m', hm', am'⟩ := ih (walkEntry v w p) (walkEntry_key_other v w own ▸ h)
      refine ⟨m ++ m', by rw [List.foldl_cons, hm', hm, List.append_assoc], fun n hn => ?_⟩
      rcases List.mem_append.1 hn with hn | hn
      · exact not_isKeyOf_of_about own (.inl (am n hn))
      · exact am' n hn

/-- A waiting walk of the list `s.waiting` from `w`, where the waiting positions have the key records they have in `s`: the event
that leaves its blocks has walked (R138), and the last KEY NOTICE of each entry is GRANTED or BARRED as its record says (R152). -/
structure WalkBegins (s : State) (w : Work) : Prop where
  waiting : w.gate.waiting = s.waiting
  keys : ∀ q ∈ s.waiting, w.gate.keys.get q = s.key q
  states : ∀ q ∈ s.waiting, ∃ r, (s.key q).state = .waiting r
  nodup : s.waiting.Nodup

/-- The entry of `q` in a walk: what the grant test finds there is what it finds over the blocks at its turn, and the walk leaves
`q` as its own turn does. -/
theorem walk_at_turn {s t : State} {v : View} {w : Work} (h : WalkBegins s w)
    (blocks : t.blocks = (s.waiting.foldl (walkEntry v) w).toBlocks) {q : Pos} (hq : q ∈ s.waiting) :
    ∃ w' : Work, (∃ r, (w'.key q).state = .waiting r) ∧ w'.key q = s.key q ∧ q ∈ w'.gate.waiting ∧
      grantTest v (blocksAtTurn s t q) q = grantTest v w'.toBlocks q ∧
      t.key q = (walkEntry v w' q).gate.keys.get q ∧ (q ∈ t.waiting ↔ q ∈ (walkEntry v w' q).gate.waiting) ∧
      ∃ m, (s.waiting.foldl (walkEntry v) w).raised = (walkEntry v w' q).raised ++ m ∧ ∀ n ∈ m, ¬ isKeyOf q n := by
  obtain ⟨before, after, split⟩ := List.append_of_mem hq
  have nodup := split ▸ h.nodup
  have notAfter : q ∉ after := (List.nodup_cons.1 (List.nodup_append.1 nodup).2.1).1
  have notBefore : q ∉ before := fun m => (List.nodup_append.1 nodup).2.2 q m q List.mem_cons_self rfl
  have unmet (r : Pos) (hr : r ∈ q :: after) : (before.foldl (walkEntry v) w).gate.keys.get r = s.key r := by
    rw [walkEntries_key_before_turn v before after w nodup hr]
    exact h.keys r (split ▸ List.mem_append_right _ hr)
  have met (r : Pos) (hr : r ∉ q :: after) : t.key r = (before.foldl (walkEntry v) w).gate.keys.get r := by
    unfold State.key
    rw [blocks, split, List.foldl_append, walkEntries_key_of_notMem v _ _ hr]
  have rest : s.waiting.dropWhile (fun x => decide (x ≠ q)) = q :: after := by
    rw [split, List.dropWhile_append_of_pos fun x hx => by simpa using fun e : x = q => notBefore (e ▸ hx)]
    simp
  have frame := walkEntries_frame v s.waiting w
  have frame' := walkEntries_frame v before w
  refine ⟨before.foldl (walkEntry v) w, ?_, unmet q List.mem_cons_self, ?_, ?_, ?_, ?_, ?_⟩
  · rw [Work.key, unmet q List.mem_cons_self]
    exact h.states q hq
  · rw [walkEntries_mem_waiting v before w notBefore, h.waiting]
    exact hq
  · refine grantTest_congr v _ _ q ?_ ?_ ?_ ?_ ?_
    · exact (blocks ▸ frame.1).trans frame'.1.symm
    · change t.blocks.routes.antennas = _
      rw [blocks, frame.2.2.1, frame'.2.2.1]
    · refine vector_ext fun r => ?_
      simp only [blocksAtTurn, ofFn_get, rest]
      by_cases hr : r ∈ q :: after
      · simp only [List.contains_eq_mem, hr, decide_true, if_true]
        exact (unmet r hr).symm
      · simp only [List.contains_eq_mem, hr, decide_false, Bool.false_eq_true, if_false]
        exact met r hr
    · change (t.blocks.routes.contexts.get q).state = _
      rw [blocks, frame.2.2.1, frame'.2.2.1]
    · change (t.blocks.routes.contexts.get q).antenna = _
      rw [blocks, frame.2.2.1, frame'.2.2.1]
  · unfold State.key
    rw [blocks, split]
    exact walkEntries_key_at_turn v before after w notAfter
  · unfold State.waiting
    rw [blocks, split, List.foldl_append, List.foldl_cons, walkEntries_mem_waiting v after _ notAfter]
  · rw [split, List.foldl_append, List.foldl_cons]
    obtain ⟨m, hm, am⟩ := walkEntries_raised v after (walkEntry v (before.foldl (walkEntry v) w) q)
    refine ⟨m, hm, fun n hn k => ?_⟩
    obtain ⟨p, hp, k'⟩ := am n hn
    cases n with
    | key x e c =>
      have own : x = q := k
      have other : x = p := k'
      exact notAfter (own ▸ other ▸ hp)
    | route => exact k
    | all => exact k

/-- The transient obstacles are those of Table 7-2 (R134). -/
theorem transient_iff (r : Reason) : r ∈ ([.switching, .supplyLow, .switchHold, .holderLive, .singleSignal, .lockout] : List Reason)
    ↔ r.transient = true := by
  cases r <;> decide

/-- A walk leaves what R138 says. -/
theorem waitingWalked_of_walk {s t : State} {w : Work} (h : WalkBegins s w)
    (blocks : t.blocks = (s.waiting.foldl (walkEntry t.view) w).toBlocks) : waitingWalked s t := by
  refine ⟨?_, fun q hq => ?_⟩
  · obtain ⟨f, hf, -⟩ := walkEntries_waiting t.view s.waiting w
    have kept : t.waiting = s.waiting.filter f := by
      unfold State.waiting at hf ⊢
      rw [blocks, hf, h.waiting]
    rw [kept]
    refine List.filter_congr fun x hx => ?_
    simp [hx]
  · obtain ⟨w', ⟨r, waits⟩, key, member, test, key', member', -⟩ := walk_at_turn h blocks hq
    refine ⟨fun passed => ?_, fun o c found => ⟨fun transient => ?_, fun permanent => ?_⟩⟩
    · have entry := walkEntry_granted t.view w' q waits (test ▸ passed)
      refine ⟨by rw [key', entry]; exact put_get_same _ _ _, fun m => ?_⟩
      rw [member', entry] at m
      simp [leaveWaiting_waiting] at m
    · have entry := walkEntry_kept t.view w' q waits (test ▸ found) ((transient_iff o).1 transient)
      refine ⟨by rw [key', entry, ← key]; exact put_get_same _ _ _, ?_⟩
      rw [member', entry]
      exact member
    · have lasting : o.transient = false := by
        revert permanent
        cases o <;> decide
      have entry := walkEntry_barred t.view w' q waits (test ▸ found) lasting
      refine ⟨by rw [key', entry, ← key]; exact put_get_same _ _ _, fun m => ?_⟩
      rw [member', entry] at m
      simp [leaveWaiting_waiting] at m

/-- The last KEY NOTICE a walk raises for an entry that is ON or BARRED in the end says so (R152). -/
theorem walk_lastKey {s t : State} {w : Work} (h : WalkBegins s w)
    (blocks : t.blocks = (s.waiting.foldl (walkEntry t.view) w).toBlocks) {q : Pos} (hq : q ∈ s.waiting) :
    ((t.key q).state = .on →
      LastOf (isKeyOf q) (.key q .granted none) (s.waiting.foldl (walkEntry t.view) w).raised) ∧
    ∀ r, (t.key q).state = .barred r →
      LastOf (isKeyOf q) (.key q .barred none) (s.waiting.foldl (walkEntry t.view) w).raised := by
  obtain ⟨w', ⟨r, waits⟩, -, -, -, key, -, m, hm, am⟩ := walk_at_turn h blocks hq
  rw [hm]
  cases test : grantTest t.view w'.toBlocks q with
  | none =>
    have entry := walkEntry_granted t.view w' q waits test
    refine ⟨fun _ => ?_, fun r barred => ?_⟩
    · rw [entry]
      exact (lastOf_concat _ _ _).append am
    · rw [key, entry] at barred
      simp [grant_keys] at barred
  | some found =>
    obtain ⟨o, c⟩ := found
    cases transient : o.transient with
    | true =>
      have entry := walkEntry_kept t.view w' q waits test transient
      have stays : (t.key q).state = .waiting o := by
        rw [key, entry]
        exact congrArg KeyRecord.state (put_get_same _ _ _)
      simp [stays]
    | false =>
      have entry := walkEntry_barred t.view w' q waits test transient
      refine ⟨fun on => ?_, fun r barred => ?_⟩
      · rw [key, entry] at on
        simp [bar_keys] at on
      · rw [entry]
        exact (lastOf_concat _ _ _).append am

end Sys2Proof.Proofs.Closing

/-!
SUPPORT. The close of an event from `s` to `t`, once its held walk is over (`Closed`): the examinations, the waiting walk and the
frame of the other positions in the words of Safety.lean.
-/
namespace Sys2Proof.Proofs.Closing
open Sys2Proof Sys2Proof.Machine Sys2Proof.Proofs.Delivery Sys2Proof.Proofs.Acting

/-! ### The notices of an event told to the links -/

/-- Between `s` and `t` the links were told of the raised notices `R`, of which none goes to every link. -/
structure Reports (s t : State) (R : List Raised) : Prop where
  noAlls : NoAlls R
  ports : ∃ ports : Vector Port 6, (∀ q, (ports.get q).notices = (s.port q).notices) ∧
    ∀ q, (t.port q).notices = ((R.foldl (deliverOne t.bank t.blocks) ports).get q).notices

theorem Reports.key {s t : State} {R : List Raised} (h : Reports s t R) {q : Pos} {event : KeyEvent} {conflict : Option Pos}
    (last : LastOf (isKeyOf q) (.key q event conflict) R) (few : (s.port q).notices.length ≤ 4) :
    holdsNotice t q fun n => decide (n = t.keyTold q event conflict) := by
  obtain ⟨ports, same, told⟩ := h.ports
  have held := holds_lastKey (b := t.bank) (w := t.blocks) last h.noAlls ports (by rwa [same])
  rw [holdsNotice, told q, List.any_eq_true]
  exact ⟨_, held, decide_eq_true rfl⟩

theorem Reports.route {s t : State} {R : List Raised} (h : Reports s t R) {q : Pos} {cause : RouteCause}
    {answer : Option Answer} (last : LastOf (isRouteOf q) (.route q cause answer) R)
    (few : (s.port q).notices.length ≤ 4) {f : Notice → Bool} (hf : f (routeNotice t.blocks q cause answer) = true) :
    holdsNotice t q f := by
  obtain ⟨ports, same, told⟩ := h.ports
  have held := holds_lastRoute (b := t.bank) (w := t.blocks) last h.noAlls ports (by rwa [same])
  rw [holdsNotice, told q, List.any_eq_true]
  exact ⟨_, held, hf⟩

/-! ### The close after the held walk -/

/-- An event from `s` has come to `w`, its held walk over, and closes into `t`. -/
structure Closed (s t : State) (w : Work) : Prop where
  view : t.view = s.view
  blocks : t.blocks = (waitingWalkIfOwed s.view (examineOwed s.view w)).toBlocks
  gate : GateStage s.view s.blocks w

/-- The raised notices at the close, with what the event raises after it and that is no KEY NOTICE. -/
def closeRaised (s : State) (w : Work) (after : List Raised) : List Raised :=
  (waitingWalkIfOwed s.view (examineOwed s.view w)).raised ++ after

section
variable {s t : State} {w : Work}

theorem Closed.bank (c : Closed s t w) : t.bank = s.bank := congrArg View.bank c.view

theorem Closed.antennas (c : Closed s t w) : t.blocks.routes.antennas = w.routes.antennas := by
  rw [c.blocks, (waitingWalkIfOwed_frame ..).2.2.1, (examineOwed_frame ..).2.2.1]

theorem Closed.held (c : Closed s t w) : t.held = w.routes.held := by
  rw [State.held, c.blocks, (waitingWalkIfOwed_frame ..).2.2.1, (examineOwed_frame ..).2.2.2.1]

theorem Closed.image (c : Closed s t w) : t.blocks.image = w.image := by
  rw [c.blocks, (waitingWalkIfOwed_frame ..).2.2.2.1, (examineOwed_frame ..).2.2.2.2.1]

theorem Closed.classifier (c : Closed s t w) : t.blocks.classifier = w.classifier := by
  rw [c.blocks, (waitingWalkIfOwed_frame ..).1, (examineOwed_frame ..).1]

theorem Closed.monitor (c : Closed s t w) : t.blocks.monitor = w.monitor := by
  rw [c.blocks, (waitingWalkIfOwed_frame ..).2.1, (examineOwed_frame ..).2.1]

theorem Closed.claims (c : Closed s t w) (q : Pos) : t.claims q = w.image.claims.get q := by rw [State.claims, c.image]

theorem Closed.group (c : Closed s t w) (g : Group) : t.group g = w.image.groups.get g := by rw [State.group, c.image]

theorem Closed.antenna (c : Closed s t w) (a : Ant) : t.antenna a = w.routes.antennas.get a := by
  rw [State.antenna, c.antennas]

theorem examineOwed_gate (v : View) (w : Work) : (examineOwed v w).gate = w.gate :=
  (examineOwed_frame v w).2.2.2.2.2.1

/-- With no walk owed the gate is the one the examinations found. -/
theorem Closed.gate_of_no_walk (c : Closed s t w) (no : w.waitingWalk = false) : t.blocks.gate = w.gate := by
  rw [c.blocks, waitingWalkIfOwed, if_neg (by simp [no])]
  exact examineOwed_gate s.view w

/-- With a walk owed the close is the walk of the waiting list. -/
theorem Closed.blocks_of_walk (c : Closed s t w) (owed : w.waitingWalk = true) :
    t.blocks = (s.waiting.foldl (walkEntry t.view) (examineOwed s.view w)).toBlocks := by
  have owed' : (examineOwed s.view w).waitingWalk = true := by rw [(examineOwed_frame s.view w).2.2.2.2.2.2.2.2.1, owed]
  have list : (examineOwed s.view w).gate.waiting = s.waiting := by rw [examineOwed_gate, c.gate.waiting]
  rw [c.blocks, waitingWalkIfOwed, if_pos owed', c.view, Sys2Proof.Machine.waitingWalk, list]

theorem closeRaised_of_walk (c : Closed s t w) (owed : w.waitingWalk = true) (after : List Raised) :
    closeRaised s w after = (s.waiting.foldl (walkEntry t.view) (examineOwed s.view w)).raised ++ after := by
  have owed' : (examineOwed s.view w).waitingWalk = true := by rw [(examineOwed_frame s.view w).2.2.2.2.2.2.2.2.1, owed]
  have list : (examineOwed s.view w).gate.waiting = s.waiting := by rw [examineOwed_gate, c.gate.waiting]
  rw [closeRaised, waitingWalkIfOwed, if_pos owed', c.view, Sys2Proof.Machine.waitingWalk, list]

theorem closeRaised_of_no_walk (no : w.waitingWalk = false) (after : List Raised) :
    closeRaised s w after = w.raised ++ after := by
  rw [closeRaised, waitingWalkIfOwed, if_neg (by simp [no]), (examineOwed_frame s.view w).2.2.2.2.2.2.1]

/-- A key record that is not WAITING before the walk stands at the close. -/
theorem Closed.key_of_not_waiting (c : Closed s t w) {q : Pos} (h : ∀ r, (w.gate.keys.get q).state ≠ .waiting r) :
    t.key q = w.gate.keys.get q := by
  cases owed : w.waitingWalk with
  | false => rw [State.key, c.gate_of_no_walk owed]
  | true =>
    rw [State.key, c.blocks_of_walk owed, walkEntries_key_of_not_waiting _ _ _ (by rwa [examineOwed_gate]), examineOwed_gate]

theorem Closed.key_of_notMem (c : Closed s t w) {q : Pos} (h : q ∉ s.waiting) : t.key q = w.gate.keys.get q := by
  cases owed : w.waitingWalk with
  | false => rw [State.key, c.gate_of_no_walk owed]
  | true => rw [State.key, c.blocks_of_walk owed, walkEntries_key_of_notMem _ _ _ h, examineOwed_gate]

/-- A position that is not WAITING at the start of the event is not WAITING before the walk. -/
theorem Closed.not_waiting (c : Closed s t w) {q : Pos} (h : ∀ r, (s.key q).state ≠ .waiting r) (r : Reason) :
    (w.gate.keys.get q).state ≠ .waiting r := by
  rcases c.gate.keys q with ⟨key, -⟩ | ⟨-, ⟨r', key⟩, -⟩
  · rw [key]
    exact h r
  · simp [key, withdrawnKey]

/-- A withdrawal of the event is one of its stage before the walk. -/
theorem Closed.withdrawn_iff (c : Closed s t w) {q : Pos} (on : (s.key q).state = .on) :
    t.key q = w.gate.keys.get q ∧ ((t.key q).state ≠ .on ↔ w.gate.keys.get q ≠ s.key q) := by
  have key := c.key_of_not_waiting (c.not_waiting (q := q) (by simp [on]))
  refine ⟨key, ?_⟩
  rw [key]
  rcases c.gate.keys q with ⟨same, -⟩ | ⟨-, ⟨r, taken⟩, -⟩
  · have same : w.gate.keys.get q = s.key q := same
    simp [same, on]
  · have off : (w.gate.keys.get q).state ≠ .on := by simp [taken, withdrawnKey]
    exact ⟨fun _ e => off (e ▸ on), fun _ => off⟩

/-- The key records that the examination reads are those before the walk. -/
theorem Closed.beforeWalk_key (c : Closed s t w) (q : Pos) : (s.beforeWalk t).key q = w.gate.keys.get q := by
  have put : (s.beforeWalk t).key q = match (s.key q).state with
      | .waiting _ => s.key q
      | .up => t.key q
      | .on => t.key q
      | .tail => t.key q
      | .barred _ => t.key q := ofFn_get _ q
  rw [put]
  split
  · rename_i r waits
    rcases c.gate.keys q with ⟨same, -⟩ | ⟨on, -⟩
    · exact same.symm
    · exact absurd (waits.symm.trans on) (by simp)
  all_goals
    rename_i state
    exact c.key_of_not_waiting (c.not_waiting (by simp [state]))

theorem Closed.quietCondition_iff (c : Closed s t w) (p : Pos) (tr : Transition) :
    quietCondition (s.beforeWalk t) p tr ↔ quiet s.view w.toBlocks p tr = true := by
  have view : (s.beforeWalk t).view = s.view := c.view
  rw [← quiet_iff, view, quiet_congr (vector_ext c.beforeWalk_key) c.antennas]

/-! ### The examinations -/

theorem Closed.context (c : Closed s t w) (q : Pos) : t.context q = examinedContext s.view w q := by
  rw [State.context, c.blocks, (waitingWalkIfOwed_frame ..).2.2.1, examineOwed_contexts]

theorem Closed.context_of_none (c : Closed s t w) {q : Pos} (h : (w.routes.contexts.get q).transition = none) :
    t.context q = w.routes.contexts.get q := by
  have none : (w.context q).transition = none := h
  rw [c.context, examinedContext, none]
  rfl

/-- A transition in WAIT that the event started or replaced is due exactly when its quiet condition held (R67, R71, R75). -/
theorem Closed.context_of_examined (c : Closed s t w) {q : Pos} {tr : Transition}
    (h : (w.routes.contexts.get q).transition = some tr) (wait : tr.phase = .wait) (fresh : tr.due = false)
    (examined : q ∈ w.examine) :
    (∃ due, t.context q = { w.routes.contexts.get q with transition := some { tr with due := due } }) ∧
      startExamined s t q := by
  have here : (w.context q).transition = some tr := h
  have owed : toExamine w q tr = true := by simp [toExamine, examined]
  by_cases still : quiet s.view w.toBlocks q tr = true
  · have context : t.context q = { w.routes.contexts.get q with transition := some { tr with due := true } } := by
      rw [c.context, examinedContext, here]
      simp only [wait, owed, still, and_self, if_true]
      rfl
    refine ⟨⟨true, context⟩, fun tr' htr' => ?_⟩
    rw [context] at htr'
    cases htr'
    exact iff_of_true rfl ((c.quietCondition_iff q _).2 still)
  · have context : t.context q = w.routes.contexts.get q := by
      rw [c.context, examinedContext, here]
      exact if_neg fun h => still h.2.2
    refine ⟨⟨false, by rw [context, ← fresh, ← h]⟩, fun tr' htr' => ?_⟩
    rw [context, h] at htr'
    cases htr'
    exact iff_of_false (by simp [fresh]) fun cond => still ((c.quietCondition_iff q _).1 cond)

/-- What an event examines of a position it does not act on are the ends of liveness of its withdrawals (R71, R130). -/
theorem Closed.dueByWithdrawal_iff (c : Closed s t w) {q : Pos} (tr : Transition) (other : q ∉ w.examine) :
    dueByWithdrawal s t q tr ↔
      tr.phase = .wait ∧ toExamine w q tr = true ∧ quiet s.view w.toBlocks q tr = true := by
  have ended (r : Pos) : r ∈ w.ended ↔
      s.bank.timing.tailMs = 0 ∧ (s.key r).state = .on ∧ (t.key r).state ≠ .on := by
    rcases c.gate.keys r with ⟨key, notEnded⟩ | ⟨on, ⟨r', key⟩, ended, -⟩
    · refine iff_of_false notEnded fun ⟨_, on, off⟩ => (c.withdrawn_iff on).2.1 off key
    · have on : (s.key r).state = .on := on
      have off : (t.key r).state ≠ .on := by
        rw [(c.withdrawn_iff on).1, key]
        simp [withdrawnKey]
      exact ended.trans ⟨fun tail => ⟨tail, on, off⟩, fun h => h.1⟩
  have holder (a : Option Ant) (r : Pos) : a.any (isHolder w.toBlocks · r) = true ↔ ∃ n ∈ a, r ∈ (t.antenna n).holders := by
    cases a <;> simp [isHolder, State.antenna, c.antennas]
  rw [dueByWithdrawal, c.quietCondition_iff]
  simp only [toExamine, c.gate.examineAll, List.contains_eq_mem, other, decide_false, Bool.false_or, List.any_eq_true,
    Bool.or_eq_true, decide_eq_true_eq, holder, concerns]
  constructor
  · rintro ⟨wait, tail, ⟨r, on, off, near⟩, still⟩
    exact ⟨wait, ⟨r, (ended r).2 ⟨tail, on, off⟩, near.elim (fun e => .inl (.inl e.symm)) fun h => h.elim (.inl ∘ .inr) .inr⟩,
      still⟩
  · rintro ⟨wait, ⟨r, hr, near⟩, still⟩
    obtain ⟨tail, on, off⟩ := (ended r).1 hr
    exact ⟨wait, tail, ⟨r, on, off, near.elim (fun h => h.elim (fun e => .inl e.symm) (.inr ∘ .inl)) fun h => .inr (.inr h)⟩,
      still⟩

/-- What is left of every position the event does not act on. -/
structure LeftAlone (s : State) (w : Work) (own : Pos → Prop) : Prop where
  positions : ∀ q, ¬ own q → w.image.claims.get q = s.claims q ∧
    (∀ a, (w.routes.antennas.get a).holds.get q = (s.antenna a).holds.get q) ∧ w.gate.keys.get q = s.key q ∧
    w.routes.contexts.get q = s.context q ∧ q ∉ w.examine
  groups : ∀ g, w.image.groups.get g = s.group g ∨ ((s.group g).awaited = true ∧ w.image.groups.get g = ⟨.exclusive, false⟩)

theorem Closed.othersKept (c : Closed s t w) {own : Pos → Prop} (h : LeftAlone s w own) : othersKept s t own := by
  refine ⟨fun q hq => ?_, fun g => c.group g ▸ h.groups g⟩
  obtain ⟨claims, holds, key, context, other⟩ := h.positions q hq
  refine ⟨(c.claims q).trans claims, fun a => by rw [c.antenna, holds a], fun notWaiting => (c.key_of_notMem notWaiting).trans key,
    fun none => ?_, fun tr htr => ?_⟩
  · rw [c.context_of_none (by rw [context]; exact none), context]
  · have here : (w.context q).transition = some tr := by rw [Work.context, context]; exact htr
    have examined := c.context q
    rw [examinedContext, here, Work.context, context] at examined
    rw [c.dueByWithdrawal_iff tr other, examined]
    exact ⟨fun due => if_pos due, fun due => if_neg due⟩

/-! ### The waiting walk -/

theorem Closed.walkBegins (c : Closed s t w) (consistent : gateConsistent s) : WalkBegins s (examineOwed s.view w) := by
  have states (q : Pos) (hq : q ∈ s.waiting) : ∃ r, (s.key q).state = .waiting r := (consistent.1 q).2.1 hq
  refine ⟨by rw [examineOwed_gate, c.gate.waiting], fun q hq => ?_, states, consistent.2.1⟩
  rw [examineOwed_gate]
  rcases c.gate.keys q with ⟨key, -⟩ | ⟨on, -⟩
  · exact key
  · obtain ⟨r, waits⟩ := states q hq
    exact absurd (waits.symm.trans on) (by simp)

theorem noAlls_of_keys {l m : List Raised} (h : NoAlls l) {P : List Pos} (k : ∀ n ∈ m, ∃ p ∈ P, isKeyOf p n) :
    NoAlls (l ++ m) := by
  intro n hn
  rcases List.mem_append.1 hn with hn | hn
  · exact h n hn
  · obtain ⟨p, -, k⟩ := k _ hn
    exact k

theorem Closed.walked (c : Closed s t w) (consistent : gateConsistent s) (owed : w.waitingWalk = true)
    {after : List Raised} (reports : Reports s t (closeRaised s w after)) (noKeys : ∀ n ∈ after, ∀ q, ¬ isKeyOf q n) :
    walked s t := by
  have begins := c.walkBegins consistent
  have blocks := c.blocks_of_walk owed
  refine ⟨waitingWalked_of_walk begins blocks, fun q hq few => ?_⟩
  have last := walk_lastKey begins blocks hq
  rw [closeRaised_of_walk c owed] at reports
  exact ⟨fun on => reports.key ((last.1 on).append fun n hn => noKeys n hn q) few,
    fun r barred => reports.key ((last.2 r barred).append fun n hn => noKeys n hn q) few⟩

/-- A walk that is owed only for withdrawals is made exactly when there is one (R139, R144). -/
theorem Closed.walkedIfWithdrawn (c : Closed s t w) (only : WalkOwed s.blocks False w) {after : List Raised}
    (reports : Reports s t (closeRaised s w after)) (noKeys : ∀ n ∈ after, ∀ q, ¬ isKeyOf q n) : walkedIfWithdrawn s t := by
  refine ⟨fun still => ?_, fun ⟨q, on, off⟩ consistent => ?_⟩
  · have no : w.waitingWalk = false := by
      by_contra owed
      obtain ⟨q, on, off⟩ := (only (by simpa using owed)).resolve_left id
      exact off ((c.withdrawn_iff on).1 ▸ still q on)
    have keys (q : Pos) : w.gate.keys.get q = s.key q := by
      rcases c.gate.keys q with ⟨key, -⟩ | ⟨-, -, -, owed, -⟩
      · exact key
      · simp [no] at owed
    rw [c.gate_of_no_walk no]
    exact congrArg₂ Gate.mk (vector_ext keys) c.gate.waiting
  · have taken := (c.withdrawn_iff on).2.1 off
    rcases c.gate.keys q with ⟨key, -⟩ | ⟨-, -, -, owed, -⟩
    · exact absurd key taken
    · exact c.walked consistent owed reports noKeys

/-- A withdrawal of an ON position is told with its last KEY NOTICE (R143, R152). -/
theorem Closed.withdrawnAs (c : Closed s t w) {q : Pos} {r : Reason} (on : (s.key q).state = .on)
    (key : w.gate.keys.get q = withdrawnKey s.bank (s.key q) r) {after : List Raised}
    (reports : Reports s t (closeRaised s w after)) (noKeys : ∀ n ∈ after, ∀ q, ¬ isKeyOf q n) :
    withdrawnAs s.bank s t q r none := by
  have same := (c.withdrawn_iff on).1
  refine ⟨same.trans key, fun few => ?_⟩
  rcases c.gate.keys q with ⟨kept, -⟩ | ⟨-, -, -, owed, told⟩
  · have kept : w.gate.keys.get q = s.key q := kept
    have off := congrArg KeyRecord.state (kept.symm.trans key)
    simp [withdrawnKey, on] at off
  · have notWaiting : ∀ r, ((examineOwed s.view w).gate.keys.get q).state ≠ .waiting r := by
      rw [examineOwed_gate]
      simp [key, withdrawnKey]
    obtain ⟨m, hm, am⟩ := walkEntries_raised_of_not_waiting t.view s.waiting (examineOwed s.view w) notWaiting
    rw [closeRaised_of_walk c owed, hm, (examineOwed_frame s.view w).2.2.2.2.2.2.1] at reports
    exact reports.key ((told.append am).append fun n hn => noKeys n hn q) few

end

end Sys2Proof.Proofs.Closing

/-!
SUPPORT. An event that acts on one position `p` and then closes (`OwnEvent`): what its held walk leaves of the held requests
(R54, R55), of the places (R39) and of every other position, in the words of Safety.lean.
-/
namespace Sys2Proof.Proofs.Closing
open Sys2Proof Sys2Proof.Machine Sys2Proof.Proofs.Delivery Sys2Proof.Proofs.Selecting Sys2Proof.Proofs.Acting

/-- A held request that selection holds back when the walk begins stays through the walk. -/
theorem heldEntries_stay {v : View} {l : List Pos} {w : Work} (n : l.Nodup) (h : AllReady v w l) {q : Pos}
    {r : PendingRequest} (ready : HeldReady v w q r) (held : q ∈ w.routes.held)
    (sel : selection v w.toBlocks q r.kind = .held) : q ∈ (l.foldl (heldEntry v) w).routes.held := by
  induction l generalizing w with
  | nil => exact held
  | cons p l ih =>
    obtain ⟨notMem, nodup⟩ := List.nodup_cons.1 n
    obtain ⟨-, rp, readyp⟩ := h p List.mem_cons_self
    by_cases own : q = p
    · subst own
      have same : heldEntry v w q = w := heldEntry_of_held ready sel
      exact (heldEntries_spare nodup (h.tail n) notMem).held.2 (same.symm ▸ held)
    · have spares := heldEntry_spares (v := v) readyp own
      refine ih nodup (h.tail n) (spares.heldReady ready) (spares.held.2 held) ?_
      rw [← sel]
      exact selection_of_fewer (fun _ => spares.crowds.available) (by rw [spares.context]) (by rw [spares.classifier])
        (by simp [sel])

/-- A position reserves an antenna when it has a place there in that role (R39). -/
theorem mem_reservations {r : AntennaRecord} {q : Pos} : q ∈ r.reservations ↔ (⟨q, .reserving⟩ : Occupant) ∈ r.occupants := by
  simp only [AntennaRecord.reservations, List.mem_map, List.mem_filter, decide_eq_true_eq]
  constructor
  · rintro ⟨⟨x, role⟩, ⟨ho, hrole⟩, hx⟩
    exact hx ▸ hrole ▸ ho
  · exact fun h => ⟨_, ⟨h, rfl⟩, rfl⟩

/-- A work at the start of an event: nothing is owed, and nothing was told to every link. -/
structure Clean (w : Work) : Prop where
  heldWalk : w.heldWalk = false
  waitingWalk : w.waitingWalk = false
  examineAll : w.examineAll = false
  examine : w.examine = []
  ended : w.ended = []
  abandonFaults : w.abandonFaults = []
  noAlls : NoAlls w.raised

theorem clean_start (b : Blocks) : Clean (Work.start b) := ⟨rfl, rfl, rfl, rfl, rfl, rfl, fun _ => List.not_mem_nil⟩

theorem Clean.gateStage {w : Work} (h : Clean w) (v : View) : GateStage v w.toBlocks w :=
  ⟨rfl, fun _ => .inl ⟨rfl, by simp [h.ended]⟩, h.noAlls, h.examineAll⟩

theorem Clean.walkOwed {w : Work} (h : Clean w) (b : Blocks) (owed : Prop) : WalkOwed b owed w := by
  intro walk
  simp [h.waitingWalk] at walk

/-- An event from `s` to `t` that began with the clean work `w₀`, acted on position `p` alone, came to `w` and then closed, and
raised the ROUTE NOTICEs `after` of `p` behind the close. -/
structure OwnEvent (s t : State) (p : Pos) (w₀ w : Work) (after : List Raised) : Prop where
  view : t.view = s.view
  clean : Clean w₀
  start : w₀.toBlocks = s.blocks
  touches : Touches p w₀ w
  permit : PermitKept p w₀ w ∨ ∃ r, PermitTaken s.view p r w₀ w
  heldConsistent : heldConsistent s
  reserved : reservedInTransition s
  own : p ∈ w.routes.held → ∃ r, HeldReady s.view w p r
  heldList : w.routes.held.Sublist ((s.held.filter fun q => decide (q ≠ p)) ++ [p])
  blocks : t.blocks = (close s.view w).toBlocks
  behind : ∀ n ∈ after, isRouteOf p n
  reports : Reports s t ((close s.view w).raised ++ after)

section
variable {s t : State} {p : Pos} {w₀ w : Work} {after : List Raised}

/-! ### The work before the held walk -/

theorem OwnEvent.gateStage (e : OwnEvent s t p w₀ w after) : GateStage s.view s.blocks w :=
  GateStage.step (e.start ▸ e.clean.gateStage s.view) e.touches e.permit

theorem OwnEvent.context (e : OwnEvent s t p w₀ w after) {q : Pos} (h : q ≠ p) :
    w.routes.contexts.get q = s.context q :=
  (e.touches.contexts q h).trans (congrArg (fun b : Blocks => b.routes.contexts.get q) e.start)

theorem OwnEvent.claims (e : OwnEvent s t p w₀ w after) {q : Pos} (h : q ≠ p) : w.image.claims.get q = s.claims q :=
  (e.touches.claims q h).trans (congrArg (fun b : Blocks => b.image.claims.get q) e.start)

theorem OwnEvent.effective (e : OwnEvent s t p w₀ w after) : (w.image.claims.get p).effective = (s.claims p).effective :=
  e.touches.effective.trans (congrArg (fun b : Blocks => (b.image.claims.get p).effective) e.start)

theorem OwnEvent.key (e : OwnEvent s t p w₀ w after) {q : Pos} (h : q ≠ p) : w.gate.keys.get q = s.key q :=
  (e.touches.keys q h).trans (congrArg (fun b : Blocks => b.gate.keys.get q) e.start)

theorem OwnEvent.holds (e : OwnEvent s t p w₀ w after) {q : Pos} (h : q ≠ p) (a : Ant) :
    (w.routes.antennas.get a).holds.get q = (s.antenna a).holds.get q :=
  (e.touches.holds a q h).trans (congrArg (fun b : Blocks => (b.routes.antennas.get a).holds.get q) e.start)

theorem OwnEvent.mem_held (e : OwnEvent s t p w₀ w after) {q : Pos} (h : q ≠ p) : q ∈ w.routes.held ↔ q ∈ s.held :=
  (e.touches.held q h).trans (by rw [State.held, ← e.start])

theorem OwnEvent.held_nodup (e : OwnEvent s t p w₀ w after) : w.routes.held.Nodup := by
  refine e.heldList.nodup (List.nodup_append.2 ⟨e.heldConsistent.1.filter _, List.nodup_singleton p, ?_⟩)
  rintro x hx y hy rfl
  simp_all

theorem OwnEvent.ready (e : OwnEvent s t p w₀ w after) {q : Pos} (h : q ≠ p) (hq : q ∈ s.held) {r : PendingRequest}
    (slot : r ∈ (s.context q).slot) : HeldReady s.view w q r := by
  obtain ⟨member, statuses, -⟩ := e.heldConsistent.2 q
  obtain ⟨r', slot', status⟩ := member.1 hq
  obtain rfl : r' = r := Option.mem_unique slot' slot
  have none := (statuses r' slot').1 status
  exact ⟨by rw [e.context h]; exact slot', status, by rw [e.context h]; exact none, .inr (by rw [e.claims h]; exact e.reserved q none)⟩

theorem OwnEvent.allReady (e : OwnEvent s t p w₀ w after) : AllReady s.view w w.routes.held := by
  intro q hq
  refine ⟨hq, ?_⟩
  by_cases own : q = p
  · exact own ▸ e.own (own ▸ hq)
  · have held := (e.mem_held own).1 hq
    obtain ⟨r, slot, -⟩ := (e.heldConsistent.2 q).1.1 held
    exact ⟨r, e.ready own held slot⟩

/-! ### The held walk -/

theorem heldWalkIfOwed_of_owed (v : View) {w : Work} (owed : w.heldWalk = true) :
    heldWalkIfOwed v w = { w.routes.held.foldl (heldEntry v) w with heldWalk := false } := by
  simp only [heldWalkIfOwed, owed, if_true, Sys2Proof.Machine.heldWalk]

theorem heldWalkIfOwed_of_not_owed (v : View) {w : Work} (no : w.heldWalk = false) : heldWalkIfOwed v w = w := by
  simp [heldWalkIfOwed, no]

/-- Clearing what is owed changes nothing of a position. -/
theorem spares_heldWalk (q : Pos) (w : Work) (b : Bool) : Spares q w { w with heldWalk := b } :=
  ⟨rfl, rfl, Iff.rfl, rfl, fun _ => rfl, fun _ => Iff.rfl, permitKept_of_eq rfl rfl id rfl, Iff.rfl, ⟨[], by simp⟩,
    ⟨fun _ _ _ h => h, fun _ _ _ h => h, fun _ h => h⟩⟩

/-- The held walk spares every position that it does not come to. -/
theorem OwnEvent.spares (e : OwnEvent s t p w₀ w after) {q : Pos} (h : w.heldWalk = true → q ∉ w.routes.held) :
    Spares q w (heldWalkIfOwed s.view w) := by
  cases owed : w.heldWalk with
  | false =>
    rw [heldWalkIfOwed_of_not_owed _ owed]
    exact Spares.refl q w
  | true =>
    rw [heldWalkIfOwed_of_owed _ owed]
    exact (heldEntries_spare e.held_nodup e.allReady (h owed)).trans (spares_heldWalk q _ false)

theorem OwnEvent.result (e : OwnEvent s t p w₀ w after) (owed : w.heldWalk = true) {q : Pos} (hq : q ∈ w.routes.held)
    {r : PendingRequest} (slot : (w.routes.contexts.get q).slot = some r) :
    EntryResult s.view w (heldWalkIfOwed s.view w) q r := by
  rw [heldWalkIfOwed_of_owed _ owed]
  exact (heldEntries_result e.held_nodup e.allReady hq slot).spares (spares_heldWalk q _ false)

/-- A held request of `p` that its own request has placed is not moved by the walk of the event. -/
theorem OwnEvent.own_stays (e : OwnEvent s t p w₀ w after) {r : PendingRequest} (ready : HeldReady s.view w p r)
    (held : p ∈ w.routes.held) (sel : selection s.view w.toBlocks p r.kind = .held) :
    p ∈ (heldWalkIfOwed s.view w).routes.held ∧
      (heldWalkIfOwed s.view w).routes.contexts.get p = w.routes.contexts.get p ∧
      (heldWalkIfOwed s.view w).image.claims.get p = w.image.claims.get p ∧
      (∀ a, ((heldWalkIfOwed s.view w).routes.antennas.get a).holds.get p = (w.routes.antennas.get a).holds.get p) ∧
      (∀ a, (⟨p, .reserving⟩ : Occupant) ∈ ((heldWalkIfOwed s.view w).routes.antennas.get a).occupants ↔
        (⟨p, .reserving⟩ : Occupant) ∈ (w.routes.antennas.get a).occupants) ∧
      PermitKept p w (heldWalkIfOwed s.view w) := by
  cases owed : w.heldWalk with
  | false =>
    rw [heldWalkIfOwed_of_not_owed _ owed]
    exact ⟨held, rfl, rfl, fun _ => rfl, fun _ => Iff.rfl, PermitKept.refl p w⟩
  | true =>
    have stays : p ∈ (heldWalkIfOwed s.view w).routes.held := by
      rw [heldWalkIfOwed_of_owed _ owed]
      exact heldEntries_stay e.held_nodup e.allReady ready held sel
    cases e.result owed held ready.slot with
    | stays _ context claims holds places permit _ => exact ⟨stays, context, claims, holds, places, permit⟩
    | starts _ left => exact absurd stays left
    | leaves left => exact absurd stays left

theorem OwnEvent.occupants (e : OwnEvent s t p w₀ w after) (a : Ant) :
    ∃ new : List Occupant, ((heldWalkIfOwed s.view w).routes.antennas.get a).occupants =
        (w.routes.antennas.get a).occupants ++ new ∧ (∀ o ∈ new, o.role = .reserving) ∧
      (new.map Occupant.pos).Sublist w.routes.held := by
  cases owed : w.heldWalk with
  | false =>
    rw [heldWalkIfOwed_of_not_owed _ owed]
    exact ⟨[], by simp⟩
  | true =>
    rw [heldWalkIfOwed_of_owed _ owed]
    exact heldEntries_occupants e.held_nodup e.allReady a

theorem OwnEvent.held_filter (_ : OwnEvent s t p w₀ w after) :
    ∃ f : Pos → Bool, (heldWalkIfOwed s.view w).routes.held = w.routes.held.filter f := by
  cases owed : w.heldWalk with
  | false =>
    rw [heldWalkIfOwed_of_not_owed _ owed]
    exact ⟨fun _ => true, (List.filter_eq_self.mpr fun _ _ => rfl).symm⟩
  | true =>
    rw [heldWalkIfOwed_of_owed _ owed]
    exact heldEntries_held s.view w.routes.held w

/-- Before its examinations the event is one that `Closed` speaks of. -/
theorem OwnEvent.closed (e : OwnEvent s t p w₀ w after) : Closed s t (heldWalkIfOwed s.view w) := by
  refine ⟨e.view, e.blocks, ?_⟩
  cases owed : w.heldWalk with
  | false =>
    rw [heldWalkIfOwed_of_not_owed _ owed]
    exact e.gateStage
  | true =>
    rw [heldWalkIfOwed_of_owed _ owed]
    have walked := (heldEntries_gate (owed := True) e.held_nodup e.allReady e.gateStage fun _ => .inl trivial).1
    exact ⟨walked.waiting, walked.keys, walked.noAlls, walked.examineAll⟩

theorem OwnEvent.reported (e : OwnEvent s t p w₀ w after) :
    Reports s t (closeRaised s (heldWalkIfOwed s.view w) after) := e.reports

theorem OwnEvent.noKeys (e : OwnEvent s t p w₀ w after) (n : Raised) (hn : n ∈ after) (q : Pos) : ¬ isKeyOf q n := by
  have route := e.behind n hn
  cases n with
  | route => exact id
  | key => exact route.elim
  | all => exact id

/-- The walk owed only for withdrawals of `p` is still owed only for withdrawals after the held walk. -/
theorem OwnEvent.walkOwed (e : OwnEvent s t p w₀ w after) {owed : Prop} (h : WalkOwed s.blocks owed w) :
    WalkOwed s.blocks owed (heldWalkIfOwed s.view w) := by
  cases walk : w.heldWalk with
  | false =>
    rw [heldWalkIfOwed_of_not_owed _ walk]
    exact h
  | true =>
    rw [heldWalkIfOwed_of_owed _ walk]
    exact (heldEntries_gate e.held_nodup e.allReady e.gateStage h).2

/-- A walk owed before the held walk is owed after it. -/
theorem OwnEvent.waitingWalk (e : OwnEvent s t p w₀ w after) (owed : w.waitingWalk = true) :
    (heldWalkIfOwed s.view w).waitingWalk = true := by
  by_cases h : w.heldWalk = true ∧ p ∈ w.routes.held
  · obtain ⟨r, ready⟩ := e.own h.2
    cases e.result h.1 h.2 ready.slot with
    | stays _ _ _ _ _ permit _ => exact permit.walk owed
    | starts _ _ _ _ _ _ _ taken kept _ _ =>
      cases on : isOn w.toBlocks p with
      | true => exact (taken on).walk
      | false => exact (kept on).walk owed
    | leaves _ _ _ _ permit _ _ _ => exact permit.walk owed
  · exact (e.spares fun walk => fun held => h ⟨walk, held⟩).permit.walk owed

/-! ### The other positions -/

theorem OwnEvent.examine_of_other (e : OwnEvent s t p w₀ w after) {q : Pos} (h : q ≠ p) : q ∉ w.examine := by
  rw [e.touches.examine q h, e.clean.examine]
  exact List.not_mem_nil

/-- The frame of every position but `p` and those of the held walk, when there is one. -/
theorem OwnEvent.leftAlone (e : OwnEvent s t p w₀ w after) :
    LeftAlone s (heldWalkIfOwed s.view w) (ownOrWalked s p (w.heldWalk = true)) := by
  refine ⟨fun q hq => ?_, fun g => ?_⟩
  · simp only [ownOrWalked, not_or, not_and] at hq
    obtain ⟨other, notWalked⟩ := hq
    have spares := e.spares (q := q) fun owed held => notWalked owed ((e.mem_held other).1 held)
    exact ⟨spares.claims.trans (e.claims other), fun a => (spares.holds a).trans (e.holds other a),
      spares.permit.key.trans (e.key other), spares.context.trans (e.context other),
      fun m => e.examine_of_other other (spares.examine.1 m)⟩
  · rw [(heldWalkIfOwed_frame s.view w).2.2.1, State.group, ← e.start]
    exact e.touches.groups g

theorem OwnEvent.othersKept (e : OwnEvent s t p w₀ w after) {walk : Prop} (h : w.heldWalk = true → walk) :
    othersKept s t (ownOrWalked s p walk) :=
  othersKept_mono (fun _ o => o.imp_right fun ⟨owed, held⟩ => ⟨h owed, held⟩) (e.closed.othersKept e.leftAlone)

theorem positions_own (p : Pos) : positions.filter (fun q => decide (q = p)) = [p] := by
  revert p
  decide

/-- The places of the event: those its own operations leave, and behind them the reservations of its held walk (R39). -/
theorem OwnEvent.placesKept (e : OwnEvent s t p w₀ w after) {base : Ant → List Occupant}
    (h : ∀ a, (w.routes.antennas.get a).occupants = base a) : placesKept s t p base := by
  intro a
  obtain ⟨new, occupants, roles, sub⟩ := e.occupants a
  rw [e.closed.antenna, occupants, h a, List.drop_left, positions_own]
  refine ⟨List.prefix_append _ _, roles, sub.trans ?_⟩
  have list := e.heldList
  simp only [decide_not] at list
  exact list

/-! ### The held requests -/

theorem Closed.selection {w' : Work} (c : Closed s t w') {q : Pos} (kind : RequestKind)
    (antenna : (t.context q).antenna = (w'.routes.contexts.get q).antenna) :
    selection s.view t.blocks q kind = selection s.view w'.toBlocks q kind := by
  refine selection_congr kind ⟨fun a x _ h => by rwa [c.antennas], fun x _ k hk => by rwa [c.image], fun g h => ?_⟩
    ⟨fun a x _ h => by rwa [c.antennas] at h, fun x _ k hk => by rwa [c.image] at hk, fun g h => ?_⟩ antenna
    (by rw [c.classifier])
  · simpa [judgedExclusive, c.image] using h
  · simpa [judgedExclusive, c.image] using h

/-- The last ROUTE NOTICE of another position is not replaced behind the held walk. -/
theorem OwnEvent.lastRoute (e : OwnEvent s t p w₀ w after) {q : Pos} (h : q ≠ p) {n : Raised}
    (last : LastOf (isRouteOf q) n (heldWalkIfOwed s.view w).raised) :
    LastOf (isRouteOf q) n (closeRaised s (heldWalkIfOwed s.view w) after) := by
  have later (m : Raised) (hm : m ∈ after) : ¬ isRouteOf q m := not_isRouteOf_of_about h (.inr (e.behind m hm))
  cases owed : (heldWalkIfOwed s.view w).waitingWalk with
  | false =>
    rw [closeRaised_of_no_walk owed]
    exact last.append later
  | true =>
    rw [closeRaised_of_walk e.closed owed]
    obtain ⟨m, hm, am⟩ := walkEntries_raised t.view s.waiting (examineOwed s.view (heldWalkIfOwed s.view w))
    rw [hm, (examineOwed_frame s.view _).2.2.2.2.2.2.1]
    refine (last.append fun n hn k => ?_).append later
    obtain ⟨x, -, key⟩ := am n hn
    cases n with
    | route => exact key
    | key => exact k
    | all => exact k

/-- The held requests that stay keep their order and place (R54). -/
theorem OwnEvent.held_order (e : OwnEvent s t p w₀ w after) : t.held.filter (fun q => !decide (q = p)) =
    s.held.filter fun q => !decide (q = p) && decide (q ∈ t.held) := by
  obtain ⟨f, hf⟩ := e.held_filter
  have held : t.held = w.routes.held.filter f := e.closed.held.trans hf
  have others : (w.routes.held.filter fun q => !decide (q = p)) = s.held.filter fun q => !decide (q = p) := by
    have order := e.touches.heldOrder
    simp only [ne_eq, decide_not] at order
    rw [order, State.held, ← e.start]
  calc t.held.filter (fun q => !decide (q = p))
      = w.routes.held.filter fun q => !decide (q = p) && f q := by rw [held, List.filter_filter]
    _ = w.routes.held.filter fun q => decide (q ∈ t.held) && !decide (q = p) :=
        List.filter_congr fun q hq => by simp [held, hq, Bool.and_comm]
    _ = (s.held.filter fun q => !decide (q = p)).filter fun q => decide (q ∈ t.held) := by rw [← List.filter_filter, others]
    _ = s.held.filter fun q => !decide (q = p) && decide (q ∈ t.held) := by
        rw [List.filter_filter]
        exact List.filter_congr fun q _ => Bool.and_comm _ _

/-- A withdrawal for an entry of the held walk stands at the close (R68, R143). -/
theorem OwnEvent.withdrawnAs (e : OwnEvent s t p w₀ w after) {q : Pos} (on : (s.key q).state = .on) {r : Reason}
    (key : (heldWalkIfOwed s.view w).gate.keys.get q = withdrawnKey s.bank (s.key q) r) :
    withdrawnAs s.bank s t q r none :=
  e.closed.withdrawnAs on key e.reported e.noKeys

/-- What the held walk of the event leaves of the held request of another position (R54, R55). -/
theorem OwnEvent.heldWalked (e : OwnEvent s t p w₀ w after) (owed : w.heldWalk = true) : heldWalked s t p := by
  have c := e.closed
  refine ⟨e.held_order, fun q notOwn hq r slot unforced => ?_⟩
  have other : q ≠ p := by simpa using notOwn
  have ready := e.ready other hq slot
  have unmoved : w.routes.contexts.get q = s.context q := e.context other
  have still : (s.context q).transition = none := unmoved ▸ ready.transition
  have held (h : q ∈ t.held) : q ∈ (heldWalkIfOwed s.view w).routes.held := c.held ▸ h
  have keyKept (permit : PermitKept q w (heldWalkIfOwed s.view w)) (notWaiting : q ∉ s.waiting) : t.key q = s.key q :=
    (c.key_of_notMem notWaiting).trans (permit.key.trans (e.key other))
  have wOn : isOn w.toBlocks q = true ↔ (s.key q).state = .on := by simp [isOn, e.key other]
  cases e.result owed ((e.mem_held other).2 hq) ready.slot with
  | stays stays context claims _ _ permit sel =>
    have same : t.context q = s.context q :=
      (c.context_of_none (by rw [context, unmoved, still])).trans (context.trans unmoved)
    have claimed : t.claims q = s.claims q := (c.claims q).trans (claims.trans (e.claims other))
    refine ⟨by rw [claimed], fun _ => ⟨same, ?_⟩, fun left => absurd (c.held ▸ stays) left, fun _ => by rw [claimed],
      fun _ => keyKept permit, fun left => absurd (c.held ▸ stays) left, fun left => absurd (c.held ▸ stays) left⟩
    rw [c.selection r.kind (by rw [same, context, unmoved]), sel]
  | leaves left context claims _ permit notHeld noTarget notice =>
    have same : t.context q = { s.context q with slot := none } := by
      rw [c.context_of_none (by rw [context, unmoved, still]), context, unmoved]
    have claimed : t.claims q = s.claims q := (c.claims q).trans (claims.trans (e.claims other))
    have sel := c.selection (q := q) r.kind (by rw [same, context, unmoved])
    have none : (t.context q).transition = none := by rw [same, still]
    refine ⟨by rw [claimed], fun stays => absurd (held stays) left, fun _ _ => ⟨same, sel ▸ notHeld, sel ▸ noTarget⟩,
      fun _ => by rw [claimed], fun _ => keyKept permit, fun _ tr htr => by simp [none] at htr, fun _ few => ?_⟩
    obtain ⟨cause, answer, hc, last⟩ := notice
    refine e.reported.route (e.lastRoute other last) few ?_
    rcases hc with rfl | rfl <;> simp [routeNotice, Notice.isRoute]
  | starts target left context effective reserved place holds taken kept examined notice =>
    have moving : ∃ tr, (heldWalkIfOwed s.view w).routes.contexts.get q =
          { s.context q with state := .switching, slot := none, transition := some tr } ∧
        tr = waitRecord s.bank (s.context q).antenna target r.kind r.cause (s.context q).state false := by
      refine ⟨_, ?_, rfl⟩
      have notFault : r.cause ≠ .fault := fun e => by simp [e, Cause.forced] at unforced
      rw [context, unmoved, heldStarted, unforced, Bool.or_false, if_neg notFault]
      rfl
    obtain ⟨tr, at', record⟩ := moving
    obtain ⟨⟨due, final⟩, start⟩ := c.context_of_examined (by rw [at']) (by rw [record]; rfl) (by rw [record]; rfl) examined
    rw [at', record] at final
    have some : (t.context q).transition =
        some (waitRecord s.bank (s.context q).antenna target r.kind r.cause (s.context q).state due) := by
      rw [final]
      rfl
    refine ⟨?_, fun stays => absurd (held stays) left, fun _ none => by simp [none] at some,
      fun none => by simp [none] at some, fun off => ?_, fun _ tr' htr' => ?_, fun _ few => ?_⟩
    · rw [c.claims, effective, e.claims other]
    · have off : (s.key q).state ≠ .on := off.resolve_left (by simp [some])
      exact keyKept (kept (Bool.eq_false_iff.2 fun on => off (wOn.1 on)))
    · obtain rfl : waitRecord s.bank (s.context q).antenna target r.kind r.cause (s.context q).state due = tr' := by
        simpa [some] using htr'
      refine ⟨rfl, final, start, fun on => e.withdrawnAs on ?_, fun o ho => ?_, fun n hn => ⟨?_, ?_, ?_⟩⟩
      · rw [(taken (wOn.2 on)).key, e.key other]
        rfl
      · rw [c.antenna]
        exact holds o (.inr (by rw [unmoved]; exact ho))
      · rw [c.antenna]
        exact mem_reservations.2 (place n hn)
      · rw [c.antenna]
        exact holds n (.inl hn)
      · rw [c.claims]
        exact reserved n hn
    · refine e.reported.route (e.lastRoute other notice) few ?_
      simp [routeNotice, Notice.isRoute]

end

end Sys2Proof.Proofs.Closing

/-!
SUPPORT. A FOLLOW request part by part (R48 to R50, R59, R62, R74, R75): what the work holds after a HELD request is dropped, after a
transition in WAIT is freed or its target replaced, and after a route is faulted.
-/
namespace Sys2Proof.Proofs.Following
open Sys2Proof Sys2Proof.Machine Sys2Proof.Proofs.Delivery Sys2Proof.Proofs.Selecting Sys2Proof.Proofs.Acting
open Sys2Proof.Proofs.Closing

/-! ### The notices of a request -/

/-- The ROUTE NOTICE of the answer to a FOLLOW request (R62). -/
def followNotice (p : Pos) : Answer → Raised
  | .accepted d => .route p .follow (some (.accepted d))
  | .refused r => .route p .refused (some (.refused r))

theorem followNotice_answer (p : Pos) (sel : Selection) :
    followNotice p sel.answer = .route p sel.followCause (some sel.answer) := by cases sel <;> rfl

theorem followNotice_isRouteOf (p : Pos) (a : Answer) : isRouteOf p (followNotice p a) := by cases a <;> rfl

theorem raiseFollow_eq (p : Pos) (a : Answer) (w : Work) : raiseFollow p a w = w.raise (followNotice p a) := by
  cases a <;> rfl

theorem raiseFaults_raised (l : List Pos) (w : Work) :
    (l.foldl (fun w p => w.raise (.route p .fault none)) w).raised = w.raised ++ l.map fun p => .route p .fault none := by
  induction l generalizing w with
  | nil => simp
  | cons p l ih =>
    rw [List.foldl_cons, ih, List.map_cons, List.append_cons]
    rfl

theorem raiseFaults_blocks (l : List Pos) (w : Work) :
    (l.foldl (fun w p => w.raise (.route p .fault none)) w).toBlocks = w.toBlocks := by
  induction l generalizing w with
  | nil => rfl
  | cons p l ih => exact ih _

theorem raiseAbandonFaults_blocks (w : Work) : (raiseAbandonFaults w).toBlocks = w.toBlocks :=
  raiseFaults_blocks w.abandonFaults w

theorem raiseAbandonFaults_raised (w : Work) :
    (raiseAbandonFaults w).raised = w.raised ++ w.abandonFaults.map fun p => .route p .fault none :=
  raiseFaults_raised w.abandonFaults w

/-- The blocks a FOLLOW request leaves are those of its close (R40). -/
theorem followRequest_blocks (v : View) (p : Pos) (w : Work) :
    (followRequest v p w).toBlocks = (close v (request v p .byPreference .follow w).1).toBlocks := by
  have blocks (w : Work) (n : Raised) : (w.raise n).toBlocks = w.toBlocks := rfl
  simp only [followRequest]
  rw [raiseAbandonFaults_blocks, raiseFollow_eq, blocks]

/-- A FOLLOW request raises its answer behind the notices of its walks, and the abandonments into a fault last (R59, R62). -/
theorem followRequest_raised (v : View) (p : Pos) (w : Work) : (followRequest v p w).raised =
    (close v (request v p .byPreference .follow w).1).raised ++
      (followNotice p (request v p .byPreference .follow w).2 ::
        (request v p .byPreference .follow w).1.abandonFaults.map fun p => .route p .fault none) := by
  have raised (w : Work) (n : Raised) : (w.raise n).raised = w.raised ++ [n] := rfl
  simp only [followRequest]
  rw [raiseAbandonFaults_raised, raiseFollow_eq, Work.raise_abandonFaults, (close_frame v _).2.2.2.2.2.1, List.append_cons,
    raised]

theorem request_of_admitted {v : View} {p : Pos} (h : admission v p = none) (kind : RequestKind) (cause : Cause) (w : Work) :
    request v p kind cause w = takeRequest v p kind cause w := by
  simp [request, h]

theorem examineOne_of_clean {w : Work} (h : Clean w) (v : View) (p : Pos) : examineOne v w p = w := by
  unfold examineOne
  split
  · rfl
  · exact if_neg (by simp [toExamine, h.examineAll, h.examine, h.ended])

theorem examineEach_of_clean {w : Work} (h : Clean w) (v : View) (l : List Pos) : l.foldl (examineOne v) w = w := by
  induction l with
  | nil => rfl
  | cons p l ih => rw [List.foldl_cons, examineOne_of_clean h, ih]

/-- A close that owes nothing changes nothing. -/
theorem close_of_clean {w : Work} (h : Clean w) (v : View) :
    (close v w).toBlocks = w.toBlocks ∧ (close v w).raised = w.raised := by
  rw [close, heldWalkIfOwed_of_not_owed v h.heldWalk, examineOwed, examineEach_of_clean h, waitingWalkIfOwed,
    if_neg (by simp [h.waitingWalk])]
  exact ⟨rfl, rfl⟩

/-! ### A HELD request that is dropped (R48) -/

theorem dropHeld_of_none {p : Pos} {w : Work} (h : (w.routes.contexts.get p).slot = none) : dropHeld p w = w :=
  dropHeld_of_not_held p w (by simp [h])

theorem dropHeld_of_held {p : Pos} {w : Work} {r : PendingRequest} (h : (w.routes.contexts.get p).slot = some r)
    (held : r.status = .held) : dropHeld p w =
      { (w.setContext p { w.context p with slot := none }).setHeld (w.routes.held.filter (· ≠ p)) with heldWalk := true } := by
  have h : (w.context p).slot = some r := h
  unfold dropHeld
  simp only [h, held]

/-! ### The places, the holds and the claims of a target that is left (R74, R75) -/

theorem dropHold_holds (p : Pos) (target : Option Ant) (w : Work) (a : Ant) :
    ((dropHold p target w).routes.antennas.get a).holds.get p =
      (!decide (target = some a) && (w.routes.antennas.get a).holds.get p) := by
  cases target with
  | none => simp
  | some n =>
    rw [dropHold_some, put_get]
    by_cases e : a = n
    · subst e; simp
    · simp [e, Ne.symm e]

theorem dropHold_occupants (p : Pos) (target : Option Ant) (w : Work) (a : Ant) :
    ((dropHold p target w).routes.antennas.get a).occupants = (w.routes.antennas.get a).occupants := by
  cases target with
  | none => rfl
  | some n =>
    rw [dropHold_some, put_get]
    split <;> rename_i e
    · subst e; rfl
    · rfl

/-- The places `l` on antenna `a` without the reservation of `p`, when `a` is its target. -/
def unreserved (p : Pos) (target : Option Ant) (a : Ant) (l : List Occupant) : List Occupant :=
  if target = some a then l.filter fun o => decide (o ≠ ⟨p, .reserving⟩) else l

theorem unreserved_eq_placesLess (s : State) (p : Pos) (target : Option Ant) (a : Ant) :
    unreserved p target a (s.antenna a).occupants = s.placesLess p .reserving target a := rfl

theorem notMem_unreserved {p : Pos} {a : Ant} {l : List Occupant} : (⟨p, .reserving⟩ : Occupant) ∉ unreserved p (some a) a l := by
  simp [unreserved]

theorem unreserve_occupants (p : Pos) (target : Option Ant) (w : Work) (a : Ant) :
    ((unreserve p target w).routes.antennas.get a).occupants = unreserved p target a (w.routes.antennas.get a).occupants := by
  cases target with
  | none => rfl
  | some n =>
    have antennas : (unreserve p (some n) w).routes.antennas = (dropReservation p n w).routes.antennas := by
      simp [unreserve]
    rw [antennas, unreserved]
    change ((put w.routes.antennas n _).get a).occupants = _
    rw [put_get]
    by_cases e : a = n
    · subst e
      simp only [if_true]
      refine List.filter_congr fun o _ => ?_
      obtain ⟨q, role⟩ := o
      by_cases own : q = p <;> simp [own]
    · simp [e, Ne.symm e]

theorem unreserve_holds (p : Pos) (target : Option Ant) (w : Work) (a : Ant) :
    ((unreserve p target w).routes.antennas.get a).holds = (w.routes.antennas.get a).holds := by
  cases target with
  | none => rfl
  | some n =>
    have antennas : (unreserve p (some n) w).routes.antennas = (dropReservation p n w).routes.antennas := by
      simp [unreserve]
    rw [antennas]
    change ((put w.routes.antennas n _).get a).holds = _
    rw [put_get]
    split <;> rename_i e
    · subst e; rfl
    · rfl

theorem unreserve_reserved (p : Pos) (a : Ant) (w : Work) :
    ((unreserve p (some a) w).image.claims.get p).reserved = [] := by
  rw [unreserve, dropReserved_claims, put_get_same]

/-! ### A transition in WAIT that is abandoned (R74) -/

/-- The work in which position `p` has left its transition `tr` in WAIT, before a fault of its route (R74, steps 1 to 5). -/
def freed (p : Pos) (tr : Transition) (w : Work) : Work :=
  let w := w.setContext p { w.context p with transition := none }
  let w := dropHold p tr.target (dropHold p tr.old (unreserve p tr.target w))
  { w.setContext p { w.context p with state := tr.start } with heldWalk := true, waitingWalk := true }

theorem freed_frame (p : Pos) (tr : Transition) (w : Work) :
    (freed p tr w).monitor = w.monitor ∧ (freed p tr w).routes.held = w.routes.held ∧ (freed p tr w).gate = w.gate ∧
      (freed p tr w).raised = w.raised ∧ (freed p tr w).ended = w.ended ∧ (freed p tr w).examine = w.examine ∧
      (freed p tr w).abandonFaults = w.abandonFaults := by
  simp [freed]

theorem freed_context (p : Pos) (tr : Transition) (w : Work) : (freed p tr w).routes.contexts.get p =
    { w.routes.contexts.get p with transition := none, state := tr.start } := by
  simp [freed]

theorem freed_occupants (p : Pos) (tr : Transition) (w : Work) (a : Ant) :
    ((freed p tr w).routes.antennas.get a).occupants = unreserved p tr.target a (w.routes.antennas.get a).occupants :=
  (dropHold_occupants ..).trans ((dropHold_occupants ..).trans (unreserve_occupants ..))

theorem freed_holds (p : Pos) (tr : Transition) (w : Work) (a : Ant) (h : tr.old = some a ∨ tr.target = some a) :
    ((freed p tr w).routes.antennas.get a).holds.get p = false := by
  refine (dropHold_holds ..).trans ?_
  rw [dropHold_holds]
  rcases h with h | h <;> simp [h]

theorem freed_reserved {p : Pos} {tr : Transition} {a : Ant} (h : tr.target = some a) (w : Work) :
    ((freed p tr w).image.claims.get p).reserved = [] := by
  have image : (freed p tr w).image = (unreserve p tr.target (w.setContext p { w.context p with transition := none })).image := by
    simp [freed]
  rw [image, h]
  exact unreserve_reserved p a _

theorem touches_freed (p : Pos) (tr : Transition) (w : Work) : Touches p w (freed p tr w) :=
  ((((touches_setContext p _ w).trans (touches_unreserve p tr.target _)).trans ((touches_dropHold p tr.old _).trans
    (touches_dropHold p tr.target _))).trans (touches_setContext p _ _)).trans
    (touches_owed p _ true true _ _ fun _ _ => Iff.rfl)

/-- A coil of the route of `p` is latched, as the abandonment finds it (R59). -/
theorem latchedRoute_freed (p : Pos) (tr : Transition) (w : Work) :
    latchedRoute (freed p tr w).toBlocks p = latchedRoute w.toBlocks p := by
  simp only [latchedRoute, (touches_freed p tr w).effective, (touches_freed p tr w).monitor]

/-- An abandonment frees the transition, and faults the route when it was ROUTED over a latched coil (R59, R74). -/
theorem abandon_eq {v : View} {p : Pos} {w : Work} {tr : Transition} (h : (w.routes.contexts.get p).transition = some tr) :
    abandon v p w = if tr.start = .routed ∧ latchedRoute w.toBlocks p = true then
      { faultRoute v p (freed p tr w) with abandonFaults := w.abandonFaults ++ [p] } else freed p tr w := by
  have here : (w.context p).transition = some tr := h
  have faults : (freed p tr w).abandonFaults = w.abandonFaults := (freed_frame p tr w).2.2.2.2.2.2
  rw [← latchedRoute_freed p tr w, ← faults]
  unfold abandon
  simp only [here]
  rfl

/-! ### A target in WAIT that is replaced (R75) -/

/-- The transition `tr` in WAIT with its target replaced (R75). -/
def replaced (v : View) (tr : Transition) (kind : RequestKind) (cause : Cause) (target : Option Ant) : Transition :=
  { tr with target := target, kind := kind, cause := cause, quietTimer := quietWait v, due := false }

section
variable (v : View) (p : Pos) (tr : Transition) (kind : RequestKind) (cause : Cause) (target : Option Ant) (w : Work)

/-- The work in which `p` has left the target of its transition in WAIT, and no hold that its old antenna needs. -/
def untargeted : Work :=
  if tr.target = tr.old then unreserve p tr.target w else dropHold p tr.target (unreserve p tr.target w)

theorem untargeted_occupants (a : Ant) :
    ((untargeted p tr w).routes.antennas.get a).occupants = unreserved p tr.target a (w.routes.antennas.get a).occupants := by
  unfold untargeted
  split
  · exact unreserve_occupants ..
  · exact (dropHold_occupants ..).trans (unreserve_occupants ..)

theorem untargeted_image : (untargeted p tr w).image = (unreserve p tr.target w).image := by
  unfold untargeted
  split <;> simp

theorem replaceTarget_antennas : (replaceTarget v p tr kind cause target w).routes.antennas =
    (addHold p target (reserve v p target (untargeted p tr w))).routes.antennas := rfl

theorem replaceTarget_image : (replaceTarget v p tr kind cause target w).image =
    (reserve v p target (untargeted p tr w)).image := by
  change (addHold p target (reserve v p target (untargeted p tr w))).image = _
  simp

theorem replaceTarget_context : (replaceTarget v p tr kind cause target w).routes.contexts.get p =
    { w.routes.contexts.get p with transition := some (replaced v tr kind cause target) } := by
  have same : (addHold p target (reserve v p target (untargeted p tr w))).routes.contexts = w.routes.contexts := by
    unfold untargeted
    split <;> simp
  refine (put_get_same _ _ _).trans ?_
  exact congrArg (fun c : Vector Context 6 => { c.get p with transition := some (replaced v tr kind cause target) }) same

theorem replaceTarget_occupants (a : Ant) : ((replaceTarget v p tr kind cause target w).routes.antennas.get a).occupants =
    reservedAtEnd p target a (unreserved p tr.target a (w.routes.antennas.get a).occupants) := by
  rw [replaceTarget_antennas, addHold_occupants, reserve_occupants, untargeted_occupants]

theorem replaceTarget_holds (a : Ant) : ((replaceTarget v p tr kind cause target w).routes.antennas.get a).holds.get p =
    (decide (target = some a) || ((untargeted p tr w).routes.antennas.get a).holds.get p) := by
  rw [replaceTarget_antennas, addHold_holds, reserve_holds]

theorem untargeted_holds {a : Ant} (left : tr.target = some a) (other : tr.old ≠ some a) :
    ((untargeted p tr w).routes.antennas.get a).holds.get p = false := by
  rw [untargeted, if_neg (by simpa [left] using other.symm), dropHold_holds]
  simp [left]

theorem replaceTarget_reserved {n : Ant} : ((replaceTarget v p tr kind cause (some n) w).image.claims.get p).reserved =
    (path v.bank p n).claims := by
  rw [replaceTarget_image]
  exact congrArg ClaimLists.reserved (put_get_same _ _ _)

theorem replaceTarget_reserved_none {a : Ant} (left : tr.target = some a) :
    ((replaceTarget v p tr kind cause none w).image.claims.get p).reserved = [] := by
  rw [replaceTarget_image]
  change ((untargeted p tr w).image.claims.get p).reserved = []
  rw [untargeted_image, left]
  exact unreserve_reserved p a w

theorem replaceTarget_owed : (replaceTarget v p tr kind cause target w).heldWalk = true ∧
    (replaceTarget v p tr kind cause target w).waitingWalk = true ∧
    p ∈ (replaceTarget v p tr kind cause target w).examine := ⟨rfl, rfl, List.mem_cons_self⟩

theorem replaceTarget_permit : PermitKept p w (replaceTarget v p tr kind cause target w) := by
  have frame := replaceTarget_frame v p tr kind cause target w
  exact permitKept_of_eq frame.2.2.2.2.2.1 frame.2.2.2.2.2.2.2.2.1 (fun _ => rfl) frame.2.2.2.2.2.2.1

end

/-! ### A route that is faulted (R58) -/

/-- The transition of a fault release that has just entered WAIT (R58, R67). -/
def faultRelease (v : View) (c : Context) : Transition :=
  { old := c.antenna, target := none, kind := .release, cause := .fault, phase := .wait, phaseTimer := none
    quietTimer := quietWait v, start := .routed, due := false, broken := [] }

/-- What a fault of the route of `p`, whose slot is empty, does before the start of its release. -/
theorem faultRoute_eq {v : View} {p : Pos} {w : Work} (empty : (w.routes.contexts.get p).slot = none) :
    faultRoute v p w = { startTransition v p .release .fault none .routed
      (withdraw v p .fault none (w.setContext p { w.context p with state := .faulted })) with waitingWalk := true } := by
  have still : (withdraw v p .fault none (w.setContext p { w.context p with state := .faulted })).routes =
      (w.setContext p { w.context p with state := .faulted }).routes := (withdraw_frame ..).2.2.1
  have slot : ((withdraw v p .fault none (w.setContext p { w.context p with state := .faulted })).context p).slot = none := by
    rw [Work.context_eq, still]
    simp [empty]
  simp only [faultRoute, heldToLatched, slot]

theorem faultRoute_context {v : View} {p : Pos} {w : Work} (empty : (w.routes.contexts.get p).slot = none) :
    (faultRoute v p w).routes.contexts.get p = { w.routes.contexts.get p with
      state := .faulted, mark := true, transition := some (faultRelease v (w.routes.contexts.get p)) } := by
  rw [faultRoute_eq empty]
  simp [startTransition_contexts, faultRelease, Cause.forced]

theorem faultRoute_occupants {v : View} {p : Pos} {w : Work} (empty : (w.routes.contexts.get p).slot = none) (a : Ant) :
    ((faultRoute v p w).routes.antennas.get a).occupants = (w.routes.antennas.get a).occupants := by
  rw [faultRoute_eq empty]
  refine (startTransition_occupants ..).trans ?_
  simp [reservedAtEnd]

theorem faultRoute_reserved {v : View} {p : Pos} {w : Work} (empty : (w.routes.contexts.get p).slot = none) :
    ((faultRoute v p w).image.claims.get p).reserved = (w.image.claims.get p).reserved := by
  rw [faultRoute_eq empty]
  refine (startTransition_reserved ..).trans ?_
  simp

theorem faultRoute_owed {v : View} {p : Pos} {w : Work} (empty : (w.routes.contexts.get p).slot = none) :
    (faultRoute v p w).heldWalk = w.heldWalk ∧ (faultRoute v p w).waitingWalk = true ∧
      (faultRoute v p w).routes.held = w.routes.held ∧ (faultRoute v p w).examine = p :: w.examine := by
  rw [faultRoute_eq empty]
  simp [startTransition_examine]

/-- A fault of the route withdraws its position when it is ON, and leaves its permit otherwise (R58). -/
theorem faultRoute_permit {v : View} {p : Pos} {w : Work} (empty : (w.routes.contexts.get p).slot = none) :
    PermitKept p w (faultRoute v p w) ∨ ∃ r, PermitTaken v p r w (faultRoute v p w) := by
  have set : PermitKept p w (w.setContext p { w.context p with state := .faulted }) := permitKept_of_eq rfl rfl id rfl
  have owed (w : Work) : PermitKept p w { w with waitingWalk := true } := permitKept_of_eq rfl rfl (fun _ => rfl) rfl
  rw [faultRoute_eq empty]
  cases on : isOn w.toBlocks p with
  | true =>
    have taken := permitTaken_withdraw (v := v) (r := .fault) (set.isOn.trans on)
    exact .inr ⟨.fault, ((set.trans_taken taken).trans_kept (startTransition_kept taken.off).1).trans_kept (owed _)⟩
  | false =>
    have off := set.isOn.trans on
    rw [withdraw_of_not_on _ _ _ _ _ off]
    exact .inl ((set.trans (startTransition_kept off).1).trans (owed _))

end Sys2Proof.Proofs.Following

/-!
SUPPORT. The FOLLOW request of a position with no transition (R48, R62, R67), in the words of Safety.lean.
-/
namespace Sys2Proof.Proofs.Closing
open Sys2Proof Sys2Proof.Machine Sys2Proof.Proofs.Delivery Sys2Proof.Proofs.Selecting Sys2Proof.Proofs.Acting

/-! ### The position itself at the close of its event -/

/-- The close of the event that came to `w` has left position `p` as it was there, but for an examination. -/
structure OwnKept (t : State) (p : Pos) (w : Work) : Prop where
  claims : t.claims p = w.image.claims.get p
  holds : ∀ a, (t.antenna a).holds.get p = (w.routes.antennas.get a).holds.get p
  reserved : ∀ a, p ∈ (t.antenna a).reservations ↔ (⟨p, .reserving⟩ : Occupant) ∈ (w.routes.antennas.get a).occupants
  held : p ∈ t.held ↔ p ∈ w.routes.held
  still : (w.routes.contexts.get p).transition = none → t.context p = w.routes.contexts.get p

section
variable {s t : State} {p : Pos} {w₀ w : Work} {after : List Raised}

/-- A position that its event leaves out of the held list is not met by the held walk. -/
theorem OwnEvent.ownSpared (e : OwnEvent s t p w₀ w after) (out : p ∉ w.routes.held) :
    Spares p w (heldWalkIfOwed s.view w) := e.spares fun _ => out

theorem OwnEvent.ownKept_of_notMem (e : OwnEvent s t p w₀ w after) (out : p ∉ w.routes.held) : OwnKept t p w where
  claims := (e.closed.claims p).trans (e.ownSpared out).claims
  holds a := by rw [e.closed.antenna, (e.ownSpared out).holds]
  reserved a := by rw [e.closed.antenna, mem_reservations, (e.ownSpared out).places]
  held := by rw [e.closed.held, (e.ownSpared out).held]
  still h := by rw [e.closed.context_of_none (by rw [(e.ownSpared out).context, h]), (e.ownSpared out).context]

/-- A request that the event has placed HELD stays: what selection held back is held back after its walk. -/
theorem OwnEvent.ownKept_of_held (e : OwnEvent s t p w₀ w after) {r : PendingRequest} (ready : HeldReady s.view w p r)
    (held : p ∈ w.routes.held) (sel : selection s.view w.toBlocks p r.kind = .held) : OwnKept t p w := by
  obtain ⟨stays, context, claims, holds, places, -⟩ := e.own_stays ready held sel
  exact ⟨(e.closed.claims p).trans claims, fun a => by rw [e.closed.antenna, holds],
    fun a => by rw [e.closed.antenna, mem_reservations, places], by rw [e.closed.held]; exact iff_of_true stays held,
    fun h => by rw [e.closed.context_of_none (by rw [context, h]), context]⟩

/-- A transition of the position that the event started or replaced is examined at its close (R67, R71, R75). -/
theorem OwnEvent.ownExamined (e : OwnEvent s t p w₀ w after) (out : p ∉ w.routes.held) {tr : Transition}
    (h : (w.routes.contexts.get p).transition = some tr) (wait : tr.phase = .wait) (fresh : tr.due = false)
    (examined : p ∈ w.examine) :
    (∃ due, t.context p = { w.routes.contexts.get p with transition := some { tr with due := due } }) ∧
      startExamined s t p := by
  have spares := e.ownSpared out
  have result := e.closed.context_of_examined (by rw [spares.context, h]) wait fresh (spares.examine.2 examined)
  rwa [spares.context] at result

/-- The withdrawal of the position that its event acts on (R68, R143). -/
theorem OwnEvent.ownWithdrawn (e : OwnEvent s t p w₀ w after) (out : p ∉ w.routes.held) {r : Reason}
    (taken : PermitTaken s.view p r w₀ w) (on : (s.key p).state = .on) : Machine.withdrawnAs s.bank s t p r none := by
  refine e.withdrawnAs on ?_
  rw [(e.ownSpared out).permit.key, taken.key, State.key, ← e.start]
  rfl

theorem OwnEvent.effective_kept (e : OwnEvent s t p w₀ w after) (k : OwnKept t p w) :
    (t.claims p).effective = (s.claims p).effective := by rw [k.claims, e.effective]

/-- What an event that owes a waiting walk only for a withdrawal leaves of the other positions (R54, R139). -/
theorem OwnEvent.others_of_walkOwed (e : OwnEvent s t p w₀ w after) {walk : Prop} (owed : w.heldWalk = true ↔ walk)
    (permit : (PermitKept p w₀ w ∧ w.waitingWalk = w₀.waitingWalk) ∨ ∃ r, PermitTaken s.view p r w₀ w) :
    (walk → Machine.heldWalked s t p) ∧ Machine.othersKept s t (ownOrWalked s p walk) ∧ Machine.walkedIfWithdrawn s t :=
  ⟨fun h => e.heldWalked (owed.2 h), e.othersKept owed.1, e.closed.walkedIfWithdrawn
    (e.walkOwed ((e.clean.walkOwed s.blocks False).step (e.start ▸ e.clean.gateStage s.view) e.touches permit)) e.reported
    e.noKeys⟩

/-- What an event that owes both walks leaves of the other positions (R54, R139). -/
theorem OwnEvent.others_of_walks (e : OwnEvent s t p w₀ w after) (held : w.heldWalk = true) (waiting : w.waitingWalk = true) :
    Machine.heldWalked s t p ∧ Machine.othersKept s t (ownOrWalked s p True) ∧ (gateConsistent s → Machine.walked s t) :=
  ⟨e.heldWalked held, e.othersKept fun _ => trivial,
    fun consistent => e.closed.walked consistent (e.waitingWalk waiting) e.reported e.noKeys⟩

end
end Sys2Proof.Proofs.Closing

namespace Sys2Proof.Proofs.Following
open Sys2Proof Sys2Proof.Machine Sys2Proof.Proofs.Delivery Sys2Proof.Proofs.Selecting Sys2Proof.Proofs.Acting
open Sys2Proof.Proofs.Closing

/-- The FOLLOW request of `p` is taken in `u`, from the clean work `w₀`, and leaves `t`. -/
structure Follows (u t : State) (p : Pos) (w₀ : Work) : Prop where
  clean : Clean w₀
  start : w₀.toBlocks = u.blocks
  view : t.view = u.view
  admitted : admission u.view p = none
  blocks : t.blocks = (followRequest u.view p w₀).toBlocks
  reports : Reports u t (followRequest u.view p w₀).raised

/-- The request of the work `w₀` comes to the work `w` and this answer. -/
abbrev Takes (u : State) (p : Pos) (w₀ w : Work) (answer : Answer) : Prop :=
  takeRequest u.view p .byPreference .follow w₀ = (w, answer)

/-- The notices raised behind the walks of the request: its answer, and the fault of a route that it abandoned (R59, R62). -/
def noticesBehind (p : Pos) (answer : Answer) (w : Work) : List Raised :=
  followNotice p answer :: w.abandonFaults.map fun p => .route p .fault none

section
variable {u t : State} {p : Pos} {w₀ w : Work} {answer : Answer}

theorem Follows.taken (f : Follows u t p w₀) (h : Takes u p w₀ w answer) :
    t.blocks = (close u.view w).toBlocks ∧ Reports u t ((close u.view w).raised ++ noticesBehind p answer w) := by
  have reports := f.reports
  rw [followRequest_raised, request_of_admitted f.admitted, h] at reports
  exact ⟨by rw [f.blocks, followRequest_blocks, request_of_admitted f.admitted, h], reports⟩

/-- The answer of the request is told last, when no fault follows it (R62). -/
theorem Follows.told (f : Follows u t p w₀) (h : Takes u p w₀ w answer) (noFault : w.abandonFaults = [])
    {cause : RouteCause} {a : Option Answer} (notice : followNotice p answer = .route p cause a)
    (few : (u.port p).notices.length ≤ 4) : holdsNotice t p fun n => decide (n = routeNotice t.blocks p cause a) := by
  refine (f.taken h).2.route ?_ few (decide_eq_true rfl)
  rw [noticesBehind, noFault, notice]
  exact lastOf_concat _ _ _

/-- The fault of the route that the request abandoned is told last (R59). -/
theorem Follows.faultTold (f : Follows u t p w₀) (h : Takes u p w₀ w answer) (fault : w.abandonFaults = [p])
    (few : (u.port p).notices.length ≤ 4) : holdsNotice t p fun n => decide (n = routeNotice t.blocks p .fault none) := by
  refine (f.taken h).2.route ?_ few (decide_eq_true rfl)
  rw [noticesBehind, fault, List.append_cons]
  exact lastOf_concat _ _ _

/-- The request is an event of its position alone. -/
theorem Follows.event (f : Follows u t p w₀) (h : Takes u p w₀ w answer) (touches : Touches p w₀ w)
    (permit : PermitKept p w₀ w ∨ ∃ r, PermitTaken u.view p r w₀ w) (consistent : heldConsistent u)
    (reserved : reservedInTransition u) (own : p ∈ w.routes.held → ∃ r, HeldReady u.view w p r)
    (heldList : w.routes.held.Sublist ((u.held.filter fun q => decide (q ≠ p)) ++ [p]))
    (faults : ∀ q ∈ w.abandonFaults, q = p) : OwnEvent u t p w₀ w (noticesBehind p answer w) where
  view := f.view
  clean := f.clean
  start := f.start
  touches := touches
  permit := permit
  heldConsistent := consistent
  reserved := reserved
  own := own
  heldList := heldList
  blocks := (f.taken h).1
  behind n hn := by
    rcases List.mem_cons.1 hn with rfl | hn
    · exact followNotice_isRouteOf p answer
    · obtain ⟨q, hq, rfl⟩ := List.mem_map.1 hn
      exact faults q hq
  reports := (f.taken h).2

/-! ### A position with no transition -/

/-- The work once a HELD request of `p`, which has no transition, is dropped (R48). -/
theorem Follows.dropped (f : Follows u t p w₀) (consistent : heldConsistent u) (none : (u.context p).transition = none) :
    (dropHeld p w₀).routes.contexts.get p = { u.context p with slot := Option.none } ∧
      (dropHeld p w₀).routes.held = u.held.filter (fun q => decide (q ≠ p)) ∧
      ((dropHeld p w₀).heldWalk = true ↔ (u.context p).slot ≠ Option.none) := by
  obtain ⟨member, statuses, -⟩ := consistent.2 p
  have context : w₀.routes.contexts.get p = u.context p := by rw [f.start]
  have held : w₀.routes.held = u.held := by rw [f.start]
  cases slot : (u.context p).slot with
  | none =>
    have out : p ∉ u.held := fun h => by simp [slot] at member; exact member h
    rw [dropHeld_of_none (by rw [context, slot]), context, held, f.clean.heldWalk]
    exact ⟨by rw [← slot], (List.filter_eq_self.2 fun q hq => by simpa using fun e : q = p => out (e ▸ hq)).symm, by simp⟩
  | some r =>
    have status : r.status = .held := by
      cases h : r.status with
      | held => rfl
      | latched => exact absurd none ((statuses r slot).2 h)
    rw [dropHeld_of_held (by rw [context, slot]) status]
    exact ⟨(put_get_same _ _ _).trans (by rw [Work.context_eq, context]), by simp [held], by simp⟩

theorem dropHeld_kept (p : Pos) (w : Work) : PermitKept p w (dropHeld p w) ∧ (dropHeld p w).waitingWalk = w.waitingWalk := by
  have frame := dropHeld_frame p w
  obtain ⟨-, -, -, -, gate, raised, walk, -, -, ended, -⟩ := frame
  exact ⟨permitKept_of_eq gate ended (walk ▸ id) raised, walk⟩

theorem dropHeld_selection {v : View} {p : Pos} {w : Work} (kind : RequestKind)
    (antenna : ((dropHeld p w).context p).antenna = (w.context p).antenna) :
    selection v (dropHeld p w).toBlocks p kind = selection v w.toBlocks p kind :=
  (touches_dropHeld p w).selection v kind antenna

end

end Sys2Proof.Proofs.Following

/-!
SUPPORT. The FOLLOW request of a position with no transition, selected at once (R48, R62, R67).
-/
namespace Sys2Proof.Proofs.Following
open Sys2Proof Sys2Proof.Machine Sys2Proof.Proofs.Delivery Sys2Proof.Proofs.Selecting Sys2Proof.Proofs.Acting
open Sys2Proof.Proofs.Closing

/-- What a FOLLOW request of this outcome does for a position with no transition and an empty slot (R48). -/
def atOnce (v : View) (p : Pos) (sel : Selection) (d : Work) : Work :=
  match sel with
  | .refused _ => d
  | .current => d
  | .target a => startTransition v p .byPreference .follow a (d.context p).state d
  | .held => placeHeld p .byPreference .follow d

/-- The antenna that a request of this outcome reserves (R67). -/
def reserves : Selection → Option Ant
  | .target n => n
  | .current => none
  | .held => none
  | .refused _ => none

theorem touches_atOnce (v : View) (p : Pos) (sel : Selection) (d : Work) : Touches p d (atOnce v p sel d) := by
  cases sel with
  | refused r => exact Touches.refl p d
  | current => exact Touches.refl p d
  | target a => exact touches_startTransition ..
  | held => exact touches_placeHeld ..

theorem atOnce_permit (v : View) (p : Pos) (sel : Selection) (d : Work) :
    (PermitKept p d (atOnce v p sel d) ∧ (atOnce v p sel d).waitingWalk = d.waitingWalk) ∨
      PermitTaken v p .switching d (atOnce v p sel d) := by
  cases sel with
  | refused r => exact .inl ⟨PermitKept.refl p d, rfl⟩
  | current => exact .inl ⟨PermitKept.refl p d, rfl⟩
  | held => exact .inl ⟨permitKept_of_eq rfl rfl id rfl, rfl⟩
  | target a =>
    cases on : isOn d.toBlocks p with
    | true => exact .inr (startTransition_taken on)
    | false => exact .inl (startTransition_kept on)

theorem atOnce_owed (v : View) (p : Pos) (sel : Selection) (d : Work) :
    (atOnce v p sel d).heldWalk = d.heldWalk ∧ (atOnce v p sel d).abandonFaults = d.abandonFaults := by
  cases sel with
  | refused r => exact ⟨rfl, rfl⟩
  | current => exact ⟨rfl, rfl⟩
  | held => exact ⟨rfl, rfl⟩
  | target a =>
    have frame := startTransition_frame v p .byPreference .follow a (d.context p).state d
    exact ⟨frame.2.2.2.2.2.2.2.1, frame.2.2.2.2.2.2.2.2.2.1⟩

theorem atOnce_occupants (v : View) (p : Pos) (sel : Selection) (d : Work) (a : Ant) :
    ((atOnce v p sel d).routes.antennas.get a).occupants =
      reservedAtEnd p (reserves sel) a (d.routes.antennas.get a).occupants := by
  cases sel with
  | refused r => rfl
  | current => rfl
  | held => rfl
  | target n => exact startTransition_occupants ..

theorem atOnce_held (v : View) (p : Pos) (sel : Selection) (d : Work) : (atOnce v p sel d).routes.held =
    if sel = .held then d.routes.held ++ [p] else d.routes.held := by
  cases sel with
  | refused r => rfl
  | current => rfl
  | held => rfl
  | target a => exact (startTransition_frame ..).2.2.1

/-- A FOLLOW request is put to selection over the work in which its HELD request is dropped (R48). -/
theorem actOnSelection_follow (v : View) (p : Pos) (d : Work) : actOnSelection v p .byPreference .follow d =
    (atOnce v p (selection v d.toBlocks p .byPreference) d, (selection v d.toBlocks p .byPreference).answer) := by
  unfold actOnSelection
  cases selection v d.toBlocks p .byPreference with
  | refused r => rfl
  | target a => rfl
  | held => rfl
  | current => exact if_neg fun h => by simp at h

section
variable {u t : State} {p : Pos} {w₀ : Work} {sel : Selection}

theorem Follows.takesAtOnce (f : Follows u t p w₀) (consistent : heldConsistent u) (none : (u.context p).transition = none)
    (outcome : sel = selection u.view u.blocks p .byPreference) :
    Takes u p w₀ (atOnce u.view p sel (dropHeld p w₀)) sel.answer := by
  have context : w₀.context p = u.context p := by rw [Work.context_eq, f.start]
  have same : selection u.view (dropHeld p w₀).toBlocks p .byPreference = sel := by
    rw [dropHeld_selection, f.start, outcome]
    rw [Work.context_eq, (f.dropped consistent none).1, context]
  rw [Takes, takeRequest, context, none]
  dsimp only
  rw [actOnSelection_follow, same]

theorem Follows.noFaultAtOnce (f : Follows u t p w₀) : (atOnce u.view p sel (dropHeld p w₀)).abandonFaults = [] := by
  rw [(atOnce_owed ..).2, (dropHeld_frame p w₀).2.2.2.2.2.2.2.2.2.2.1, f.clean.abandonFaults]

/-- A request that is selected at once is told of, whatever it comes to (R62). -/
theorem Follows.toldAtOnce (f : Follows u t p w₀) (none : (u.context p).transition = none)
    (few : (u.port p).notices.length ≤ 4) : holdsNotice t p fun n => n.isRoute p .follow || n.isRoute p .refused := by
  have context : w₀.context p = u.context p := by rw [Work.context_eq, f.start]
  have takes : Takes u p w₀ (atOnce u.view p (selection u.view (dropHeld p w₀).toBlocks p .byPreference) (dropHeld p w₀))
      (selection u.view (dropHeld p w₀).toBlocks p .byPreference).answer := by
    rw [Takes, takeRequest, context, none]
    dsimp only
    rw [actOnSelection_follow]
  obtain ⟨n, held, same⟩ := List.any_eq_true.1 (f.told takes f.noFaultAtOnce (followNotice_answer p _) few)
  refine List.any_eq_true.2 ⟨n, held, ?_⟩
  rw [of_decide_eq_true same]
  cases selection u.view (dropHeld p w₀).toBlocks p .byPreference <;> simp [routeNotice, Notice.isRoute, Selection.followCause]

theorem Follows.permitAtOnce (_ : Follows u t p w₀) :
    (PermitKept p w₀ (atOnce u.view p sel (dropHeld p w₀)) ∧
        (atOnce u.view p sel (dropHeld p w₀)).waitingWalk = w₀.waitingWalk) ∨
      PermitTaken u.view p .switching w₀ (atOnce u.view p sel (dropHeld p w₀)) := by
  obtain ⟨kept, walk⟩ := dropHeld_kept p w₀
  exact (atOnce_permit u.view p sel (dropHeld p w₀)).imp (fun h => ⟨kept.trans h.1, h.2.trans walk⟩) kept.trans_taken

/-- A HELD request that the event has placed is ready for the held walk. -/
theorem Follows.readyAtOnce (f : Follows u t p w₀) (consistent : heldConsistent u) (none : (u.context p).transition = none)
    (outcome : .held = selection u.view u.blocks p .byPreference) :
    HeldReady u.view (placeHeld p .byPreference .follow (dropHeld p w₀)) p ⟨.byPreference, .held, .follow⟩ ∧
      selection u.view (placeHeld p .byPreference .follow (dropHeld p w₀)).toBlocks p .byPreference = .held := by
  obtain ⟨context, -, -⟩ := f.dropped consistent none
  have placed : (placeHeld p .byPreference .follow (dropHeld p w₀)).routes.contexts.get p =
      { (dropHeld p w₀).routes.contexts.get p with slot := some ⟨.byPreference, .held, .follow⟩ } := put_get_same _ _ _
  have sel : selection u.view (placeHeld p .byPreference .follow (dropHeld p w₀)).toBlocks p .byPreference = .held := by
    rw [((touches_dropHeld p w₀).trans (touches_placeHeld p .byPreference .follow _)).selection u.view .byPreference ?_,
      f.start, ← outcome]
    rw [Work.context_eq, placed, context, Work.context_eq, f.start]
  exact ⟨⟨by rw [placed], rfl, by rw [placed, context]; exact none, .inl sel⟩, sel⟩

theorem Follows.eventAtOnce (f : Follows u t p w₀) (consistent : heldConsistent u) (reserved : reservedInTransition u)
    (none : (u.context p).transition = none) (outcome : sel = selection u.view u.blocks p .byPreference) :
    OwnEvent u t p w₀ (atOnce u.view p sel (dropHeld p w₀))
      (noticesBehind p sel.answer (atOnce u.view p sel (dropHeld p w₀))) := by
  obtain ⟨-, held, -⟩ := f.dropped consistent none
  have list := atOnce_held u.view p sel (dropHeld p w₀)
  refine f.event (f.takesAtOnce consistent none outcome) ((touches_dropHeld p w₀).trans (touches_atOnce ..))
    (f.permitAtOnce.imp And.left fun taken => ⟨_, taken⟩) consistent reserved (fun own => ?_) ?_
    (by simp [f.noFaultAtOnce])
  · by_cases h : sel = .held
    · subst h
      exact ⟨_, (f.readyAtOnce consistent none outcome).1⟩
    · simp [list, h, held] at own
  · rw [list, held]
    split
    · exact List.Sublist.refl _
    · exact List.sublist_append_left _ _

theorem Follows.outAtOnce (f : Follows u t p w₀) (consistent : heldConsistent u) (none : (u.context p).transition = none)
    (notHeld : sel ≠ .held) : p ∉ (atOnce u.view p sel (dropHeld p w₀)).routes.held := by
  simp [atOnce_held, notHeld, (f.dropped consistent none).2.1]

theorem Follows.ownAtOnce (f : Follows u t p w₀) (consistent : heldConsistent u) (reserved : reservedInTransition u)
    (none : (u.context p).transition = none) (outcome : sel = selection u.view u.blocks p .byPreference) :
    OwnKept t p (atOnce u.view p sel (dropHeld p w₀)) := by
  have e := f.eventAtOnce consistent reserved none outcome
  by_cases h : sel = .held
  · subst h
    obtain ⟨ready, held⟩ := f.readyAtOnce consistent none outcome
    exact e.ownKept_of_held ready (List.mem_append_right _ List.mem_cons_self) held
  · exact e.ownKept_of_notMem (f.outAtOnce consistent none h)

/-- A request that finds a target starts its transition (R67). -/
theorem Follows.startedAtOnce (f : Follows u t p w₀) (consistent : heldConsistent u) (reserved : reservedInTransition u)
    (none : (u.context p).transition = none) {a : Option Ant}
    (outcome : .target a = selection u.view u.blocks p .byPreference) :
    (∃ due, t.context p = { u.context p with
      slot := .none, state := .switching
      transition := some (waitRecord u.bank (u.context p).antenna a .byPreference .follow (u.context p).state due) }) ∧
      startExamined u t p := by
  have e := f.eventAtOnce consistent reserved none outcome
  obtain ⟨context, -, -⟩ := f.dropped consistent none
  have started : (atOnce u.view p (.target a) (dropHeld p w₀)).routes.contexts.get p = { u.context p with
      slot := .none, state := .switching
      transition := some (waitRecord u.bank (u.context p).antenna a .byPreference .follow (u.context p).state false) } := by
    have state : ((dropHeld p w₀).context p).state = (u.context p).state := by
      rw [Work.context_eq, context]
    rw [atOnce, startTransition_contexts, put_get_same, state, context]
    simp only [Cause.forced, Bool.or_false]
    rfl
  obtain ⟨⟨due, final⟩, examined⟩ := e.ownExamined (f.outAtOnce consistent none (by simp)) (by rw [started]) rfl rfl
    (by rw [atOnce, startTransition_examine]; exact List.mem_cons_self)
  exact ⟨⟨due, by rw [final, started]; rfl⟩, examined⟩

/-- What a FOLLOW request leaves of its own position when it is selected at once (R48, R67). -/
theorem Follows.actedAtOnce (f : Follows u t p w₀) (consistent : heldConsistent u) (reserved : reservedInTransition u)
    (none : (u.context p).transition = none) (outcome : sel = selection u.view u.blocks p .byPreference) :
    actedOn sel u.bank t p { u.context p with slot := .none } .byPreference .follow ∧ startExamined u t p := by
  obtain ⟨context, held, -⟩ := f.dropped consistent none
  have own := f.ownAtOnce consistent reserved none outcome
  have list : p ∈ t.held ↔ sel = .held := by
    rw [own.held, atOnce_held, held]
    by_cases h : sel = .held <;> simp [h]
  have examined_of_still (h : (t.context p).transition = .none) : startExamined u t p := fun tr htr => by simp [h] at htr
  cases sel with
  | refused r =>
    have final : t.context p = { u.context p with slot := .none } := (own.still (by rw [atOnce, context]; exact none)).trans context
    exact ⟨⟨fun _ _ => final, by simp, by simp, by simp, list⟩, examined_of_still (by rw [final]; exact none)⟩
  | current =>
    have final : t.context p = { u.context p with slot := .none } := (own.still (by rw [atOnce, context]; exact none)).trans context
    exact ⟨⟨by simp, fun _ => by simp [final], by simp, by simp, list⟩, examined_of_still (by rw [final]; exact none)⟩
  | held =>
    have placed : (atOnce u.view p .held (dropHeld p w₀)).routes.contexts.get p =
        { u.context p with slot := some ⟨.byPreference, .held, .follow⟩ } := by
      refine (put_get_same _ _ _).trans ?_
      rw [Work.context_eq, context]
    have final := (own.still (by rw [placed]; exact none)).trans placed
    exact ⟨⟨by simp, by simp, by simp, fun _ => final, list⟩, examined_of_still (by rw [final]; exact none)⟩
  | target a =>
    obtain ⟨⟨due, final⟩, examined⟩ := f.startedAtOnce consistent reserved none outcome
    refine ⟨⟨by simp, by simp, fun n hn => ?_, by simp, list⟩, examined⟩
    obtain rfl : a = n := Selection.target.inj hn
    have antenna : ((dropHeld p w₀).context p).antenna = (u.context p).antenna := by
      rw [Work.context_eq, context]
    refine ⟨⟨_, by rw [final]; exact rfl, rfl, final⟩, ?_, fun o ho => ?_⟩
    · rintro n rfl
      refine ⟨(own.reserved n).2 ?_, ?_, ?_⟩
      · rw [atOnce_occupants, reservedAtEnd, reserves, if_pos rfl]
        exact List.mem_append_right _ List.mem_cons_self
      · rw [own.holds, atOnce, startTransition_holds]
        simp
      · rw [own.claims, atOnce, startTransition_reserved]
        rfl
    · have ho : (u.context p).antenna = some o := ho
      rw [own.holds, atOnce, startTransition_holds, antenna]
      simp [ho]

/-- The FOLLOW request of a position with no transition (R48, R62, R67). -/
theorem Follows.atOnce_followed (f : Follows u t p w₀) (outcome : sel = selection u.view u.blocks p .byPreference)
    (none : (u.context p).transition = none) (consistent : heldConsistent u) (reserved : reservedInTransition u) :
    actedOn sel u.bank t p { u.context p with slot := .none } .byPreference .follow ∧ startExamined u t p ∧
      reservedLast u t p sel ∧ ((u.context p).slot ≠ .none → heldWalked u t p) ∧
      othersKept u t (ownOrWalked u p ((u.context p).slot ≠ .none)) ∧ walkedIfWithdrawn u t ∧
      (∀ a, sel = .target a → (u.key p).state = .on → withdrawnAs u.bank u t p .switching .none) ∧
      ((u.port p).notices.length ≤ 4 → holdsNotice t p fun n =>
        decide (n = routeNotice t.blocks p sel.followCause (some sel.answer))) := by
  have e := f.eventAtOnce consistent reserved none outcome
  obtain ⟨acted, examined⟩ := f.actedAtOnce consistent reserved none outcome
  have owed : (atOnce u.view p sel (dropHeld p w₀)).heldWalk = true ↔ (u.context p).slot ≠ .none := by
    rw [(atOnce_owed ..).1, (f.dropped consistent none).2.2]
  obtain ⟨held, others, waiting⟩ := e.others_of_walkOwed owed (f.permitAtOnce.imp_right fun taken => ⟨_, taken⟩)
  have places : placesKept u t p fun a => reservedAtEnd p (reserves sel) a (u.antenna a).occupants := by
    refine e.placesKept fun a => ?_
    rw [atOnce_occupants, (dropHeld_frame p w₀).2.2.1, State.antenna, ← f.start]
  refine ⟨acted, examined, ?_, held, others, waiting, ?_, fun few =>
    f.told (f.takesAtOnce consistent none outcome) f.noFaultAtOnce (followNotice_answer p sel) few⟩
  · cases sel <;> exact places
  · rintro a rfl on
    refine e.ownWithdrawn (f.outAtOnce consistent none (by simp)) (f.permitAtOnce.resolve_left fun kept => ?_) on
    have isOn : isOn w₀.toBlocks p = true := by simpa [isOn, f.start] using on
    have taken := (dropHeld_kept p w₀).1.trans_taken (startTransition_taken (v := u.view) (kind := .byPreference)
      (cause := .follow) (target := a) (start := ((dropHeld p w₀).context p).state)
      ((dropHeld_kept p w₀).1.isOn.trans isOn))
    have off := taken.off
    rw [kept.1.isOn.symm.trans off] at isOn
    simp at isOn

end

end Sys2Proof.Proofs.Following

/-!
SUPPORT. The FOLLOW request of a position whose transition is in WAIT, and of one behind any other transition (R49, R50, R59, R74,
R75).
-/
namespace Sys2Proof.Proofs.Following
open Sys2Proof Sys2Proof.Machine Sys2Proof.Proofs.Delivery Sys2Proof.Proofs.Selecting Sys2Proof.Proofs.Acting
open Sys2Proof.Proofs.Closing

/-! ### What the request comes to -/

/-- The work in which a FOLLOW request is placed in the slot of `p`: HELD with no transition, else LATCHED (R49). -/
def placed (p : Pos) (w : Work) : Work :=
  if (w.context p).transition = none then placeHeld p .byPreference .follow w else placeLatched p .byPreference .follow w

/-- What a FOLLOW request of this outcome does for a position whose transition `tr` is in WAIT (R49). -/
def inWait (v : View) (p : Pos) (tr : Transition) (sel : Selection) (w : Work) : Work :=
  match sel with
  | .refused _ => w
  | .target a =>
    if a = tr.target then w.setContext p { w.context p with transition := some { tr with cause := .follow } }
    else replaceTarget v p tr .byPreference .follow a w
  | .current => abandon v p w
  | .held => placed p (abandon v p w)

theorem takeInWait_follow (v : View) (p : Pos) (tr : Transition) (w : Work) :
    takeInWait v p tr .byPreference .follow w =
      (inWait v p tr (selection v w.toBlocks p .byPreference) w, (selection v w.toBlocks p .byPreference).answer) := by
  unfold takeInWait
  cases selection v w.toBlocks p .byPreference with
  | refused r => rfl
  | current => rfl
  | target a =>
    dsimp only [inWait]
    split <;> rfl
  | held =>
    dsimp only [inWait, placed]
    split <;> rfl

/-- A change of one context of a clean work owes nothing. -/
theorem clean_setContext {w : Work} (h : Clean w) (p : Pos) (c : Context) : Clean (w.setContext p c) :=
  ⟨h.heldWalk, h.waitingWalk, h.examineAll, h.examine, h.ended, h.abandonFaults, h.noAlls⟩

section
variable {u t : State} {p : Pos} {w₀ : Work} {sel : Selection} {tr : Transition}

theorem Follows.context (f : Follows u t p w₀) : w₀.context p = u.context p := by rw [Work.context_eq, f.start]

/-- A request that changes one context of the clean work, and owes nothing, leaves just that. -/
theorem Follows.blocks_of_setContext (f : Follows u t p w₀) {answer : Answer} {c : Context}
    (h : Takes u p w₀ (w₀.setContext p c) answer) : t.blocks = (u.withContext p c).blocks := by
  rw [(f.taken h).1, (close_of_clean (clean_setContext f.clean p c) u.view).1, State.withContext, ← f.start]
  rfl

/-! ### Behind a transition that is not in WAIT, or is forced (R50) -/

theorem Follows.latched (f : Follows u t p w₀) (at' : tr ∈ (u.context p).transition)
    (other : ¬ (tr.phase = .wait ∧ tr.cause.forced = false)) :
    t.blocks = (u.withContext p { u.context p with slot := some ⟨.byPreference, .latched, .follow⟩ }).blocks ∧
      ((u.port p).notices.length ≤ 4 → holdsNotice t p fun n =>
        decide (n = routeNotice t.blocks p .follow (some (.accepted .latched)))) := by
  have takes : Takes u p w₀ (w₀.setContext p { u.context p with slot := some ⟨.byPreference, .latched, .follow⟩ })
      (.accepted .latched) := by
    rw [Takes, takeRequest, f.context, Option.mem_def.1 at']
    dsimp only
    rw [if_neg other, placeLatched, f.context]
  exact ⟨f.blocks_of_setContext takes, fun few => f.told takes f.clean.abandonFaults rfl few⟩

/-! ### In WAIT (R49) -/

/-- The FOLLOW request of `p` finds its transition `tr` in WAIT, not forced. -/
structure InWait (u : State) (p : Pos) (tr : Transition) : Prop where
  transition : tr ∈ (u.context p).transition
  wait : tr.phase = .wait
  unforced : tr.cause.forced = false
  consistent : heldConsistent u
  reserved : reservedInTransition u

theorem InWait.empty (i : InWait u p tr) : (u.context p).slot = none :=
  (i.consistent.2 p).2.2 tr i.transition i.wait i.unforced

theorem InWait.out (i : InWait u p tr) : p ∉ u.held := fun h => by
  obtain ⟨r, slot, -⟩ := (i.consistent.2 p).1.1 h
  simp [i.empty] at slot

theorem InWait.others_held (i : InWait u p tr) : u.held.filter (fun q => decide (q ≠ p)) = u.held :=
  List.filter_eq_self.2 fun q hq => by simpa using fun e : q = p => i.out (e ▸ hq)

theorem Follows.takesInWait (f : Follows u t p w₀) (i : InWait u p tr)
    (outcome : sel = selection u.view u.blocks p .byPreference) : Takes u p w₀ (inWait u.view p tr sel w₀) sel.answer := by
  rw [Takes, takeRequest, f.context, Option.mem_def.1 i.transition]
  dsimp only
  rw [if_pos ⟨i.wait, i.unforced⟩, takeInWait_follow, f.start, ← outcome]

/-- Refused, or for the target it has, the transition carries on (R49). -/
theorem Follows.carriesOn (f : Follows u t p w₀) (i : InWait u p tr)
    (outcome : sel = selection u.view u.blocks p .byPreference) :
    (∀ r, sel = .refused r → t.blocks = (u.withContext p (u.context p)).blocks) ∧
      (sel = .target tr.target →
        t.blocks = (u.withContext p { u.context p with transition := some { tr with cause := .follow } }).blocks) := by
  have takes := f.takesInWait i outcome
  refine ⟨?_, ?_⟩
  · rintro r rfl
    have same : w₀.setContext p (u.context p) = w₀ := by
      rw [← f.context]
      simp [Work.setContext]
    exact f.blocks_of_setContext (answer := .refused r) (by rw [same]; exact takes)
  · rintro rfl
    refine f.blocks_of_setContext (answer := .accepted .started) ?_
    rw [inWait, if_pos rfl, f.context] at takes
    exact takes

/-! ### Another target (R75) -/

theorem Follows.eventReplaced (f : Follows u t p w₀) (i : InWait u p tr) {a : Option Ant}
    (outcome : .target a = selection u.view u.blocks p .byPreference) (other : a ≠ tr.target) :
    OwnEvent u t p w₀ (replaceTarget u.view p tr .byPreference .follow a w₀)
      (noticesBehind p (.accepted .started) (replaceTarget u.view p tr .byPreference .follow a w₀)) := by
  have takes := f.takesInWait i outcome
  rw [inWait, if_neg other] at takes
  have frame := replaceTarget_frame u.view p tr .byPreference .follow a w₀
  have held : (replaceTarget u.view p tr .byPreference .follow a w₀).routes.held = u.held := by
    rw [frame.2.2.1, f.start]
  refine f.event takes (touches_replaceTarget ..) (.inl (replaceTarget_permit ..)) i.consistent i.reserved
    (fun h => absurd (held ▸ h) i.out) ?_ ?_
  · rw [held, i.others_held]
    exact List.sublist_append_left _ _
  · rw [frame.2.2.2.2.2.2.2.2.2.1, f.clean.abandonFaults]
    simp

/-- The FOLLOW request for another target replaces that of the transition (R75). -/
theorem Follows.replacesTarget (f : Follows u t p w₀) (i : InWait u p tr) {a : Option Ant}
    (outcome : .target a = selection u.view u.blocks p .byPreference) (other : a ≠ tr.target) :
    (∃ tr' ∈ (t.context p).transition, tr' = { tr with
        target := a, kind := .byPreference, cause := .follow
        quietTimer := some (u.bank.timing.quietWaitS * 1000), due := tr'.due } ∧
      t.context p = { u.context p with transition := some tr' }) ∧ startExamined u t p ∧
    (∀ o ∈ tr.target, p ∉ (t.antenna o).reservations ∧ (tr.old ≠ some o → (t.antenna o).holds.get p = false)) ∧
    (∀ n ∈ a, p ∈ (t.antenna n).reservations ∧ (t.antenna n).holds.get p = true ∧
      (t.claims p).reserved = (path u.bank p n).claims) ∧
    (a = none → (t.claims p).reserved = []) ∧ (t.claims p).effective = (u.claims p).effective ∧
    placesKept u t p (fun n => reservedAtEnd p a n (u.placesLess p .reserving tr.target n)) ∧
    ((u.key p).state = .on → t.key p = u.key p) ∧ heldWalked u t p ∧ othersKept u t (ownOrWalked u p True) ∧
    (gateConsistent u → walked u t) := by
  have e := f.eventReplaced i outcome other
  have frame := replaceTarget_frame u.view p tr .byPreference .follow a w₀
  have out : p ∉ (replaceTarget u.view p tr .byPreference .follow a w₀).routes.held := by
    rw [frame.2.2.1, f.start]
    exact i.out
  have own := e.ownKept_of_notMem out
  have context : (replaceTarget u.view p tr .byPreference .follow a w₀).routes.contexts.get p =
      { u.context p with transition := some (replaced u.view tr .byPreference .follow a) } := by
    rw [replaceTarget_context, f.start]
  have occupants (n : Ant) : ((replaceTarget u.view p tr .byPreference .follow a w₀).routes.antennas.get n).occupants =
      reservedAtEnd p a n (u.placesLess p .reserving tr.target n) := by
    rw [replaceTarget_occupants, f.start]
    rfl
  obtain ⟨heldWalk, waitingWalk, examine⟩ := replaceTarget_owed u.view p tr .byPreference .follow a w₀
  obtain ⟨held, others, walks⟩ := e.others_of_walks heldWalk waitingWalk
  obtain ⟨⟨due, final⟩, examined⟩ := e.ownExamined out
    (tr := replaced u.view tr .byPreference .follow a) (by rw [context]) i.wait rfl examine
  rw [context] at final
  refine ⟨⟨_, congrArg Context.transition final, rfl, final⟩, examined, fun o ho => ⟨?_, fun notOld => ?_⟩,
    fun n hn => ⟨?_, ?_, ?_⟩, fun none => ?_, e.effective_kept own, e.placesKept occupants, fun on => ?_, held, others, walks⟩
  · have notHere : a ≠ some o := fun e => other (e.trans ho.symm)
    rw [own.reserved, occupants, reservedAtEnd, if_neg notHere, Option.mem_def.1 ho]
    exact notMem_unreserved
  · have notHere : a ≠ some o := fun e => other (e.trans ho.symm)
    rw [own.holds, replaceTarget_holds, untargeted_holds p tr w₀ ho notOld]
    simp [notHere]
  · obtain rfl := Option.mem_def.1 hn
    rw [own.reserved, occupants, reservedAtEnd, if_pos rfl]
    exact List.mem_append_right _ List.mem_cons_self
  · obtain rfl := Option.mem_def.1 hn
    rw [own.holds, replaceTarget_holds]
    simp
  · obtain rfl := Option.mem_def.1 hn
    rw [own.claims, replaceTarget_reserved]
    rfl
  · subst none
    obtain ⟨o, ho⟩ := Option.ne_none_iff_exists'.1 other.symm
    rw [own.claims, replaceTarget_reserved_none _ _ _ _ _ _ ho]
  · have key : (heldWalkIfOwed u.view (replaceTarget u.view p tr .byPreference .follow a w₀)).gate.keys.get p = u.key p := by
      rw [(e.ownSpared out).permit.key, (replaceTarget_permit ..).key, f.start]
    rw [e.closed.key_of_not_waiting (e.closed.not_waiting (by simp [on])), key]

end

end Sys2Proof.Proofs.Following

/-!
SUPPORT. The FOLLOW request that abandons the transition of its position in WAIT (R49, R59, R74).
-/
namespace Sys2Proof.Proofs.Following
open Sys2Proof Sys2Proof.Machine Sys2Proof.Proofs.Delivery Sys2Proof.Proofs.Selecting Sys2Proof.Proofs.Acting
open Sys2Proof.Proofs.Closing

/-! ### The request that stays behind an abandonment (R49) -/

/-- The slot of a FOLLOW request of this outcome that stays behind with this status. -/
def slotOf (sel : Selection) (status : PendingStatus) : Option PendingRequest :=
  if sel = .held then some ⟨.byPreference, status, .follow⟩ else none

/-- A held request is placed HELD, any other leaves nothing behind. -/
def keepHeld (p : Pos) (sel : Selection) (w : Work) : Work :=
  if sel = .held then placeHeld p .byPreference .follow w else w

/-- A held request is placed LATCHED, any other leaves nothing behind. -/
def keepLatched (p : Pos) (sel : Selection) (w : Work) : Work :=
  if sel = .held then placeLatched p .byPreference .follow w else w

section
variable (p : Pos) (sel : Selection) (w : Work)

theorem keepHeld_frame : (keepHeld p sel w).routes.antennas = w.routes.antennas ∧ (keepHeld p sel w).image = w.image ∧
    (keepHeld p sel w).gate = w.gate ∧ (keepHeld p sel w).raised = w.raised ∧ (keepHeld p sel w).ended = w.ended ∧
    (keepHeld p sel w).heldWalk = w.heldWalk ∧ (keepHeld p sel w).waitingWalk = w.waitingWalk ∧
    (keepHeld p sel w).abandonFaults = w.abandonFaults := by
  unfold keepHeld
  split <;> simp

theorem keepLatched_frame : (keepLatched p sel w).routes.antennas = w.routes.antennas ∧
    (keepLatched p sel w).image = w.image ∧ (keepLatched p sel w).gate = w.gate ∧ (keepLatched p sel w).raised = w.raised ∧
    (keepLatched p sel w).ended = w.ended ∧ (keepLatched p sel w).heldWalk = w.heldWalk ∧
    (keepLatched p sel w).waitingWalk = w.waitingWalk ∧ (keepLatched p sel w).abandonFaults = w.abandonFaults ∧
    (keepLatched p sel w).routes.held = w.routes.held ∧ (keepLatched p sel w).examine = w.examine := by
  unfold keepLatched
  split <;> simp

theorem touches_keepHeld : Touches p w (keepHeld p sel w) := by
  unfold keepHeld
  split
  · exact touches_placeHeld ..
  · exact Touches.refl p w

theorem touches_keepLatched : Touches p w (keepLatched p sel w) := by
  unfold keepLatched
  split
  · exact touches_placeLatched ..
  · exact Touches.refl p w

theorem keepHeld_held : (keepHeld p sel w).routes.held = if sel = .held then w.routes.held ++ [p] else w.routes.held := by
  unfold keepHeld
  split <;> rfl

variable {w}

theorem keepHeld_context (empty : (w.routes.contexts.get p).slot = none) :
    (keepHeld p sel w).routes.contexts.get p = { w.routes.contexts.get p with slot := slotOf sel .held } := by
  unfold keepHeld slotOf
  split
  · exact put_get_same _ _ _
  · rw [← empty]

theorem keepLatched_context (empty : (w.routes.contexts.get p).slot = none) :
    (keepLatched p sel w).routes.contexts.get p = { w.routes.contexts.get p with slot := slotOf sel .latched } := by
  unfold keepLatched slotOf
  split
  · exact put_get_same _ _ _
  · rw [← empty]

end

/-! ### What the abandonment comes to -/

/-- The abandonment of `tr` goes on into a fault of the route of `p` (R59). -/
def FaultsRoute (w : Work) (p : Pos) (tr : Transition) : Prop := tr.start = .routed ∧ latchedRoute w.toBlocks p = true

/-- The work in which the route of `p` is faulted behind its abandonment (R58, R59). -/
def freedIntoFault (v : View) (p : Pos) (tr : Transition) (w : Work) : Work :=
  { faultRoute v p (freed p tr w) with abandonFaults := w.abandonFaults ++ [p] }

section
variable {v : View} {p : Pos} {tr : Transition} {w : Work} {sel : Selection}

theorem inWait_of_freed (h : (w.routes.contexts.get p).transition = some tr) (abandons : sel = .current ∨ sel = .held)
    (sound : ¬ FaultsRoute w p tr) : inWait v p tr sel w = keepHeld p sel (freed p tr w) := by
  have abandoned : abandon v p w = freed p tr w := (abandon_eq h).trans (if_neg sound)
  rcases abandons with rfl | rfl
  · exact abandoned
  · have loose : ((freed p tr w).context p).transition = none := by rw [Work.context_eq, freed_context]
    rw [inWait, abandoned, placed, if_pos loose]
    rfl

theorem freedIntoFault_context (empty : (w.routes.contexts.get p).slot = none) :
    (freedIntoFault v p tr w).routes.contexts.get p = { w.routes.contexts.get p with
      state := .faulted, mark := true, transition := some (faultRelease v (w.routes.contexts.get p)) } := by
  have loose : ((freed p tr w).routes.contexts.get p).slot = none := by rw [freed_context, empty]
  have same : (freedIntoFault v p tr w).routes = (faultRoute v p (freed p tr w)).routes := rfl
  rw [same, faultRoute_context loose, freed_context]
  rfl

theorem inWait_of_fault (h : (w.routes.contexts.get p).transition = some tr) (abandons : sel = .current ∨ sel = .held)
    (empty : (w.routes.contexts.get p).slot = none) (fault : FaultsRoute w p tr) :
    inWait v p tr sel w = keepLatched p sel (freedIntoFault v p tr w) := by
  have abandoned : abandon v p w = freedIntoFault v p tr w := (abandon_eq h).trans (if_pos fault)
  rcases abandons with rfl | rfl
  · exact abandoned
  · have started : ((freedIntoFault v p tr w).context p).transition ≠ none := by
      rw [Work.context_eq, freedIntoFault_context empty]
      simp
    rw [inWait, abandoned, placed, if_neg started]
    rfl

end

section
variable {u t : State} {p : Pos} {w₀ w : Work} {sel : Selection} {tr : Transition} {after : List Raised}

/-- What every abandonment leaves of its own position and of the others (R74). -/
theorem abandoned_of_event (e : OwnEvent u t p w₀ w after) (own : OwnKept t p w)
    (occupants : ∀ a, (w.routes.antennas.get a).occupants = u.placesLess p .reserving tr.target a)
    (claims : ∀ o, tr.target = some o → (w.image.claims.get p).reserved = []) (heldWalk : w.heldWalk = true)
    (waitingWalk : w.waitingWalk = true) :
    (t.claims p).effective = (u.claims p).effective ∧
      (∀ o ∈ tr.target, (t.claims p).reserved = [] ∧ p ∉ (t.antenna o).reservations) ∧ heldWalked u t p ∧
      othersKept u t (ownOrWalked u p True) ∧ placesKept u t p (u.placesLess p .reserving tr.target) ∧
      (gateConsistent u → walked u t) := by
  obtain ⟨held, others, walks⟩ := e.others_of_walks heldWalk waitingWalk
  refine ⟨e.effective_kept own, fun o ho => ⟨by rw [own.claims, claims o ho], ?_⟩, held, others, e.placesKept occupants, walks⟩
  rw [own.reserved, occupants, ← unreserved_eq_placesLess, Option.mem_def.1 ho]
  exact notMem_unreserved

/-- The work of an abandonment has an empty slot, as the request found it. -/
theorem Follows.emptyInWait (f : Follows u t p w₀) (i : InWait u p tr) :
    (w₀.routes.contexts.get p).slot = none ∧ (w₀.routes.contexts.get p).transition = some tr := by
  rw [f.start]
  exact ⟨i.empty, i.transition⟩

theorem Follows.faultsRoute_iff (f : Follows u t p w₀) : FaultsRoute w₀ p tr ↔
    tr.start = .routed ∧ ∃ k ∈ (u.claims p).effective, (u.sense k.coil).latch ≠ .none := by
  simp [FaultsRoute, latchedRoute, f.start]

/-! ### An abandonment of a sound route (R74) -/

theorem freed_kept (p : Pos) (tr : Transition) (w : Work) : PermitKept p w (freed p tr w) := by
  obtain ⟨-, -, gate, raised, ended, -, -⟩ := freed_frame p tr w
  exact permitKept_of_eq gate ended (fun _ => rfl) raised

theorem Follows.freedHeld (f : Follows u t p w₀) : (keepHeld p sel (freed p tr w₀)).routes.held =
    if sel = .held then u.held ++ [p] else u.held := by
  rw [keepHeld_held, (freed_frame p tr w₀).2.1, f.start]

theorem Follows.freedContext (f : Follows u t p w₀) (i : InWait u p tr) :
    (keepHeld p sel (freed p tr w₀)).routes.contexts.get p =
      { u.context p with state := tr.start, transition := none, slot := slotOf sel .held } := by
  have loose : (freed p tr w₀).routes.contexts.get p = { u.context p with transition := none, state := tr.start } := by
    rw [freed_context, f.start]
  rw [keepHeld_context p sel (by rw [loose]; exact i.empty), loose]

/-- A HELD request behind an abandonment is ready for the held walk, which holds it back (R49, R54). -/
theorem Follows.readyFreed (f : Follows u t p w₀) (i : InWait u p tr)
    (outcome : .held = selection u.view u.blocks p .byPreference) :
    HeldReady u.view (keepHeld p .held (freed p tr w₀)) p ⟨.byPreference, .held, .follow⟩ ∧
      selection u.view (keepHeld p .held (freed p tr w₀)).toBlocks p .byPreference = .held := by
  have context := f.freedContext (sel := .held) i
  have sel : selection u.view (keepHeld p .held (freed p tr w₀)).toBlocks p .byPreference = .held := by
    rw [((touches_freed p tr w₀).trans (touches_keepHeld p .held _)).selection u.view .byPreference ?_, f.start, ← outcome]
    rw [Work.context_eq, context, f.context]
  exact ⟨⟨by rw [context]; rfl, rfl, by rw [context], .inl sel⟩, sel⟩

theorem Follows.takesFreed (f : Follows u t p w₀) (i : InWait u p tr)
    (outcome : sel = selection u.view u.blocks p .byPreference) (abandons : sel = .current ∨ sel = .held)
    (sound : ¬ FaultsRoute w₀ p tr) : Takes u p w₀ (keepHeld p sel (freed p tr w₀)) sel.answer :=
  inWait_of_freed (v := u.view) (f.emptyInWait i).2 abandons sound ▸ f.takesInWait i outcome

theorem Follows.freedFaults (f : Follows u t p w₀) : (keepHeld p sel (freed p tr w₀)).abandonFaults = [] := by
  rw [(keepHeld_frame p sel _).2.2.2.2.2.2.2, (freed_frame p tr w₀).2.2.2.2.2.2, f.clean.abandonFaults]

theorem Follows.eventFreed (f : Follows u t p w₀) (i : InWait u p tr)
    (outcome : sel = selection u.view u.blocks p .byPreference) (abandons : sel = .current ∨ sel = .held)
    (sound : ¬ FaultsRoute w₀ p tr) : OwnEvent u t p w₀ (keepHeld p sel (freed p tr w₀))
      (noticesBehind p sel.answer (keepHeld p sel (freed p tr w₀))) := by
  obtain ⟨-, -, gate, raised, ended, -, walk, -⟩ := keepHeld_frame p sel (freed p tr w₀)
  have kept : PermitKept p (freed p tr w₀) (keepHeld p sel (freed p tr w₀)) :=
    permitKept_of_eq gate ended (walk ▸ id) raised
  refine f.event (f.takesFreed i outcome abandons sound) ((touches_freed p tr w₀).trans (touches_keepHeld p sel _))
    (.inl ((freed_kept p tr w₀).trans kept)) i.consistent i.reserved (fun own => ?_) ?_ (by simp [f.freedFaults])
  · by_cases h : sel = .held
    · subst h
      exact ⟨_, (f.readyFreed i outcome).1⟩
    · rw [f.freedHeld, if_neg h] at own
      exact absurd own i.out
  · rw [f.freedHeld, i.others_held]
    split
    · exact List.Sublist.refl _
    · exact List.sublist_append_left _ _

theorem Follows.ownFreed (f : Follows u t p w₀) (i : InWait u p tr)
    (outcome : sel = selection u.view u.blocks p .byPreference) (abandons : sel = .current ∨ sel = .held)
    (sound : ¬ FaultsRoute w₀ p tr) : OwnKept t p (keepHeld p sel (freed p tr w₀)) := by
  have e := f.eventFreed i outcome abandons sound
  by_cases h : sel = .held
  · subst h
    obtain ⟨ready, held⟩ := f.readyFreed i outcome
    exact e.ownKept_of_held ready (by rw [f.freedHeld, if_pos rfl]; exact List.mem_append_right _ List.mem_cons_self) held
  · exact e.ownKept_of_notMem (by rw [f.freedHeld, if_neg h]; exact i.out)

/-- The FOLLOW request abandons the transition of a position whose route is sound (R74). -/
theorem Follows.abandonsSound (f : Follows u t p w₀) (i : InWait u p tr)
    (outcome : sel = selection u.view u.blocks p .byPreference) (abandons : sel = .current ∨ sel = .held)
    (sound : ¬ FaultsRoute w₀ p tr) :
    ((t.claims p).effective = (u.claims p).effective ∧
      (∀ o ∈ tr.target, (t.claims p).reserved = [] ∧ p ∉ (t.antenna o).reservations) ∧ heldWalked u t p ∧
      othersKept u t (ownOrWalked u p True) ∧ placesKept u t p (u.placesLess p .reserving tr.target) ∧
      (gateConsistent u → walked u t)) ∧
    t.context p = { u.context p with state := tr.start, transition := none, slot := slotOf sel .held } ∧
    (p ∈ t.held ↔ sel = .held) ∧ (∀ o ∈ tr.old, (t.antenna o).holds.get p = false) ∧
    ∀ o ∈ tr.target, (t.antenna o).holds.get p = false := by
  have own := f.ownFreed i outcome abandons sound
  have context := f.freedContext (sel := sel) i
  obtain ⟨antennas, image, -, -, -, held, walk, -⟩ := keepHeld_frame p sel (freed p tr w₀)
  refine ⟨abandoned_of_event (f.eventFreed i outcome abandons sound) own (fun a => ?_) (fun o ho => ?_) (held.trans rfl)
    (walk.trans rfl), (own.still (by rw [context])).trans context, ?_, fun o ho => ?_, fun o ho => ?_⟩
  · rw [antennas, freed_occupants, f.start]
    rfl
  · rw [image, freed_reserved ho]
  · rw [own.held, f.freedHeld]
    by_cases h : sel = .held <;> simp [h, i.out]
  · rw [own.holds, antennas, freed_holds _ _ _ _ (.inl ho)]
  · rw [own.holds, antennas, freed_holds _ _ _ _ (.inr ho)]

/-! ### An abandonment into a fault (R59) -/

theorem touches_freedIntoFault (v : View) (p : Pos) (tr : Transition) (w : Work) : Touches p w (freedIntoFault v p tr w) :=
  ((touches_freed p tr w).trans (touches_faultRoute v p _)).trans (touches_owed p _ _ _ _ _ fun _ _ => Iff.rfl)

/-- The fault behind an abandonment is told at the end of the event, and changes nothing else (R59). -/
theorem freedIntoFault_frame (v : View) (p : Pos) (tr : Transition) (w : Work) :
    (freedIntoFault v p tr w).toBlocks = (faultRoute v p (freed p tr w)).toBlocks ∧
      (freedIntoFault v p tr w).raised = (faultRoute v p (freed p tr w)).raised ∧
      (freedIntoFault v p tr w).ended = (faultRoute v p (freed p tr w)).ended ∧
      (freedIntoFault v p tr w).heldWalk = (faultRoute v p (freed p tr w)).heldWalk ∧
      (freedIntoFault v p tr w).waitingWalk = (faultRoute v p (freed p tr w)).waitingWalk ∧
      (freedIntoFault v p tr w).examine = (faultRoute v p (freed p tr w)).examine := by
  simp only [freedIntoFault, and_self]

theorem Follows.looseFreed (f : Follows u t p w₀) (i : InWait u p tr) :
    ((freed p tr w₀).routes.contexts.get p).slot = none := by
  rw [freed_context]
  exact (f.emptyInWait i).1

theorem Follows.faultHeld (f : Follows u t p w₀) (i : InWait u p tr) :
    (keepLatched p sel (freedIntoFault u.view p tr w₀)).routes.held = u.held := by
  have loose := f.looseFreed i
  rw [(keepLatched_frame p sel _).2.2.2.2.2.2.2.2.1, (freedIntoFault_frame ..).1, (faultRoute_owed loose).2.2.1, (freed_frame p tr w₀).2.1, f.start]

theorem Follows.takesFault (f : Follows u t p w₀) (i : InWait u p tr)
    (outcome : sel = selection u.view u.blocks p .byPreference) (abandons : sel = .current ∨ sel = .held)
    (fault : FaultsRoute w₀ p tr) : Takes u p w₀ (keepLatched p sel (freedIntoFault u.view p tr w₀)) sel.answer :=
  inWait_of_fault (v := u.view) (f.emptyInWait i).2 abandons (f.emptyInWait i).1 fault ▸ f.takesInWait i outcome

theorem Follows.faultFaults (f : Follows u t p w₀) :
    (keepLatched p sel (freedIntoFault u.view p tr w₀)).abandonFaults = [p] := by
  rw [(keepLatched_frame p sel _).2.2.2.2.2.2.2.1, freedIntoFault, f.clean.abandonFaults]
  rfl

theorem Follows.eventFault (f : Follows u t p w₀) (i : InWait u p tr)
    (outcome : sel = selection u.view u.blocks p .byPreference) (abandons : sel = .current ∨ sel = .held)
    (fault : FaultsRoute w₀ p tr) : OwnEvent u t p w₀ (keepLatched p sel (freedIntoFault u.view p tr w₀))
      (noticesBehind p sel.answer (keepLatched p sel (freedIntoFault u.view p tr w₀))) := by
  obtain ⟨-, -, gate, raised, ended, -, walk, -⟩ := keepLatched_frame p sel (freedIntoFault u.view p tr w₀)
  have loose := f.looseFreed i
  obtain ⟨blocks, raised', ended', -, walk', -⟩ := freedIntoFault_frame u.view p tr w₀
  have behind : PermitKept p (faultRoute u.view p (freed p tr w₀)) (keepLatched p sel (freedIntoFault u.view p tr w₀)) :=
    permitKept_of_eq (gate.trans (congrArg Blocks.gate blocks)) (ended.trans ended') (fun owed => walk.trans (walk'.trans owed))
      (raised.trans raised')
  refine f.event (f.takesFault i outcome abandons fault) ((touches_freedIntoFault ..).trans (touches_keepLatched p sel _)) ?_
    i.consistent i.reserved (fun own => absurd (f.faultHeld i ▸ own) i.out) ?_ (by simp [f.faultFaults])
  · exact (faultRoute_permit (v := u.view) loose).imp (fun kept => ((freed_kept p tr w₀).trans kept).trans behind)
      fun ⟨r, taken⟩ => ⟨r, ((freed_kept p tr w₀).trans_taken taken).trans_kept behind⟩
  · rw [f.faultHeld i, i.others_held]
    exact List.sublist_append_left _ _

/-- The FOLLOW request abandons the transition of a position whose route is latched, which goes on into a fault release (R58,
R59). -/
theorem Follows.abandonsIntoFault (f : Follows u t p w₀) (i : InWait u p tr)
    (outcome : sel = selection u.view u.blocks p .byPreference) (abandons : sel = .current ∨ sel = .held)
    (fault : FaultsRoute w₀ p tr) :
    ((t.claims p).effective = (u.claims p).effective ∧
      (∀ o ∈ tr.target, (t.claims p).reserved = [] ∧ p ∉ (t.antenna o).reservations) ∧ heldWalked u t p ∧
      othersKept u t (ownOrWalked u p True) ∧ placesKept u t p (u.placesLess p .reserving tr.target) ∧
      (gateConsistent u → walked u t)) ∧
    (t.context p).state = .faulted ∧
    (∃ tr' ∈ (t.context p).transition, tr'.cause = .fault ∧ tr'.target = none ∧ tr'.phase = .wait) ∧
    startExamined u t p ∧ (t.context p).slot = slotOf sel .latched := by
  have e := f.eventFault i outcome abandons fault
  have out : p ∉ (keepLatched p sel (freedIntoFault u.view p tr w₀)).routes.held := by
    rw [f.faultHeld i]
    exact i.out
  have own := e.ownKept_of_notMem out
  have loose := f.looseFreed i
  have started := freedIntoFault_context (v := u.view) (tr := tr) (f.emptyInWait i).1
  have context : (keepLatched p sel (freedIntoFault u.view p tr w₀)).routes.contexts.get p = { u.context p with
      state := .faulted, mark := true, transition := some (faultRelease u.view (u.context p)), slot := slotOf sel .latched } := by
    rw [keepLatched_context p sel (by rw [started]; exact (f.emptyInWait i).1), started, f.start]
  obtain ⟨antennas, image, -, -, -, held, walk, -, -, examine⟩ := keepLatched_frame p sel (freedIntoFault u.view p tr w₀)
  obtain ⟨faultHeld, faultWalk, -, faultExamine⟩ := faultRoute_owed (v := u.view) loose
  obtain ⟨blocks, -, -, held', walk', examine'⟩ := freedIntoFault_frame u.view p tr w₀
  obtain ⟨⟨due, final⟩, examined⟩ := e.ownExamined out (tr := faultRelease u.view (u.context p)) (by rw [context]) rfl rfl
    (by rw [examine, examine', faultExamine]; exact List.mem_cons_self)
  rw [context] at final
  refine ⟨abandoned_of_event e own (fun a => ?_) (fun o ho => ?_) (held.trans (held'.trans faultHeld)) (walk.trans (walk'.trans faultWalk)),
    congrArg Context.state final, ⟨_, congrArg Context.transition final, rfl, rfl, rfl⟩, examined,
    congrArg Context.slot final⟩
  · rw [antennas, blocks, faultRoute_occupants loose a, freed_occupants, f.start]
    rfl
  · rw [image, blocks, faultRoute_reserved loose, freed_reserved ho]

end

end Sys2Proof.Proofs.Following

/-!
SUPPORT. The FOLLOW request whole: at once, in WAIT, or latched behind the transition (R48 to R50, R62), in the words of Safety.lean.
-/
namespace Sys2Proof.Proofs.Following
open Sys2Proof Sys2Proof.Machine Sys2Proof.Proofs.Delivery Sys2Proof.Proofs.Selecting Sys2Proof.Proofs.Acting
open Sys2Proof.Proofs.Closing

section
variable {u t : State} {p : Pos} {w₀ : Work} {sel : Selection} {tr : Transition}

/-- A request in WAIT that is current or held abandons the transition (R49, R59, R74). -/
theorem Follows.abandons (f : Follows u t p w₀) (i : InWait u p tr)
    (outcome : sel = selection u.view u.blocks p .byPreference) (abandons : sel = .current ∨ sel = .held) :
    (t.claims p).effective = (u.claims p).effective ∧
    (∀ o ∈ tr.target, (t.claims p).reserved = [] ∧ p ∉ (t.antenna o).reservations) ∧
    ((tr.start ≠ .routed ∨ ∀ k ∈ (u.claims p).effective, (u.sense k.coil).latch = .none) →
      t.context p = { u.context p with state := tr.start, transition := none, slot := slotOf sel .held } ∧
      (p ∈ t.held ↔ sel = .held) ∧ (∀ o ∈ tr.old, (t.antenna o).holds.get p = false) ∧
      ∀ o ∈ tr.target, (t.antenna o).holds.get p = false) ∧
    (tr.start = .routed → (∃ k ∈ (u.claims p).effective, (u.sense k.coil).latch ≠ .none) →
      (t.context p).state = .faulted ∧
      (∃ tr' ∈ (t.context p).transition, tr'.cause = .fault ∧ tr'.target = none ∧ tr'.phase = .wait) ∧
      startExamined u t p ∧ ((u.port p).notices.length ≤ 4 → holdsNotice t p fun n => n.isRoute p .fault) ∧
      (t.context p).slot = slotOf sel .latched) ∧ heldWalked u t p ∧ othersKept u t (ownOrWalked u p True) ∧
    placesKept u t p (u.placesLess p .reserving tr.target) ∧ (gateConsistent u → walked u t) := by
  by_cases fault : FaultsRoute w₀ p tr
  · obtain ⟨⟨effective, target, held, others, places, walks⟩, state, release, examined, slot⟩ :=
      f.abandonsIntoFault i outcome abandons fault
    obtain ⟨routed, k, hk, latched⟩ := f.faultsRoute_iff.1 fault
    refine ⟨effective, target, fun sound => ?_, fun _ _ => ⟨state, release, examined, fun few => ?_, slot⟩, held, others, places,
      walks⟩
    · exact (sound.elim (· routed) fun none => latched (none k hk)).elim
    · have told := f.faultTold (f.takesFault i outcome abandons fault) f.faultFaults few
      obtain ⟨n, hn, same⟩ := List.any_eq_true.1 told
      refine List.any_eq_true.2 ⟨n, hn, ?_⟩
      simp [of_decide_eq_true same, routeNotice, Notice.isRoute]
  · obtain ⟨⟨effective, target, held, others, places, walks⟩, left⟩ := f.abandonsSound i outcome abandons fault
    exact ⟨effective, target, fun _ => left, fun routed latched => absurd (f.faultsRoute_iff.2 ⟨routed, latched⟩) fault, held,
      others, places, walks⟩

/-- No fault follows the request, but for an abandonment over a latched coil (R59). -/
theorem Follows.noFaultInWait (f : Follows u t p w₀) (i : InWait u p tr)
    (none : ¬ abandonedIntoFault sel u p tr) : (inWait u.view p tr sel w₀).abandonFaults = [] := by
  have freed (abandons : sel = .current ∨ sel = .held) : (inWait u.view p tr sel w₀).abandonFaults = [] := by
    rw [inWait_of_freed (f.emptyInWait i).2 abandons fun fault => none ⟨abandons, f.faultsRoute_iff.1 fault⟩, f.freedFaults]
  cases sel with
  | refused r => exact f.clean.abandonFaults
  | target a =>
    dsimp only [inWait]
    split
    · exact f.clean.abandonFaults
    · rw [(replaceTarget_frame ..).2.2.2.2.2.2.2.2.2.1, f.clean.abandonFaults]
  | current => exact freed (.inl rfl)
  | held => exact freed (.inr rfl)

/-- The answer of a request in WAIT is told, or the fault that follows its abandonment (R59, R62). -/
theorem Follows.toldInWait (f : Follows u t p w₀) (i : InWait u p tr)
    (outcome : sel = selection u.view u.blocks p .byPreference) (few : (u.port p).notices.length ≤ 4) :
    holdsNotice t p fun n => decide (n =
      if abandonedIntoFault sel u p tr then routeNotice t.blocks p .fault none
      else routeNotice t.blocks p sel.followCause (some sel.answer)) := by
  by_cases h : abandonedIntoFault sel u p tr
  · rw [if_pos h]
    exact f.faultTold (f.takesFault i outcome h.1 (f.faultsRoute_iff.2 h.2)) f.faultFaults few
  · rw [if_neg h]
    exact f.told (f.takesInWait i outcome) (f.noFaultInWait i h) (followNotice_answer p sel) few

/-- A FOLLOW request leaves what R48 to R50 and R62 say. -/
theorem Follows.followRaised (f : Follows u t p w₀) : followRaised u t p := by
  intro sel outcome
  refine ⟨f.atOnce_followed outcome, fun tr at' => ⟨fun wait unforced consistent reserved => ?_, f.latched at'⟩⟩
  have i : InWait u p tr := ⟨at', wait, unforced, consistent, reserved⟩
  obtain ⟨refused, same⟩ := f.carriesOn i outcome
  exact ⟨⟨refused, same, fun a target other => f.replacesTarget i (target ▸ outcome) other, f.abandons i outcome⟩,
    f.toldInWait i outcome⟩

end

end Sys2Proof.Proofs.Following

/-!
SUPPORT. The re-check of a position whose band entry has changed (R146): what it finds, and what it withdraws.
-/
namespace Sys2Proof.Proofs.Rechecking
open Sys2Proof Sys2Proof.Machine Sys2Proof.Proofs.FirstIndex Sys2Proof.Proofs.GrantTest Sys2Proof.Proofs.Delivery
open Sys2Proof.Proofs.Acting Sys2Proof.Proofs.Closing

/-! ### What the re-check finds -/

section
variable {b : Bank} {w : Blocks} {p : Pos} {r : Reason} {c : Option Pos}

theorem conflicting_eq_some_iff {f : Pos → Bool} {q : Pos} : conflicting w p f = some q ↔
    lowest (fun q => q ≠ p ∧ (w.gate.keys.get q).state = .on ∧ f q = true) q :=
  find_positions_eq_some conflicting_tests

/-- The tests of R133 and R16 find the lowest-numbered conflicting position, single-signal conflicts first. -/
theorem bandConflict_eq_some_iff : bandConflict b w p = some (r, c) ↔
    (r = .singleSignal ∧ ∃ q ∈ c, lowest (fun q : Pos => q ≠ p ∧ (w.gate.keys.get q).state = .on ∧
        singleSignalConflict b w p q = true) q) ∨
      ((∀ q : Pos, q ≠ p → (w.gate.keys.get q).state = .on → singleSignalConflict b w p q = false) ∧
        r = .lockout ∧ ∃ q ∈ c, lowest (fun q : Pos => q ≠ p ∧ (w.gate.keys.get q).state = .on ∧
          lockoutConflict b w p q = true) q) := by
  simp only [← conflicting_eq_some_iff, ← conflicting_eq_none_iff, bandConflict]
  cases conflicting w p (singleSignalConflict b w p) with
  | some q =>
    simp only [Option.some.injEq, Prod.mk.injEq, reduceCtorEq, false_and, or_false]
    constructor
    · rintro ⟨rfl, rfl⟩
      exact ⟨rfl, q, rfl, rfl⟩
    · rintro ⟨rfl, x, hx, rfl⟩
      exact ⟨rfl, hx.symm⟩
  | none =>
    cases conflicting w p (lockoutConflict b w p) with
    | some q =>
      simp only [Option.some.injEq, Prod.mk.injEq, reduceCtorEq, and_false, exists_false, false_or, true_and]
      constructor
      · rintro ⟨rfl, rfl⟩
        exact ⟨rfl, q, rfl, rfl⟩
      · rintro ⟨rfl, x, hx, rfl⟩
        exact ⟨rfl, hx.symm⟩
    | none => simp

/-- The model's re-check finds what R146 names. -/
theorem recheckFinds_iff : recheckFinds b w p r c ↔ recheckFailure b w p = some (r, c) := by
  unfold recheckFinds recheckFailure
  cases band : bandOf b w p with
  | none =>
    simp only [true_and, Option.isNone_none, if_true, Option.some.injEq, Prod.mk.injEq]
    exact ⟨fun h => h.elim (fun ⟨r, c⟩ => ⟨r.symm, c.symm⟩) fun ⟨n, hn, _⟩ => absurd hn (by simp),
      fun ⟨r, c⟩ => .inl ⟨r.symm, c.symm⟩⟩
  | some n =>
    have covered := mismatch_eq_false_iff band
    simp only [reduceCtorEq, false_and, false_or, Option.isNone_some, Bool.false_eq_true, if_false]
    cases bad : mismatch b w p with
    | true =>
      have uncovered : ∃ a ∈ (w.routes.contexts.get p).antenna, covers b a n = false := by
        by_contra none
        have all := covered.2 fun a ha => by simpa using fun no => none ⟨a, ha, no⟩
        simp [bad] at all
      obtain ⟨a, ha, no⟩ := uncovered
      simp only [if_true, Option.some.injEq, Prod.mk.injEq]
      constructor
      · rintro ⟨m, hm, ⟨rfl, rfl, -⟩ | ⟨all, -⟩⟩
        · exact ⟨rfl, rfl⟩
        · obtain rfl := Option.some.inj hm
          simp [all a ha] at no
      · rintro ⟨rfl, rfl⟩
        exact ⟨n, rfl, .inl ⟨rfl, rfl, a, ha, no⟩⟩
    | false =>
      have all := covered.1 bad
      simp only [Bool.false_eq_true, if_false, bandConflict_eq_some_iff]
      constructor
      · rintro ⟨m, hm, ⟨-, -, a, ha, no⟩ | ⟨-, found⟩⟩
        · obtain rfl := Option.some.inj hm
          simp [all a ha] at no
        · exact found
      · exact fun found => ⟨n, rfl, .inr ⟨all, found⟩⟩

end

/-! ### What the re-check withdraws -/

section
variable {v : View} {p : Pos} {w : Work}

theorem recheck_of_failure {r : Reason} {c : Option Pos} (h : recheckFailure v.bank w.toBlocks p = some (r, c)) :
    recheck v p w = withdraw v p r c w := by
  unfold recheck
  split
  · simp only [h]
  · exact (withdraw_of_not_on v p r c w (by simp_all)).symm

theorem recheck_of_none (h : isOn w.toBlocks p = true → recheckFailure v.bank w.toBlocks p = none) : recheck v p w = w := by
  unfold recheck
  split
  · rename_i on
    simp only [h on]
  · rfl

theorem recheck_key_other (v : View) {p q : Pos} (w : Work) (h : q ≠ p) :
    (recheck v p w).gate.keys.get q = w.gate.keys.get q := by
  unfold recheck
  split
  · split
    · rfl
    · exact (touches_withdraw ..).keys q h
  · rfl

/-- The key record that a re-check leaves (R143, R146). -/
theorem recheck_key (v : View) (p : Pos) (w : Work) : (recheck v p w).gate.keys.get p =
    if isOn w.toBlocks p then
      (recheckFailure v.bank w.toBlocks p).elim (w.gate.keys.get p) fun f => withdrawnKey v.bank (w.gate.keys.get p) f.1
    else w.gate.keys.get p := by
  unfold recheck
  split
  · rename_i on
    cases recheckFailure v.bank w.toBlocks p with
    | none => rfl
    | some f =>
      dsimp only [Option.elim]
      rw [withdraw_keys_of_on _ _ _ _ _ on, put_get_same]
      rfl
  · rfl

/-- A re-check ends the liveness of a position that it withdraws under tail time 0 (R130). -/
theorem mem_recheck_ended {v : View} {p q : Pos} {w : Work} (none : w.ended = []) : q ∈ (recheck v p w).ended ↔
    q = p ∧ v.bank.timing.tailMs = 0 ∧ isOn w.toBlocks p = true ∧ ((recheck v p w).gate.keys.get p).state ≠ .on := by
  cases on : isOn w.toBlocks p with
  | false =>
    rw [recheck_of_none (by simp [on]), none]
    simp
  | true =>
    cases failure : recheckFailure v.bank w.toBlocks p with
    | none =>
      have still : (w.gate.keys.get p).state = .on := by simpa [isOn] using on
      rw [recheck_of_none fun _ => failure, none]
      simp [still]
    | some f =>
      rw [recheck_of_failure failure, withdraw_keys_of_on _ _ _ _ _ on, put_get_same]
      simp only [withdraw, on, if_true, Work.raise_ended, endPermit]
      split <;> simp [*]

/-- A re-check tells of its withdrawal, with the conflicting position (R152). -/
theorem recheck_raised (v : View) (p : Pos) (w : Work) : ∃ l, (recheck v p w).raised = w.raised ++ l ∧
    (∀ n ∈ l, ∃ c, n = .key p .withdrawn c) ∧
    (isOn w.toBlocks p = true → ∀ r c, recheckFailure v.bank w.toBlocks p = some (r, c) → l = [.key p .withdrawn c]) := by
  cases on : isOn w.toBlocks p with
  | false => exact ⟨[], by rw [recheck_of_none (by simp [on])]; simp, by simp, by simp⟩
  | true =>
    cases failure : recheckFailure v.bank w.toBlocks p with
    | none => exact ⟨[], by rw [recheck_of_none fun _ => failure]; simp, by simp, by simp⟩
    | some f =>
      refine ⟨[.key p .withdrawn f.2], ?_, by simp, fun _ r c h => by cases h; rfl⟩
      rw [recheck_of_failure failure]
      simp [withdraw, on, Work.raise]

end

end Sys2Proof.Proofs.Rechecking

/-!
SUPPORT. The re-check of a position whose band entry has changed, with its waiting walk (R25, R27, R138, R146), in the words of
Safety.lean.
-/
namespace Sys2Proof.Proofs.Rechecking
open Sys2Proof Sys2Proof.Machine Sys2Proof.Proofs.Delivery Sys2Proof.Proofs.Acting Sys2Proof.Proofs.Closing

/-- The clean work `w₁` of an event from `s` has changed classifier records alone. -/
structure Reclassified (s : State) (w₁ : Work) : Prop where
  clean : Clean w₁
  blocks : w₁.toBlocks = { s.blocks with classifier := w₁.classifier }
  raised : w₁.raised = []

/-- The re-check of `p`, which owes a waiting walk (R27, R146). -/
def rechecking (v : View) (p : Pos) (w : Work) : Work := { recheck v p w with waitingWalk := true }

/-- The state that the re-check of `p` leaves, before the notices of its event. -/
def afterRecheck (s : State) (p : Pos) (w₁ : Work) : State :=
  { s with blocks := (close s.view (rechecking s.view p w₁)).toBlocks }

section
variable {s : State} {p : Pos} {w₁ : Work}

theorem Reclassified.routes (h : Reclassified s w₁) : w₁.routes = s.blocks.routes := by rw [h.blocks]

theorem Reclassified.image (h : Reclassified s w₁) : w₁.image = s.blocks.image := by rw [h.blocks]

theorem Reclassified.monitor (h : Reclassified s w₁) : w₁.monitor = s.blocks.monitor := by rw [h.blocks]

theorem Reclassified.gate (h : Reclassified s w₁) : w₁.gate = s.blocks.gate := by rw [h.blocks]

theorem Reclassified.isOn_iff (h : Reclassified s w₁) : isOn w₁.toBlocks p = true ↔ (s.key p).state = .on := by
  simp [isOn, h.gate]

/-- The close of the re-check examines, and walks the waiting list. -/
theorem Reclassified.close_eq (h : Reclassified s w₁) : close s.view (rechecking s.view p w₁) =
    { s.waiting.foldl (walkEntry s.view) (examineOwed s.view (rechecking s.view p w₁)) with waitingWalk := false } := by
  have held : (rechecking s.view p w₁).heldWalk = false := (recheck_frame ..).2.2.2.2.2.1.trans h.clean.heldWalk
  have list : (examineOwed s.view (rechecking s.view p w₁)).gate.waiting = s.waiting := by
    rw [examineOwed_gate]
    exact (recheck_frame ..).2.2.2.2.1.trans (by rw [h.gate])
  have owed : (examineOwed s.view (rechecking s.view p w₁)).waitingWalk = true := (examineOwed_frame ..).2.2.2.2.2.2.2.2.1
  rw [close, heldWalkIfOwed_of_not_owed _ held, waitingWalkIfOwed, if_pos owed, Sys2Proof.Machine.waitingWalk, list]

theorem Reclassified.walk_blocks (h : Reclassified s w₁) : (afterRecheck s p w₁).blocks =
    (s.waiting.foldl (walkEntry s.view) (examineOwed s.view (rechecking s.view p w₁))).toBlocks := by
  rw [afterRecheck, h.close_eq]

theorem Reclassified.walk_frame (h : Reclassified s w₁) : (afterRecheck s p w₁).blocks.classifier = w₁.classifier ∧
    (afterRecheck s p w₁).blocks.monitor = s.blocks.monitor ∧ (afterRecheck s p w₁).blocks.image = s.blocks.image ∧
    (afterRecheck s p w₁).blocks.routes.antennas = s.blocks.routes.antennas ∧
    (afterRecheck s p w₁).blocks.routes.held = s.blocks.routes.held := by
  obtain ⟨classifier, monitor, routes, image, -⟩ := walkEntries_frame s.view s.waiting
    (examineOwed s.view (rechecking s.view p w₁))
  obtain ⟨classifier', monitor', antennas', held', image', -⟩ := examineOwed_frame s.view (rechecking s.view p w₁)
  obtain ⟨classifier'', monitor'', routes'', image'', -⟩ := recheck_frame s.view p w₁
  rw [h.walk_blocks, classifier, monitor, routes, image, classifier', monitor', antennas', held', image', ← h.image,
    ← h.monitor, ← h.routes]
  exact ⟨classifier'', monitor'', image'', congrArg Routes.antennas routes'', congrArg Routes.held routes''⟩

/-- A key record that does not wait before the walk stands. -/
theorem Reclassified.key_of_not_waiting (h : Reclassified s w₁) {q : Pos}
    (no : ∀ r, ((recheck s.view p w₁).gate.keys.get q).state ≠ .waiting r) :
    (afterRecheck s p w₁).key q = (recheck s.view p w₁).gate.keys.get q := by
  have gate := examineOwed_gate s.view (rechecking s.view p w₁)
  rw [State.key, h.walk_blocks, walkEntries_key_of_not_waiting _ _ _ (by rw [gate]; exact no), gate]
  rfl

theorem Reclassified.not_waiting_of_on (h : Reclassified s w₁) (on : (s.key p).state = .on) (r : Reason) :
    ((recheck s.view p w₁).gate.keys.get p).state ≠ .waiting r := by
  have here : w₁.gate.keys.get p = s.key p := by rw [h.gate]
  rw [recheck_key, if_pos (h.isOn_iff.2 on), here]
  cases recheckFailure s.view.bank w₁.toBlocks p <;> simp [withdrawnKey, on]

/-- The state of R146 before the examinations and the walk: the new entry, and the withdrawal. -/
def withdrawnState (s u : State) (p : Pos) : State :=
  State.withKey { s with blocks := { s.blocks with classifier := u.blocks.classifier } } p
    (if (s.key p).state = .on then u.key p else s.key p)

theorem withdrawnState_frame (s u : State) (p : Pos) : (withdrawnState s u p).blocks.routes = s.blocks.routes ∧
    (withdrawnState s u p).waiting = s.waiting ∧ (withdrawnState s u p).view = s.view ∧
    (∀ q, q ≠ p → (withdrawnState s u p).key q = s.key q) ∧
    (withdrawnState s u p).key p = if (s.key p).state = .on then u.key p else s.key p :=
  ⟨rfl, rfl, rfl, fun _ other => put_get_other _ _ other, put_get_same _ _ _⟩

theorem Reclassified.withdrawn_keys (h : Reclassified s w₁) :
    (withdrawnState s (afterRecheck s p w₁) p).blocks.gate.keys = (rechecking s.view p w₁).gate.keys := by
  refine vector_ext fun q => ?_
  have same : w₁.gate.keys.get q = s.key q := by rw [h.gate]
  have rechecked : (rechecking s.view p w₁).gate.keys.get q = (recheck s.view p w₁).gate.keys.get q := rfl
  obtain ⟨-, -, -, others, here⟩ := withdrawnState_frame s (afterRecheck s p w₁) p
  rw [rechecked]
  by_cases own : q = p
  · subst own
    rw [State.key] at here
    rw [here]
    by_cases on : (s.key q).state = .on
    · rw [if_pos on, h.key_of_not_waiting (h.not_waiting_of_on on)]
    · rw [if_neg on, recheck_key, if_neg fun o => on (h.isOn_iff.1 o), same]
  · have other := others q own
    rw [State.key] at other
    rw [other, recheck_key_other _ _ own, same]

/-- The waiting walk of the re-check begins in the state of the withdrawal. -/
theorem Reclassified.walkBegins (h : Reclassified s w₁) (consistent : gateConsistent s) :
    WalkBegins (withdrawnState s (afterRecheck s p w₁) p) (examineOwed s.view (rechecking s.view p w₁)) := by
  obtain ⟨-, list, -, others, here⟩ := withdrawnState_frame s (afterRecheck s p w₁) p
  refine ⟨?_, fun q _ => ?_, fun q hq => ?_, list ▸ consistent.2.1⟩
  · rw [examineOwed_gate, list]
    exact (recheck_frame ..).2.2.2.2.1.trans (by rw [h.gate])
  · rw [examineOwed_gate, State.key, h.withdrawn_keys]
  · obtain ⟨r, waits⟩ := (consistent.1 q).2.1 (list ▸ hq)
    refine ⟨r, ?_⟩
    by_cases own : q = p
    · subst own
      rw [here, if_neg (by simp [waits]), waits]
    · rw [others q own, waits]

/-- What the examinations of the re-check are owed for: a withdrawal that ends a liveness (R71, R130). -/
theorem Reclassified.toExamine_iff (h : Reclassified s w₁) (q : Pos) (tr : Transition) :
    toExamine (rechecking s.view p w₁) q tr = true ↔
      s.bank.timing.tailMs = 0 ∧ (s.key p).state = .on ∧ ((afterRecheck s p w₁).key p).state ≠ .on ∧ concerns s p q tr := by
  have routes : (rechecking s.view p w₁).routes = s.blocks.routes := (recheck_frame ..).2.2.1.trans h.routes
  have none : (rechecking s.view p w₁).examineAll = false ∧ (rechecking s.view p w₁).examine = [] :=
    ⟨(recheck_frame ..).2.2.2.2.2.2.1.trans h.clean.examineAll, (recheck_frame ..).2.2.2.2.2.2.2.1.trans h.clean.examine⟩
  have holder (a : Option Ant) : a.any (isHolder (rechecking s.view p w₁).toBlocks · p) = true ↔
      ∃ n ∈ a, p ∈ (s.antenna n).holders := by
    cases a <;> simp [isHolder, routes, State.antenna]
  have ended (x : Pos) : x ∈ (rechecking s.view p w₁).ended ↔ x = p ∧ s.bank.timing.tailMs = 0 ∧ (s.key p).state = .on ∧
      ((afterRecheck s p w₁).key p).state ≠ .on := by
    refine (mem_recheck_ended h.clean.ended).trans ?_
    rw [h.isOn_iff]
    refine and_congr_right fun _ => and_congr_right fun _ => and_congr_right fun on => ?_
    rw [h.key_of_not_waiting (h.not_waiting_of_on on)]
  simp only [toExamine, none, List.contains_nil, Bool.false_or, List.any_eq_true, Bool.or_eq_true, decide_eq_true_eq, concerns]
  constructor
  · rintro ⟨x, hx, near⟩
    obtain ⟨rfl, tail, on, off⟩ := (ended x).1 hx
    refine ⟨tail, on, off, ?_⟩
    simpa only [holder, or_assoc, eq_comm] using near
  · rintro ⟨tail, on, off, near⟩
    refine ⟨p, (ended p).2 ⟨rfl, tail, on, off⟩, ?_⟩
    simpa only [holder, or_assoc, eq_comm] using near

/-- The examinations of the re-check (R71). -/
theorem Reclassified.examined (h : Reclassified s w₁) :
    examined (withdrawnState s (afterRecheck s p w₁) p) (afterRecheck s p w₁) fun q tr => s.bank.timing.tailMs = 0 ∧
      (s.key p).state = .on ∧ ((afterRecheck s p w₁).key p).state ≠ .on ∧ concerns s p q tr := by
  have routes : (rechecking s.view p w₁).routes = s.blocks.routes := (recheck_frame ..).2.2.1.trans h.routes
  obtain ⟨still, -, same, -⟩ := withdrawnState_frame s (afterRecheck s p w₁) p
  intro q
  have context : (afterRecheck s p w₁).context q = examinedContext s.view (rechecking s.view p w₁) q := by
    rw [State.context, h.walk_blocks, (walkEntries_frame ..).2.2.1, examineOwed_contexts]
  have before : (rechecking s.view p w₁).context q = s.context q := by rw [Work.context_eq, routes]
  have quiet (tr : Transition) : quiet s.view (rechecking s.view p w₁).toBlocks q tr = true ↔
      quietCondition (withdrawnState s (afterRecheck s p w₁) p) q tr := by
    rw [← quiet_iff, same, quiet_congr h.withdrawn_keys.symm (by rw [routes, still])]
  rw [context, examinedContext, before, State.context, still]
  refine ⟨fun none => ?_, fun tr htr => ?_⟩
  · have none : (s.context q).transition = Option.none := none
    rw [none]
  · have here : (s.context q).transition = some tr := htr
    rw [here]
    dsimp only
    exact ⟨fun ⟨wait, near, calm⟩ => if_pos ⟨wait, (h.toExamine_iff q tr).2 near, (quiet tr).2 calm⟩,
      fun no => if_neg fun ⟨wait, near, calm⟩ => no ⟨wait, (h.toExamine_iff q tr).1 near, (quiet tr).1 calm⟩⟩

theorem view_of_blocks (s : State) (b : Blocks) : ({ s with blocks := b } : State).view = s.view := rfl

/-- A state that differs from `s` in the contexts, the gate and the classifier, as the re-check leaves it. -/
theorem eq_withdrawnState {s u : State} (p : Pos) (blocks : ∃ b, u = { s with blocks := b })
    (monitor : u.blocks.monitor = s.blocks.monitor) (image : u.blocks.image = s.blocks.image)
    (antennas : u.blocks.routes.antennas = s.blocks.routes.antennas)
    (held : u.blocks.routes.held = s.blocks.routes.held) :
    u = { withdrawnState s u p with blocks := { (withdrawnState s u p).blocks with
      routes := { s.blocks.routes with contexts := u.blocks.routes.contexts }, gate := u.blocks.gate } } := by
  obtain ⟨⟨classifier, ⟨contexts, antennas', held'⟩, image', monitor', gate⟩, rfl⟩ := blocks
  dsimp only at monitor image antennas held
  subst monitor image antennas held
  rfl

/-- The re-check leaves what R146 says. -/
theorem Reclassified.rechecked (h : Reclassified s w₁) : rechecked s (afterRecheck s p w₁) p := by
  intro s' hs'
  obtain rfl : s' = withdrawnState s (afterRecheck s p w₁) p := hs'
  obtain ⟨classifier, monitor, image, antennas, held⟩ := h.walk_frame (p := p)
  have blocks : w₁.toBlocks = { s.blocks with classifier := (afterRecheck s p w₁).blocks.classifier } := by
    rw [classifier, ← h.blocks]
  have here : w₁.gate.keys.get p = s.key p := by rw [h.gate]
  refine ⟨?_, fun on => ⟨fun r c found => ?_, fun none => ?_⟩, fun consistent => ?_, fun q notWaiting => ?_, h.examined⟩
  · exact eq_withdrawnState p ⟨_, rfl⟩ monitor image antennas held
  · rw [h.key_of_not_waiting (h.not_waiting_of_on on), recheck_key, if_pos (h.isOn_iff.2 on), blocks]
    rw [(recheckFinds_iff.1 found : recheckFailure s.view.bank _ p = _), ← blocks, here]
    rfl
  · have failure : recheckFailure s.view.bank w₁.toBlocks p = Option.none := by
      rw [blocks]
      refine Option.eq_none_iff_forall_ne_some.2 fun ⟨r, c⟩ found => none r c (recheckFinds_iff.2 found)
    rw [h.key_of_not_waiting (h.not_waiting_of_on on), recheck_key, if_pos (h.isOn_iff.2 on), failure]
    exact here
  · have view : (afterRecheck s p w₁).view = s.view := view_of_blocks ..
    have list : (withdrawnState s (afterRecheck s p w₁) p).waiting = s.waiting := (withdrawnState_frame ..).2.1
    exact waitingWalked_of_walk (h.walkBegins consistent) (by rw [view, list]; exact h.walk_blocks)
  · rw [State.key, h.walk_blocks, walkEntries_key_of_notMem _ _ _ notWaiting, examineOwed_gate, ← h.withdrawn_keys]

end

end Sys2Proof.Proofs.Rechecking

/-!
SUPPORT. The key record of a position that is neither ON nor WAITING through a FOLLOW request (R143, R144): no operation of it, and
no walk, changes the record or tells of it.
-/
namespace Sys2Proof.Proofs.Following
open Sys2Proof Sys2Proof.Machine Sys2Proof.Proofs.Delivery Sys2Proof.Proofs.Selecting Sys2Proof.Proofs.Acting
open Sys2Proof.Proofs.Closing

/-- The key record of `p` stands between `w` and `w'`, and nothing was said of it. -/
structure KeyKept (p : Pos) (w w' : Work) : Prop where
  key : w'.gate.keys.get p = w.gate.keys.get p
  raised : ∃ l, w'.raised = w.raised ++ l ∧ ∀ n ∈ l, ¬ isKeyOf p n

theorem KeyKept.trans {p : Pos} {w w' w'' : Work} (h : KeyKept p w w') (k : KeyKept p w' w'') : KeyKept p w w'' := by
  obtain ⟨l, hl, al⟩ := h.raised
  obtain ⟨m, hm, am⟩ := k.raised
  exact ⟨k.key.trans h.key, l ++ m, by rw [hm, hl, List.append_assoc], fun n hn => (List.mem_append.1 hn).elim (al n) (am n)⟩

theorem KeyKept.isOn {p : Pos} {w w' : Work} (h : KeyKept p w w') : isOn w'.toBlocks p = isOn w.toBlocks p := by
  simp [Machine.isOn, h.key]

theorem keyKept_of_permit {p : Pos} {w w' : Work} (h : PermitKept p w w') : KeyKept p w w' := ⟨h.key, h.raised⟩

theorem keyKept_of_touches {p q : Pos} {w w' : Work} (h : Touches q w w') (other : p ≠ q) : KeyKept p w w' := by
  obtain ⟨l, hl, al⟩ := h.raised
  exact ⟨h.keys p other, l, hl, fun n hn => not_isKeyOf_of_about other (al n hn)⟩

section
variable {v : View} {p : Pos} {w : Work}

theorem heldToLatched_kept (p : Pos) (w : Work) : PermitKept p w (heldToLatched p w) := by
  obtain ⟨-, -, -, -, gate, raised, walk, -, -, ended, -⟩ := heldToLatched_frame p w
  exact permitKept_of_eq gate ended (walk ▸ id) raised

theorem faultRoute_kept (off : isOn w.toBlocks p = false) : PermitKept p w (faultRoute v p w) := by
  have set : PermitKept p w (w.setContext p { w.context p with state := .faulted }) := permitKept_of_eq rfl rfl id rfl
  have off' := set.isOn.trans off
  have latched := set.trans (heldToLatched_kept p _)
  have owed (w : Work) : PermitKept p w { w with waitingWalk := true } := permitKept_of_eq rfl rfl (fun _ => rfl) rfl
  simp only [faultRoute]
  rw [withdraw_of_not_on _ _ _ _ _ off']
  exact (latched.trans (startTransition_kept (latched.isOn.trans off)).1).trans (owed _)

theorem freedIntoFault_kept (off : isOn w.toBlocks p = false) (tr : Transition) :
    PermitKept p w (freedIntoFault v p tr w) := by
  obtain ⟨blocks, raised, ended, -, walk, -⟩ := freedIntoFault_frame v p tr w
  have fault := (freed_kept p tr w).trans (faultRoute_kept (v := v) ((freed_kept p tr w).isOn.trans off))
  exact fault.trans (permitKept_of_eq (congrArg Blocks.gate blocks) ended (fun owed => walk.trans owed) raised)

theorem abandon_kept (off : isOn w.toBlocks p = false) : PermitKept p w (abandon v p w) := by
  cases h : (w.routes.contexts.get p).transition with
  | none =>
    have here : (w.context p).transition = none := h
    unfold abandon
    simp only [here]
    exact PermitKept.refl p w
  | some tr =>
    rw [abandon_eq h]
    split
    · exact freedIntoFault_kept off tr
    · exact freed_kept p tr w

theorem placed_kept (p : Pos) (w : Work) : PermitKept p w (placed p w) := by
  unfold placed
  split <;> exact permitKept_of_eq rfl rfl id rfl

theorem inWait_kept (off : isOn w.toBlocks p = false) (tr : Transition) (sel : Selection) :
    PermitKept p w (inWait v p tr sel w) := by
  cases sel with
  | refused r => exact PermitKept.refl p w
  | current => exact abandon_kept off
  | held => exact (abandon_kept off).trans (placed_kept p _)
  | target a =>
    dsimp only [inWait]
    split
    · exact permitKept_of_eq rfl rfl id rfl
    · exact replaceTarget_permit ..

/-- A FOLLOW request of a position that is not ON leaves its permit (R40, R143). -/
theorem takeRequest_kept (off : isOn w.toBlocks p = false) :
    PermitKept p w (takeRequest v p .byPreference .follow w).1 := by
  unfold takeRequest
  split
  · rw [actOnSelection_follow]
    have dropped := (dropHeld_kept p w).1
    refine dropped.trans ((atOnce_permit v p _ _).resolve_right fun taken => ?_).1
    exact absurd taken.on (by rw [dropped.isOn, off]; simp)
  · split
    · rw [takeInWait_follow]
      exact inWait_kept off _ _
    · exact permitKept_of_eq rfl rfl id rfl

theorem heldEntry_keyKept (off : isOn w.toBlocks p = false) (q : Pos) : KeyKept p w (heldEntry v w q) := by
  by_cases own : p = q
  · subst own
    have left := leaveHeld_kept p w
    have refl : KeyKept p w w := keyKept_of_permit (PermitKept.refl p w)
    unfold heldEntry
    split
    · exact refl
    · split
      · exact refl
      · split
        · exact refl
        · exact keyKept_of_permit
            ((left.trans (startTransition_kept (left.isOn.trans off)).1).trans (permitKept_raise id _))
        · exact keyKept_of_permit (left.trans (permitKept_raise id _))
        · exact keyKept_of_permit (left.trans (permitKept_raise id _))
  · exact keyKept_of_touches (touches_heldEntry v w q) own

theorem heldEntries_keyKept (off : isOn w.toBlocks p = false) (l : List Pos) : KeyKept p w (l.foldl (heldEntry v) w) := by
  induction l generalizing w with
  | nil => exact keyKept_of_permit (PermitKept.refl p w)
  | cons q l ih =>
    have entry := heldEntry_keyKept (v := v) off q
    exact entry.trans (ih (entry.isOn.trans off))

theorem heldWalkIfOwed_keyKept (off : isOn w.toBlocks p = false) : KeyKept p w (heldWalkIfOwed v w) := by
  have walked := heldEntries_keyKept (v := v) off w.routes.held
  cases owed : w.heldWalk with
  | false =>
    rw [heldWalkIfOwed_of_not_owed _ owed]
    exact keyKept_of_permit (PermitKept.refl p w)
  | true =>
    rw [heldWalkIfOwed_of_owed _ owed]
    exact ⟨walked.key, walked.raised⟩

theorem waitingWalkIfOwed_keyKept (no : ∀ r, (w.gate.keys.get p).state ≠ .waiting r) :
    KeyKept p w (waitingWalkIfOwed v w) := by
  unfold waitingWalkIfOwed
  split
  · exact ⟨walkEntries_key_of_not_waiting v _ w no, walkEntries_raised_of_not_waiting v _ w no⟩
  · exact keyKept_of_permit (PermitKept.refl p w)

/-- A close leaves the key record of a position that is neither ON nor WAITING. -/
theorem close_keyKept (off : isOn w.toBlocks p = false) (no : ∀ r, (w.gate.keys.get p).state ≠ .waiting r) :
    KeyKept p w (close v w) := by
  have held := heldWalkIfOwed_keyKept (v := v) off
  have examined : KeyKept p (heldWalkIfOwed v w) (examineOwed v (heldWalkIfOwed v w)) :=
    ⟨by rw [examineOwed_gate], [], by simp⟩
  have before := held.trans examined
  exact before.trans (waitingWalkIfOwed_keyKept (by rw [before.key]; exact no))

/-- A FOLLOW request leaves the key record of a position that is neither ON nor WAITING, and says nothing of it. -/
theorem followRequest_keyKept (admitted : admission v p = none) (off : isOn w.toBlocks p = false)
    (no : ∀ r, (w.gate.keys.get p).state ≠ .waiting r) : KeyKept p w (followRequest v p w) := by
  have taken := keyKept_of_permit (takeRequest_kept (v := v) off)
  have closed := taken.trans (close_keyKept (v := v) (taken.isOn.trans off) (by rw [taken.key]; exact no))
  obtain ⟨l, hl, al⟩ := closed.raised
  refine ⟨?_, l ++ noticesBehind p (takeRequest v p .byPreference .follow w).2 (takeRequest v p .byPreference .follow w).1,
    ?_, fun n hn => ?_⟩
  · rw [followRequest_blocks, request_of_admitted admitted]
    exact closed.key
  · rw [followRequest_raised, request_of_admitted admitted, hl, List.append_assoc]
    rfl
  · rcases List.mem_append.1 hn with hn | hn
    · exact al n hn
    · rcases List.mem_cons.1 hn with rfl | hn
      · cases (takeRequest v p .byPreference .follow w).2 <;> exact id
      · obtain ⟨x, -, rfl⟩ := List.mem_map.1 hn
        exact id

/-! ### The notices of a FOLLOW request go to one link each (R188) -/

theorem touches_placed (p : Pos) (w : Work) : Touches p w (placed p w) := by
  unfold placed
  split
  · exact touches_placeHeld ..
  · exact touches_placeLatched ..

theorem touches_inWait (v : View) (p : Pos) (tr : Transition) (sel : Selection) (w : Work) :
    Touches p w (inWait v p tr sel w) := by
  cases sel with
  | refused r => exact Touches.refl p w
  | current => exact touches_abandon ..
  | held => exact (touches_abandon ..).trans (touches_placed ..)
  | target a =>
    dsimp only [inWait]
    split
    · exact touches_setContext ..
    · exact touches_replaceTarget ..

/-- A FOLLOW request acts on its position alone, before its walks. -/
theorem touches_takeRequest (v : View) (p : Pos) (w : Work) : Touches p w (takeRequest v p .byPreference .follow w).1 := by
  unfold takeRequest
  split
  · rw [actOnSelection_follow]
    exact (touches_dropHeld ..).trans (touches_atOnce ..)
  · split
    · rw [takeInWait_follow]
      exact touches_inWait ..
    · exact touches_placeLatched ..

theorem noAlls_of_touches {q : Pos} {w' : Work} (h : NoAlls w.raised) (t : Touches q w w') : NoAlls w'.raised := by
  obtain ⟨l, hl, al⟩ := t.raised
  exact hl ▸ noAlls_append h al

theorem heldEntries_noAlls (h : NoAlls w.raised) (l : List Pos) : NoAlls (l.foldl (heldEntry v) w).raised := by
  induction l generalizing w with
  | nil => exact h
  | cons q l ih => exact ih (noAlls_of_touches h (touches_heldEntry v w q))

theorem close_noAlls (h : NoAlls w.raised) : NoAlls (close v w).raised := by
  have held : NoAlls (heldWalkIfOwed v w).raised := by
    unfold heldWalkIfOwed
    split
    · exact heldEntries_noAlls h w.routes.held
    · exact h
  have examined : NoAlls (examineOwed v (heldWalkIfOwed v w)).raised := by
    rw [(examineOwed_frame ..).2.2.2.2.2.2.1]
    exact held
  unfold close
  generalize examineOwed v (heldWalkIfOwed v w) = x at examined ⊢
  unfold waitingWalkIfOwed
  split
  · obtain ⟨m, hm, am⟩ := walkEntries_raised v x.gate.waiting x
    simp only [Sys2Proof.Machine.waitingWalk, hm]
    exact noAlls_of_keys examined am
  · exact examined

theorem followRequest_noAlls (admitted : admission v p = none) (h : NoAlls w.raised) :
    NoAlls (followRequest v p w).raised := by
  rw [followRequest_raised, request_of_admitted admitted]
  intro n hn
  rcases List.mem_append.1 hn with hn | hn
  · exact close_noAlls (noAlls_of_touches h (touches_takeRequest v p w)) n hn
  · rcases List.mem_cons.1 hn with hn | hn
    · cases answer : (takeRequest v p .byPreference .follow w).2 <;> simp [answer, followNotice] at hn
    · simp at hn

end

end Sys2Proof.Proofs.Following

/-!
SUPPORT. A change of the band entry of a position (R25 to R27, R146): the re-check with its waiting walk, and the FOLLOW request
behind it.
-/
namespace Sys2Proof.Proofs.Rechecking
open Sys2Proof Sys2Proof.Machine Sys2Proof.Proofs.Delivery Sys2Proof.Proofs.Acting Sys2Proof.Proofs.Closing
open Sys2Proof.Proofs.Following

/-! ### The work behind the re-check -/

section
variable {s t : State} {p : Pos} {w₁ : Work}

theorem Reclassified.close_raised (h : Reclassified s w₁) : (close s.view (rechecking s.view p w₁)).raised =
    (s.waiting.foldl (walkEntry s.view) (examineOwed s.view (rechecking s.view p w₁))).raised := by
  rw [h.close_eq]

theorem Reclassified.examined_raised (h : Reclassified s w₁) : ∃ l,
    (examineOwed s.view (rechecking s.view p w₁)).raised = l ∧ (∀ n ∈ l, ∃ c, n = .key p .withdrawn c) ∧
    ((s.key p).state = .on → ∀ r c, recheckFailure s.bank w₁.toBlocks p = some (r, c) → l = [.key p .withdrawn c]) := by
  obtain ⟨l, hl, al, on⟩ := recheck_raised s.view p w₁
  refine ⟨l, ?_, al, fun h' => on (h.isOn_iff.2 h')⟩
  rw [(examineOwed_frame ..).2.2.2.2.2.2.1]
  exact hl.trans (by rw [h.raised, List.nil_append])

/-- The work behind the re-check owes nothing. -/
theorem Reclassified.clean_close (h : Reclassified s w₁) : Clean (close s.view (rechecking s.view p w₁)) := by
  obtain ⟨-, -, -, -, held, -, examineAll, examine, ended, faults, -⟩ := walkEntries_frame s.view s.waiting
    (examineOwed s.view (rechecking s.view p w₁))
  obtain ⟨-, -, -, -, -, -, -, held', -, faults', -⟩ := examineOwed_frame s.view (rechecking s.view p w₁)
  obtain ⟨-, -, -, -, -, held'', -, -, faults'', -⟩ := recheck_frame s.view p w₁
  obtain ⟨l, hl, al, -⟩ := h.examined_raised (p := p)
  obtain ⟨m, hm, am⟩ := walkEntries_raised s.view s.waiting (examineOwed s.view (rechecking s.view p w₁))
  rw [h.close_eq]
  refine ⟨held.trans (held'.trans (held''.trans h.clean.heldWalk)), rfl, examineAll, examine, ended,
    faults.trans (faults'.trans (faults''.trans h.clean.abandonFaults)), ?_⟩
  refine hm ▸ noAlls_of_keys (fun n hn => ?_) am
  obtain ⟨c, hc⟩ := al _ (hl ▸ hn)
  cases hc

/-- A withdrawal of the re-check is the last that is told of its position before the FOLLOW request (R146, R152). -/
theorem Reclassified.withdrawn_last (h : Reclassified s w₁) (on : (s.key p).state = .on) {r : Reason} {c : Option Pos}
    (failure : recheckFailure s.bank w₁.toBlocks p = some (r, c)) :
    LastOf (isKeyOf p) (.key p .withdrawn c) (close s.view (rechecking s.view p w₁)).raised := by
  obtain ⟨l, hl, -, told⟩ := h.examined_raised (p := p)
  have still (r : Reason) : ((examineOwed s.view (rechecking s.view p w₁)).gate.keys.get p).state ≠ .waiting r := by
    rw [examineOwed_gate]
    exact h.not_waiting_of_on on r
  obtain ⟨m, hm, am⟩ := walkEntries_raised_of_not_waiting s.view s.waiting _ still
  rw [h.close_raised, hm, hl, told on r c failure]
  exact (lastOf_concat _ _ []).append am

/-- A position that the re-check withdraws is neither ON nor WAITING behind it. -/
theorem Reclassified.barred (h : Reclassified s w₁) (on : (s.key p).state = .on) {r : Reason} {c : Option Pos}
    (failure : recheckFailure s.bank w₁.toBlocks p = some (r, c)) :
    ((afterRecheck s p w₁).key p).state = .barred r := by
  have failure : recheckFailure s.view.bank w₁.toBlocks p = some (r, c) := failure
  rw [h.key_of_not_waiting (h.not_waiting_of_on on), recheck_key, if_pos (h.isOn_iff.2 on), failure]
  rfl

theorem examinedContext_mode (v : View) (w : Work) (q : Pos) :
    (examinedContext v w q).mode = (w.context q).mode ∧
      ((w.context q).transition = none → examinedContext v w q = w.context q) := by
  unfold examinedContext
  split
  · exact ⟨rfl, fun _ => rfl⟩
  · rename_i tr here
    refine ⟨?_, fun none => absurd (here.symm.trans none) (by simp)⟩
    split <;> rfl

theorem Reclassified.context (h : Reclassified s w₁) (q : Pos) :
    ((afterRecheck s p w₁).context q).mode = (s.context q).mode ∧
      ((s.context q).transition = none → (afterRecheck s p w₁).context q = s.context q) := by
  have routes : (rechecking s.view p w₁).routes = s.blocks.routes := (recheck_frame ..).2.2.1.trans h.routes
  have before : (rechecking s.view p w₁).context q = s.context q := by rw [Work.context_eq, routes]
  have context : (afterRecheck s p w₁).context q = examinedContext s.view (rechecking s.view p w₁) q := by
    rw [State.context, h.walk_blocks, (walkEntries_frame ..).2.2.1, examineOwed_contexts]
  rw [context, ← before]
  exact examinedContext_mode ..

/-! ### The change of an entry -/

/-- The work `w`, which has changed classifier records alone, with the band entry of `p` set to `e`. -/
def withEntry (p : Pos) (e : Option PlanIx) (w : Work) : Work := w.setRecord p { w.record p with entry := e }

theorem Reclassified.withEntry {w : Work} (h : Reclassified s w) (p : Pos) (e : Option PlanIx) :
    Reclassified s (withEntry p e w) where
  clean := ⟨h.clean.heldWalk, h.clean.waitingWalk, h.clean.examineAll, h.clean.examine, h.clean.ended, h.clean.abandonFaults,
    h.clean.noAlls⟩
  blocks := congrArg (fun b : Blocks => { b with classifier := put w.classifier p { w.record p with entry := e } }) h.blocks
  raised := h.raised

theorem afterRecheck_frame (s : State) (p : Pos) (w : Work) :
    (afterRecheck s p w).blocks = (close s.view (rechecking s.view p w)).toBlocks ∧ (afterRecheck s p w).view = s.view ∧
      (afterRecheck s p w).ports = s.ports ∧ (afterRecheck s p w).bank = s.bank := by
  simp only [afterRecheck, State.view, and_self]

/-- The follow key changes when the band or the list differs, or there was none (R26). -/
theorem keyChanged_iff {b : Bank} {old : Option PlanIx} {i : PlanIx} :
    keyChanged (old.map (followKey b)) (followKey b i) = true ↔
      ∀ j ∈ old, (b.plan.get j).band ≠ (b.plan.get i).band ∨ (b.plan.get j).list ≠ (b.plan.get i).list := by
  cases old with
  | none => simp [keyChanged]
  | some j => simp [keyChanged, followKey, Prod.ext_iff, not_and_or, -not_and]

/-- The links are told the same of an event whichever state with their ports it is counted from. -/
theorem reports_of_ports {s u t : State} {R : List Raised} (h : Reports s t R) (ports : u.ports = s.ports) : Reports u t R := by
  refine ⟨h.noAlls, ?_⟩
  unfold State.port
  rw [ports]
  exact h.ports

/-- The FOLLOW request of a change is owed as R26 says. -/
theorem followOwed_iff {w : Work} (h : Reclassified s w) (e : Option PlanIx) :
    followOwed s.view (afterRecheck s p (withEntry p e w)).blocks p
      ((s.classRecord p).entry.map (followKey s.view.bank)) = true ↔ followsChange s p e := by
  have entry : (((afterRecheck s p (withEntry p e w)).blocks.classifier).get p).entry = e := by
    rw [((h.withEntry p e).walk_frame (p := p)).1]
    exact congrArg ClassRecord.entry (put_get_same _ _ _)
  have mode := ((h.withEntry p e).context (p := p) p).1
  unfold State.context at mode
  unfold followOwed
  rw [entry, mode]
  cases e with
  | none => simp
  | some i =>
    simp only [Bool.and_eq_true, decide_eq_true_eq, keyChanged_iff, and_assoc]
    exact and_congr_right fun _ => and_congr_right fun _ => and_congr_right fun _ =>
      ⟨fun differs => ⟨i, rfl, differs⟩, fun ⟨x, hx, differs⟩ => Option.some.inj hx ▸ differs⟩

/-- The change of an entry, and the FOLLOW request that is owed behind it (R26). -/
theorem changeEntry_eq {w : Work} (same : (w.record p).entry = (s.classRecord p).entry) {e : Option PlanIx}
    (other : e ≠ (s.classRecord p).entry) : changeEntry s.view p e w =
    if followOwed s.view (afterRecheck s p (withEntry p e w)).blocks p
        ((s.classRecord p).entry.map (followKey s.view.bank)) then
      followRequest s.view p (close s.view (rechecking s.view p (withEntry p e w)))
    else close s.view (rechecking s.view p (withEntry p e w)) := by
  rw [← same] at other ⊢
  rw [(afterRecheck_frame ..).1]
  unfold changeEntry
  dsimp only
  rw [if_neg other]
  rfl

theorem admission_of_followsChange {e : Option PlanIx} (owed : followsChange s p e) : admission s.view p = none := by
  obtain ⟨normal, on, -⟩ := owed
  simp [admission, State.view, enabled, normal, on]

/-- A change of an entry raises no notice to every link. -/
theorem changeEntry_noAlls {w : Work} (h : Reclassified s w) (same : (w.record p).entry = (s.classRecord p).entry)
    (e : Option PlanIx) : NoAlls (changeEntry s.view p e w).raised := by
  by_cases unchanged : e = (s.classRecord p).entry
  · rw [changeEntry, if_pos (unchanged.trans same.symm)]
    exact h.clean.noAlls
  · rw [changeEntry_eq same unchanged]
    have closed := ((h.withEntry p e).clean_close (p := p)).noAlls
    split
    · rename_i owed
      exact followRequest_noAlls (admission_of_followsChange ((followOwed_iff h e).1 owed)) closed
    · exact closed

/-- An event changes the band entry of `p` to `e`, which differs, and leaves `t`. -/
structure Changes (s t : State) (p : Pos) (e : Option PlanIx) (w : Work) : Prop where
  before : Reclassified s w
  same : (w.record p).entry = (s.classRecord p).entry
  other : e ≠ (s.classRecord p).entry
  view : t.view = s.view
  blocks : t.blocks = (changeEntry s.view p e w).toBlocks
  reports : Reports s t (changeEntry s.view p e w).raised

section
variable {e : Option PlanIx} {w : Work}

theorem Changes.eq (c : Changes s t p e w) : changeEntry s.view p e w =
    if followOwed s.view (afterRecheck s p (Rechecking.withEntry p e w)).blocks p
        ((s.classRecord p).entry.map (followKey s.view.bank)) then
      followRequest s.view p (close s.view (rechecking s.view p (Rechecking.withEntry p e w)))
    else close s.view (rechecking s.view p (Rechecking.withEntry p e w)) := changeEntry_eq c.same c.other

theorem Changes.reclassified (c : Changes s t p e w) : Reclassified s (Rechecking.withEntry p e w) := c.before.withEntry p e

/-- The FOLLOW request behind the re-check. -/
theorem Changes.follows (c : Changes s t p e w) (owed : followsChange s p e) :
    Follows (afterRecheck s p (Rechecking.withEntry p e w)) t p
      (close s.view (rechecking s.view p (Rechecking.withEntry p e w))) := by
  have eq := c.eq
  rw [if_pos ((followOwed_iff c.before e).2 owed)] at eq
  obtain ⟨blocks, view, ports, -⟩ := afterRecheck_frame s p (Rechecking.withEntry p e w)
  have admitted := admission_of_followsChange owed
  refine ⟨c.reclassified.clean_close, blocks.symm, c.view.trans view.symm, view.symm ▸ admitted, ?_, ?_⟩
  · rw [view, ← eq]
    exact c.blocks
  · rw [view, ← eq]
    exact reports_of_ports c.reports ports

theorem Changes.entry (c : Changes s t p e w) : (t.classRecord p).entry = e := by
  rw [State.classRecord, c.blocks, changeEntry_classifier, put_get_same]

theorem Changes.classifier (c : Changes s t p e w) :
    (afterRecheck s p (Rechecking.withEntry p e w)).blocks.classifier = t.blocks.classifier := by
  rw [c.reclassified.walk_frame.1, c.blocks, changeEntry_classifier]
  rfl

/-- Where no FOLLOW request follows, the event leaves what the re-check leaves. -/
theorem Changes.unfollowed (c : Changes s t p e w) (none : ¬ followsChange s p e) :
    changeEntry s.view p e w = close s.view (rechecking s.view p (Rechecking.withEntry p e w)) ∧
      t.blocks = (afterRecheck s p (Rechecking.withEntry p e w)).blocks := by
  have eq := c.eq
  rw [if_neg fun owed => none ((followOwed_iff c.before e).1 owed)] at eq
  exact ⟨eq, by rw [c.blocks, eq, (afterRecheck_frame ..).1]⟩

/-- What the waiting list was told by the walk of the re-check stands when no FOLLOW request follows it (R138, R152). -/
theorem Changes.waitersTold (c : Changes s t p e w) (none : ¬ followsChange s p e) (consistent : gateConsistent s) :
    waitersTold s t := by
  obtain ⟨eq, blocks⟩ := c.unfollowed none
  have reports := c.reports
  rw [eq, c.reclassified.close_raised] at reports
  obtain ⟨-, list, -, -, -⟩ := withdrawnState_frame s (afterRecheck s p (Rechecking.withEntry p e w)) p
  have begins := c.reclassified.walkBegins (p := p) consistent
  intro q hq few
  have last := walk_lastKey (t := t) begins (by rw [list, c.view, blocks, c.reclassified.walk_blocks]) (list ▸ hq)
  rw [list, c.view] at last
  exact ⟨fun on => reports.key (last.1 on) few, fun r barred => reports.key (last.2 r barred) few⟩

/-- A withdrawal of the re-check stands through the FOLLOW request, and is the last that is told of its position (R146, R152). -/
theorem Changes.withdrawn (c : Changes s t p e w) (on : (s.key p).state = .on) {r : Reason} {conflict : Option Pos}
    (failure : recheckFailure s.bank (Rechecking.withEntry p e w).toBlocks p = some (r, conflict)) :
    t.key p = (afterRecheck s p (Rechecking.withEntry p e w)).key p ∧
      ((s.port p).notices.length ≤ 4 → holdsNotice t p fun n => decide (n = t.keyTold p .withdrawn conflict)) := by
  have h := c.reclassified
  have eq := c.eq
  have reports := c.reports
  have last := h.withdrawn_last on failure
  have barred := h.barred on failure
  rw [State.key, (afterRecheck_frame ..).1] at barred
  rw [State.key, State.key, (afterRecheck_frame ..).1, c.blocks]
  split at eq
  · rename_i owed
    have admitted := admission_of_followsChange ((followOwed_iff c.before e).1 owed)
    obtain ⟨key, l, hl, al⟩ := followRequest_keyKept (v := s.view) admitted
      (w := close s.view (rechecking s.view p (Rechecking.withEntry p e w))) (by simp [isOn, barred]) (by simp [barred])
    rw [eq, hl] at reports
    rw [eq]
    exact ⟨key, reports.key (last.append al)⟩
  · rw [eq] at reports
    rw [eq]
    exact ⟨rfl, reports.key last⟩

/-- A change of the band entry hands on what R25 to R27 say. -/
theorem Changes.entryChanged (c : Changes s t p e w) : entryChanged s t p := by
  have h := c.reclassified
  refine ⟨afterRecheck s p (Rechecking.withEntry p e w), c.classifier, h.rechecked, ?_, ?_, fun on r conflict found => ?_⟩
  · rw [c.entry]
    exact fun owed => (c.follows owed).followRaised
  · rw [c.entry]
    exact fun none => ⟨(c.unfollowed none).2, c.waitersTold none⟩
  · refine c.withdrawn on (r := r) ?_
    rw [h.blocks, ← (h.walk_frame (p := p)).1, c.classifier]
    exact recheckFinds_iff.1 found

/-- The answer of the FOLLOW request of a position with no transition is told (R62). -/
theorem Changes.toldAtOnce (c : Changes s t p e w) (owed : followsChange s p e) (still : (s.context p).transition = none)
    (few : (s.port p).notices.length ≤ 4) : holdsNotice t p fun n => n.isRoute p .follow || n.isRoute p .refused := by
  have f := c.follows owed
  obtain ⟨-, -, ports, -⟩ := afterRecheck_frame s p (Rechecking.withEntry p e w)
  refine f.toldAtOnce ?_ ?_
  · rw [(c.reclassified.context (p := p) p).2 still, still]
  · rw [State.port, ports]
    exact few

end
end

end Sys2Proof.Proofs.Rechecking

/-!
SETTLE_EXPIRY and BAND_REPORT (O12, O11): each changes one classifier record, and hands a changed band entry on.
-/
namespace Sys2Proof.Proofs.Reports
open Sys2Proof Sys2Proof.Machine Sys2Proof.Proofs.Bytes Sys2Proof.Proofs.Take Sys2Proof.Proofs.Entries
open Sys2Proof.Proofs.Delivery Sys2Proof.Proofs.Closing Sys2Proof.Proofs.Rechecking

/-! ### The end of an event (R188) -/

/-- An event that does not tell the Commit Unit leaves the blocks and the notices. -/
theorem finish_of_untold (s : State) {w : Work} (h : w.commitTold = false) : s.finish w =
    { s with blocks := w.toBlocks, ports := w.raised.foldl (deliverOne s.banks.active w.toBlocks) s.ports } := by
  simp [State.finish, h]

theorem finish_view (s : State) (w : Work) : (s.finish w).view = s.view := by simp [State.view]

theorem port_eq_of_parts {a b : Port} (framer : b.framer = a.framer) (gapTimer : b.gapTimer = a.gapTimer)
    (inbound : b.inbound = a.inbound) (reply : b.reply = a.reply) (transmitter : b.transmitter = a.transmitter)
    (discarded : b.discarded = a.discarded) (cursor : b.cursor = a.cursor) :
    b = { a with notices := b.notices, dropped := b.dropped } := by
  obtain ⟨_, _, _, _, _, _, _, _, _⟩ := a
  obtain ⟨_, _, _, _, _, _, _, _, _⟩ := b
  simp_all

/-- An event changes at most the notices and the notices-dropped flags of the ports. -/
theorem noticesOnly_finish (s : State) (w : Work) : noticesOnly s.ports (s.finish w).ports := fun lp => by
  obtain ⟨framer, gapTimer, inbound, reply, transmitter, discarded, cursor⟩ := finish_port s w lp
  exact port_eq_of_parts framer gapTimer inbound reply transmitter discarded cursor

theorem blocksOnly_finish (s : State) {w : Work} (h : w.commitTold = false) : blocksOnly s (s.finish w) :=
  ⟨by rw [finish_of_untold s h], noticesOnly_finish s w⟩

theorem placeReply_port (s : State) (lp : Pos) (cls : Byte) (r : Result) (q : Pos) :
    (s.placeReply lp cls r).ports.get q =
      if q = lp then { s.ports.get q with reply := some ⟨cls, r⟩ } else s.ports.get q := by
  refine (put_get _ _ _ _).trans ?_
  split <;> rename_i own
  · rw [own]
  · rfl

/-- A reply placed behind an event is the reply of the frame answered (R186). -/
theorem blocksOnly_placeReply {s t : State} {lp : Pos} {cls : Byte} {r : Result} (h : blocksOnly (s.take lp) t) :
    blocksOnly (s.answered lp cls r) (t.placeReply lp cls r) := by
  obtain ⟨eq, ports⟩ := h
  rw [← placeReply_take]
  refine ⟨?_, fun q => ?_⟩
  · rw [eq]
    rfl
  · rw [placeReply_port, placeReply_port]
    split
    · exact congrArg (fun pt : Port => { pt with reply := some ⟨cls, r⟩ }) (ports q)
    · exact ports q

theorem reports_finish {s s₀ : State} {w : Work} (ports : ∀ q, (s₀.port q).notices = (s.port q).notices) (noAlls : NoAlls w.raised) :
    Reports s (s₀.finish w) w.raised :=
  ⟨noAlls, s₀.ports, ports, fun q => by
    have frame := finish_frame s₀ w
    rw [State.port, finish_ports, State.bank, frame.2.2.2.2.2.2.2.2.2.2.1, frame.2.2.2.2.2.2.2.2.2.1]⟩

/-! ### An event that changes one classifier record -/

/-- The work at the start of an event from `s` with the classifier record of `p` replaced. -/
def startWith (s : State) (p : Pos) (r : ClassRecord) : Work := (Work.start s.blocks).setRecord p r

theorem reclassified_startWith (s : State) (p : Pos) (r : ClassRecord) : Reclassified s (startWith s p r) :=
  ⟨⟨rfl, rfl, rfl, rfl, rfl, rfl, fun _ => List.not_mem_nil⟩, rfl, rfl⟩

theorem startWith_record (s : State) (p : Pos) (r : ClassRecord) : (startWith s p r).record p = r := put_get_same _ _ _

/-- An event that replaces the record of `p`, keeping its entry, and then changes the entry (R25). -/
theorem changes_finish {s s₀ t : State} {p : Pos} {r : ClassRecord} {e : Option PlanIx}
    (same : r.entry = (s.classRecord p).entry) (other : e ≠ (s.classRecord p).entry) (view : t.view = s.view)
    (blocks : t.blocks = (s₀.finish (changeEntry s.view p e (startWith s p r))).blocks)
    (ports : ∀ q, (s₀.port q).notices = (s.port q).notices) (bank : s₀.bank = s.bank)
    (told : ∀ q, (t.port q).notices = ((s₀.finish (changeEntry s.view p e (startWith s p r))).port q).notices) :
    Changes s t p e (startWith s p r) := by
  have record : ((startWith s p r).record p).entry = (s.classRecord p).entry := by rw [startWith_record, same]
  have left : t.blocks = (changeEntry s.view p e (startWith s p r)).toBlocks :=
    blocks.trans (finish_frame s₀ _).2.2.2.2.2.2.2.2.2.1
  have sameBank : t.bank = s₀.bank := (congrArg View.bank view).trans bank.symm
  refine ⟨reclassified_startWith s p r, record, other, view, left, changeEntry_noAlls (reclassified_startWith s p r) record e,
    s₀.ports, ports, fun q => ?_⟩
  rw [told, State.port, finish_ports, left, sameBank]

/-- An unchanged entry changes the classifier alone (R25). -/
theorem changeEntry_same {s : State} {p : Pos} {r : ClassRecord} {e : Option PlanIx} (same : e = r.entry) :
    changeEntry s.view p e (startWith s p r) = startWith s p r := by
  unfold changeEntry
  exact if_pos (same.trans (congrArg ClassRecord.entry (startWith_record s p r)).symm)

/-! ### SETTLE_EXPIRY (R24) -/

theorem exec_settleExpiry (p : Pos) (s : State) : exec (.settleExpiry p) s = .next (s.settleExpiry p) := rfl

theorem settleEnd_start (s : State) (p : Pos) (code : LineCode) : settleEnd s.view p code (Work.start s.blocks) =
    changeEntry s.view p (lineSearch s.bank code)
      (startWith s p { s.classRecord p with settled := some code, settleTimer := none }) := rfl

/-- The code on four lines is below 16 (R23). -/
theorem lineCode_val (s : State) (p : Pos) : (s.lineCode p).val = flag (s.pinLevel p 0) + 2 * flag (s.pinLevel p 1)
    + 4 * flag (s.pinLevel p 2) + 8 * flag (s.pinLevel p 3) := by
  have le (b : Bool) : flag b ≤ 1 := by cases b <;> decide
  have h0 := le (s.pinLevel p 0)
  have h1 := le (s.pinLevel p 1)
  have h2 := le (s.pinLevel p 2)
  have h3 := le (s.pinLevel p 3)
  exact Nat.mod_eq_of_lt (by omega)

/-- The Line Code Map names a valid entry of the Band Plan, or none (R24). -/
theorem lineSearch_eq_some {b : Bank} {code : LineCode} {i : PlanIx} :
    lineSearch b code = some i ↔ b.lineCodes.get code = some (i.val + 1) ∧ (b.plan.get i).valid = true := by
  unfold lineSearch
  cases b.lineCodes.get code with
  | none => simp
  | some n =>
    cases named : ofNum 24 n with
    | none =>
      simp only [named, reduceCtorEq, Option.some.injEq, false_iff, not_and]
      rintro rfl
      have found : ofNum 24 (i.val + 1) = some i := ofNum_eq_some.2 (Nat.add_comm _ _)
      simp [found] at named
    | some j =>
      obtain rfl : n = 1 + j.val := ofNum_eq_some.1 named
      have index : 1 + j.val = i.val + 1 ↔ j = i := by rw [Nat.add_comm, Nat.add_right_cancel_iff, Fin.ext_iff]
      simp only [named, Option.some.injEq, index]
      split <;> rename_i valid <;> simp only [Option.some.injEq, reduceCtorEq, false_iff]
      · exact ⟨fun h => ⟨h, h ▸ valid⟩, And.left⟩
      · exact fun ⟨h, valid'⟩ => valid (h ▸ valid')

/-- Settles O12: the event replaces one classifier record, and a changed entry is handed on by `Changes.entryChanged`. -/
theorem settleExpiryTakesCode : Obligations.SettleExpiryTakesCode := by
  intro s p
  refine ⟨fun running => ?_, fun stopped => ?_⟩
  · obtain ⟨ms, timer⟩ := Option.isSome_iff_exists.1 running
    obtain ⟨monitor, source, coils, untold⟩ := settleEnd_frame s.view p (s.lineCode p) (Work.start s.blocks)
    have left : (s.event fun v w => settleEnd v p (s.lineCode p) w).blocks =
        (settleEnd s.view p (s.lineCode p) (Work.start s.blocks)).toBlocks := (event_frame ..).2.2.2.2.2.2.2.2.2.1
    have records : (s.event fun v w => settleEnd v p (s.lineCode p) w).blocks.classifier =
        put s.blocks.classifier p { s.classRecord p with
          settled := some (s.lineCode p), settleTimer := none, entry := lineSearch s.bank (s.lineCode p) } := by
      rw [left, settleEnd_record]
      rfl
    have own : (s.event fun v w => settleEnd v p (s.lineCode p) w).classRecord p = { s.classRecord p with
        settled := some (s.lineCode p), settleTimer := none, entry := lineSearch s.bank (s.lineCode p) } := by
      rw [State.classRecord, records, put_get_same]
    refine ⟨s.event fun v w => settleEnd v p (s.lineCode p) w, ?_, blocksOnly_finish s untold,
      ⟨s.lineCode p, lineCode_val s p, by rw [own], fun i => by rw [own]; exact lineSearch_eq_some⟩, fun q other => ?_,
      left ▸ monitor, left ▸ coils, ?_, fun same => ?_, fun changed => ?_⟩
    · have timer : (s.blocks.classifier.get p).settleTimer = some ms := timer
      rw [exec_settleExpiry, State.settleExpiry, timer]
    · rw [State.classRecord, records, put_get_other _ _ other]
    · rw [State.source, left]
      exact source
    · rw [own] at same
      rw [left, settleEnd_start, changeEntry_same (r := { s.classRecord p with
        settled := some (s.lineCode p), settleTimer := none }) same]
      rfl
    · rw [own] at changed
      exact (changes_finish (s := s) (s₀ := s) (r := { s.classRecord p with settled := some (s.lineCode p), settleTimer := none })
        (e := lineSearch s.bank (s.lineCode p)) rfl changed (finish_view ..) rfl (fun _ => rfl) rfl fun _ => rfl).entryChanged
  · have stopped : (s.blocks.classifier.get p).settleTimer = none := stopped
    rw [exec_settleExpiry, State.settleExpiry, stopped]

/-! ### BAND_REPORT (R21) -/

theorem exec_bandReport (lp : Pos) (body : List Byte) (s : State) :
    exec (.bandReport lp body) s = .next (s.handle lp 0x01 body fun s => s.bandReport lp body) := rfl

/-- The band entry that a report of frequency `f` gives position `p` (R21). -/
def reportedEntry (s : State) (p : Pos) (f : Nat) : Option PlanIx :=
  if (s.classRecord p).source = .link then planSearch s.bank f else (s.classRecord p).entry

theorem takeReport_start (s : State) (p : Pos) (f : Nat) : takeReport s.view p f (Work.start s.blocks) =
    changeEntry s.view p (reportedEntry s p f) (startWith s p { s.classRecord p with frequency := some f }) := by
  have source : ((startWith s p { s.classRecord p with frequency := some f }).record p).source = (s.classRecord p).source := by
    rw [startWith_record]
  change (match ((startWith s p { s.classRecord p with frequency := some f }).record p).source with
    | .link => changeEntry s.view p (planSearch s.bank f) (startWith s p { s.classRecord p with frequency := some f })
    | .lines => startWith s p { s.classRecord p with frequency := some f }) = _
  rw [source, reportedEntry]
  cases (s.classRecord p).source with
  | link => rfl
  | lines => exact (changeEntry_same rfl).symm

/-- The event of a BAND REPORT of link `lp`, behind the take of its frame. -/
def reportEvent (s : State) (lp : Pos) (f : Nat) : State := (s.take lp).event fun v w => takeReport v lp f w

theorem reportEvent_eq (s : State) (lp : Pos) (f : Nat) : reportEvent s lp f = (s.take lp).finish
    (changeEntry s.view lp (reportedEntry s lp f) (startWith s lp { s.classRecord lp with frequency := some f })) :=
  congrArg (s.take lp).finish (takeReport_start s lp f)

theorem reportEvent_blocks (s : State) (lp : Pos) (f : Nat) :
    (reportEvent s lp f).blocks = (takeReport s.view lp f (Work.start s.blocks)).toBlocks :=
  (event_frame ..).2.2.2.2.2.2.2.2.2.1

theorem reportEvent_classifier (s : State) (lp : Pos) (f : Nat) : (reportEvent s lp f).blocks.classifier =
    put s.blocks.classifier lp { s.classRecord lp with frequency := some f, entry := reportedEntry s lp f } := by
  rw [reportEvent_blocks, takeReport_record]
  rfl

/-- The state a BAND REPORT leaves: its event, and its reply. -/
def reported (s : State) (lp : Pos) (f : Nat) : State := (reportEvent s lp f).placeReply lp 0x01
  (.done (reportBytes (reportEvent s lp f).banks.active ((reportEvent s lp f).blocks.classifier.get lp)))

theorem exec_reported {s : State} {lp : Pos} {hi lo : Byte} (h : s.handlerNext = some (lp, ⟨0x01, [hi, lo]⟩)) :
    exec (.bandReport lp [hi, lo]) s = .next (reported s lp (hi.toNat * 256 + lo.toNat)) := by
  rw [exec_bandReport, handle_taken _ h]
  rfl

/-- The record that the reply reports (R21, R190). -/
theorem reportedBytes (s : State) (lp : Pos) (f : Nat) :
    reportBytes (reportEvent s lp f).banks.active ((reportEvent s lp f).blocks.classifier.get lp) =
      reportBytes s.bank { s.classRecord lp with frequency := some f, entry := reportedEntry s lp f } := by
  have bank : (reportEvent s lp f).banks.active = s.bank := (event_frame ..).2.2.2.2.2.2.2.2.2.2.1
  rw [bank, reportEvent_classifier, put_get_same]

theorem blocksOnly_reported (s : State) (lp : Pos) (f : Nat) :
    blocksOnly (s.answered lp 0x01 (.done (reportBytes (reportEvent s lp f).banks.active
      ((reportEvent s lp f).blocks.classifier.get lp)))) (reported s lp f) :=
  blocksOnly_placeReply (blocksOnly_finish (s.take lp) (takeReport_frame s.view lp f (Work.start s.blocks)).2.2.2)

theorem take_notices (s : State) (lp q : Pos) : ((s.take lp).port q).notices = (s.port q).notices := by
  change ((put s.ports lp _).get q).notices = _
  rw [put_get]
  split <;> rename_i own
  · rw [own]
  · rfl

/-- A changed entry of a BAND REPORT is handed on (R25). -/
theorem changes_reported {s : State} {lp : Pos} {f : Nat} (changed : reportedEntry s lp f ≠ (s.classRecord lp).entry) :
    Changes s (reported s lp f) lp (reportedEntry s lp f) (startWith s lp { s.classRecord lp with frequency := some f }) := by
  refine changes_finish (s₀ := s.take lp) rfl changed (finish_view (s.take lp) _) (congrArg State.blocks (reportEvent_eq s lp f) :)
    (take_notices s lp) rfl fun q => ?_
  rw [State.port, reported, placeReply_port, ← reportEvent_eq]
  split <;> rfl

/-- Settles O11: as O12, behind the take of the frame and before its reply. -/
theorem bandReportClassifies : Obligations.BandReportClassifies := by
  intro s lp hi lo e h he
  obtain rfl : e = reportedEntry s lp (hi.toNat * 256 + lo.toNat) := he
  obtain ⟨monitor, source, coils, -⟩ := takeReport_frame s.view lp (hi.toNat * 256 + lo.toNat) (Work.start s.blocks)
  have left : (reported s lp (hi.toNat * 256 + lo.toNat)).blocks = _ := reportEvent_blocks s lp (hi.toNat * 256 + lo.toNat)
  have records : (reported s lp (hi.toNat * 256 + lo.toNat)).blocks.classifier = _ :=
    reportEvent_classifier s lp (hi.toNat * 256 + lo.toNat)
  refine ⟨reported s lp (hi.toNat * 256 + lo.toNat), exec_reported h, ?_, ?_, fun q other => ?_, left ▸ monitor, left ▸ coils, ?_,
    fun same => ?_, fun changed => (changes_reported changed).entryChanged,
    fun i hi changed normal on follow still few differs => ?_⟩
  · refine (congrArg (fun l => blocksOnly (s.answered lp 0x01 (.done l)) (reported s lp _)) ?_).mpr (blocksOnly_reported s lp _)
    rw [reportedBytes, reportBytes]
    cases (s.classRecord lp).source with
    | lines => rfl
    | link => cases reportedEntry s lp (hi.toNat * 256 + lo.toNat) <;> rfl
  · rw [State.classRecord, records, put_get_same]
  · rw [State.classRecord, records, put_get_other _ _ other]
  · rw [State.source, left]
    exact source
  · rw [left, takeReport_start, changeEntry_same (r := { s.classRecord lp with
      frequency := some (hi.toNat * 256 + lo.toNat) }) same]
    rfl
  · exact (changes_reported changed).toldAtOnce ⟨normal, on, follow, i, hi, differs⟩ still few

end Sys2Proof.Proofs.Reports

/-!
SUPPORT. What a FOLLOW request with its walks leaves of every position (R48 to R50): its mode, its current antenna and its effective
claims.
-/
namespace Sys2Proof.Proofs.Resuming
open Sys2Proof Sys2Proof.Machine Sys2Proof.Proofs.Acting Sys2Proof.Proofs.Closing Sys2Proof.Proofs.Following

/-- The mode, the current antenna and the effective claims of every position stand between `w` and `w'`. -/
def Standing (w w' : Work) : Prop :=
  ∀ q : Pos, (w'.routes.contexts.get q).mode = (w.routes.contexts.get q).mode ∧
    (w'.routes.contexts.get q).antenna = (w.routes.contexts.get q).antenna ∧
    (w'.image.claims.get q).effective = (w.image.claims.get q).effective

theorem Standing.refl (w : Work) : Standing w w := fun _ => ⟨rfl, rfl, rfl⟩

theorem Standing.trans {w w' w'' : Work} (h : Standing w w') (k : Standing w' w'') : Standing w w'' := fun q =>
  ⟨(k q).1.trans (h q).1, (k q).2.1.trans (h q).2.1, (k q).2.2.trans (h q).2.2⟩

/-- An operation on position `p` that leaves its mode and its current antenna. -/
theorem standing_of_touches {p : Pos} {w w' : Work} (t : Touches p w w')
    (mode : (w'.routes.contexts.get p).mode = (w.routes.contexts.get p).mode)
    (antenna : (w'.routes.contexts.get p).antenna = (w.routes.contexts.get p).antenna) : Standing w w' := by
  intro q
  by_cases own : q = p
  · subst own
    exact ⟨mode, antenna, t.effective⟩
  · rw [t.contexts q own, t.claims q own]
    exact ⟨rfl, rfl, rfl⟩

theorem standing_of_contexts {w w' : Work} (contexts : w'.routes.contexts = w.routes.contexts)
    (claims : w'.image.claims = w.image.claims) : Standing w w' := fun q => by
  rw [contexts, claims]
  exact ⟨rfl, rfl, rfl⟩

section
variable (v : View) (p : Pos) (w : Work)

/-- The replacement of a context by one with the same mode and antenna. -/
theorem standing_setContext {c : Context} (mode : c.mode = (w.context p).mode) (antenna : c.antenna = (w.context p).antenna) :
    Standing w (w.setContext p c) :=
  standing_of_touches (touches_setContext p c w) ((congrArg Context.mode (put_get_same _ _ _)).trans mode)
    ((congrArg Context.antenna (put_get_same _ _ _)).trans antenna)

theorem standing_dropHeld : Standing w (dropHeld p w) := by
  unfold dropHeld
  split
  · exact Standing.refl w
  · split
    · exact Standing.refl w
    · exact standing_setContext p w (c := { w.context p with slot := none }) rfl rfl

theorem standing_heldToLatched : Standing w (heldToLatched p w) := by
  unfold heldToLatched
  split
  · exact Standing.refl w
  · split
    · exact Standing.refl w
    · rename_i r _ _ _
      exact standing_setContext p w (c := { w.context p with slot := some { r with status := .latched } }) rfl rfl

theorem standing_startTransition (kind : RequestKind) (cause : Cause) (target : Option Ant) (start : RouteState) :
    Standing w (startTransition v p kind cause target start w) := by
  refine standing_of_touches (touches_startTransition ..) ?_ ?_ <;> rw [startTransition_contexts, put_get_same]

theorem standing_withdraw (r : Reason) (c : Option Pos) : Standing w (withdraw v p r c w) :=
  standing_of_contexts (congrArg Routes.contexts (withdraw_frame ..).2.2.1) (congrArg CoilImage.claims (withdraw_frame ..).2.2.2.1)

theorem standing_faultRoute : Standing w (faultRoute v p w) := by
  have faulted := standing_setContext p w (c := { w.context p with state := .faulted }) rfl rfl
  have owed (w : Work) : Standing w { w with waitingWalk := true } := standing_of_contexts rfl rfl
  simp only [faultRoute]
  have latched := (faulted.trans (standing_withdraw v p _ .fault none)).trans (standing_heldToLatched p _)
  exact (latched.trans (standing_startTransition v p _ .release .fault none .routed)).trans (owed _)

theorem standing_freed (tr : Transition) : Standing w (freed p tr w) := by
  refine standing_of_touches (touches_freed p tr w) ?_ ?_ <;> rw [freed_context]

theorem standing_freedIntoFault (tr : Transition) : Standing w (freedIntoFault v p tr w) := by
  have blocks := (freedIntoFault_frame v p tr w).1
  exact ((standing_freed p w tr).trans (standing_faultRoute v p _)).trans
    (standing_of_contexts (congrArg (fun b : Blocks => b.routes.contexts) blocks)
      (congrArg (fun b : Blocks => b.image.claims) blocks))

theorem standing_abandon : Standing w (abandon v p w) := by
  cases h : (w.routes.contexts.get p).transition with
  | none =>
    have here : (w.context p).transition = none := h
    unfold abandon
    simp only [here]
    exact Standing.refl w
  | some tr =>
    rw [abandon_eq h]
    split
    · exact standing_freedIntoFault v p w tr
    · exact standing_freed p w tr

theorem standing_placed : Standing w (placed p w) := by
  unfold placed
  split <;> exact standing_setContext p w (c := { w.context p with slot := _ }) rfl rfl

theorem standing_inWait (tr : Transition) (sel : Selection) : Standing w (inWait v p tr sel w) := by
  cases sel with
  | refused r => exact Standing.refl w
  | current => exact standing_abandon v p w
  | held => exact (standing_abandon v p w).trans (standing_placed p _)
  | target a =>
    dsimp only [inWait]
    split
    · exact standing_setContext p w (c := { w.context p with transition := _ }) rfl rfl
    · refine standing_of_touches (touches_replaceTarget ..) ?_ ?_ <;> rw [replaceTarget_context]

theorem standing_atOnce (sel : Selection) : Standing w (atOnce v p sel w) := by
  cases sel with
  | refused r => exact Standing.refl w
  | current => exact Standing.refl w
  | held => exact standing_setContext p w (c := { w.context p with slot := _ }) rfl rfl
  | target a => exact standing_startTransition v p w _ _ _ _

theorem standing_takeRequest : Standing w (takeRequest v p .byPreference .follow w).1 := by
  unfold takeRequest
  split
  · rw [actOnSelection_follow]
    exact (standing_dropHeld p w).trans (standing_atOnce v p _ _)
  · split
    · rw [takeInWait_follow]
      exact standing_inWait v p w _ _
    · exact standing_setContext p w (c := { w.context p with slot := _ }) rfl rfl

theorem standing_leaveHeld : Standing w (leaveHeld p w) :=
  standing_setContext p w (c := { w.context p with slot := none }) rfl rfl

theorem standing_heldEntry : Standing w (heldEntry v w p) := by
  unfold heldEntry
  split
  · exact Standing.refl w
  · split
    · exact Standing.refl w
    · split
      · exact Standing.refl w
      · exact (standing_leaveHeld p w).trans (standing_startTransition v p _ _ _ _ _)
      · exact standing_leaveHeld p w
      · exact standing_leaveHeld p w

variable {w}

theorem standing_fold {f : Work → Pos → Work} (h : ∀ w p, Standing w (f w p)) (l : List Pos) (w : Work) :
    Standing w (l.foldl f w) := by
  induction l generalizing w with
  | nil => exact Standing.refl w
  | cons p l ih => exact (h w p).trans (ih _)

variable (w)

theorem standing_heldWalkIfOwed : Standing w (heldWalkIfOwed v w) := by
  have entries := standing_fold (fun w p => standing_heldEntry v p w) w.routes.held w
  have done (w : Work) : Standing w { w with heldWalk := false } := standing_of_contexts rfl rfl
  cases owed : w.heldWalk with
  | false =>
    rw [heldWalkIfOwed_of_not_owed _ owed]
    exact Standing.refl w
  | true =>
    rw [heldWalkIfOwed_of_owed _ owed]
    exact entries.trans (done _)

theorem standing_examineOwed : Standing w (examineOwed v w) := by
  intro q
  rw [examineOwed_contexts, (examineOwed_frame ..).2.2.2.2.1]
  unfold examinedContext
  split
  · exact ⟨rfl, rfl, rfl⟩
  · split <;> exact ⟨rfl, rfl, rfl⟩

theorem standing_waitingWalkIfOwed : Standing w (waitingWalkIfOwed v w) := by
  have frame := waitingWalkIfOwed_frame v w
  exact standing_of_contexts (congrArg Routes.contexts frame.2.2.1) (congrArg CoilImage.claims frame.2.2.2.1)

theorem standing_close : Standing w (close v w) := by
  unfold close
  exact ((standing_heldWalkIfOwed v w).trans (standing_examineOwed v _)).trans (standing_waitingWalkIfOwed v _)

theorem standing_followRequest : Standing w (followRequest v p w) := by
  have taken : Standing w (request v p .byPreference .follow w).1 := by
    unfold request
    split
    · exact Standing.refl w
    · exact standing_takeRequest v p w
  have blocks := followRequest_blocks v p w
  exact (taken.trans (standing_close v _)).trans
    (standing_of_contexts (congrArg (fun b : Blocks => b.routes.contexts) blocks)
      (congrArg (fun b : Blocks => b.image.claims) blocks))

theorem standing_resumeFollow : Standing w (resumeFollow v w p) := by
  unfold resumeFollow
  split
  · exact standing_followRequest v p w
  · exact Standing.refl w

end

/-! ### The recompute of every coil (R97) -/

/-- The record of coil `c` once it is recomputed. -/
def recomputedCoil (v : View) (w : Blocks) (c : Coil) : CoilRecord :=
  if derivedValue v w c = (w.image.coils.get c).commanded then w.image.coils.get c
  else { w.image.coils.get c with
    commanded := derivedValue v w c, drive := derivedValue v w c, blank := some v.bank.timing.blankMs }

/-- The derived value reads the source, the effective claims, and the trip and the frozen value of the coil (R96). -/
theorem derivedValue_congr {v : View} {w w' : Blocks} {c : Coil} (source : w'.image.source = w.image.source)
    (claims : ∀ q : Pos, (w'.image.claims.get q).effective = (w.image.claims.get q).effective)
    (trip : (w'.image.coils.get c).trip = (w.image.coils.get c).trip)
    (frozen : (w'.image.coils.get c).frozen = (w.image.coils.get c).frozen) : derivedValue v w' c = derivedValue v w c := by
  have claimed : claimedValue w' c = claimedValue w c := by simp only [claimedValue, claims]
  simp only [derivedValue, composedValue, source, claimed, trip, frozen]

theorem recompute_own (v : View) (w : Work) (c : Coil) : (recompute v w c).image.coils.get c = recomputedCoil v w.toBlocks c := by
  unfold recompute recomputedCoil
  split
  · rename_i same
    exact (if_pos same).symm
  · rename_i changed
    exact (put_get_same _ _ _).trans (if_neg changed).symm

theorem recompute_other (v : View) (w : Work) {c d : Coil} (h : c ≠ d) :
    (recompute v w d).image.coils.get c = w.image.coils.get c := by
  unfold recompute
  split
  · rfl
  · exact put_get_other _ _ h

theorem recomputedCoil_congr {v : View} {w w' : Blocks} {c : Coil} (source : w'.image.source = w.image.source)
    (claims : ∀ q : Pos, (w'.image.claims.get q).effective = (w.image.claims.get q).effective)
    (coil : w'.image.coils.get c = w.image.coils.get c) : recomputedCoil v w' c = recomputedCoil v w c := by
  simp only [recomputedCoil, coil, derivedValue_congr (v := v) source claims (by rw [coil]) (by rw [coil])]

/-- A recompute of coils recomputes each of them once. -/
theorem recomputeAll_coil (v : View) (l : List Coil) (w : Work) (n : l.Nodup) (c : Coil) :
    (recomputeAll v l w).image.coils.get c = if c ∈ l then recomputedCoil v w.toBlocks c else w.image.coils.get c := by
  induction l generalizing w with
  | nil => rfl
  | cons d l ih =>
    obtain ⟨notMem, nodup⟩ := List.nodup_cons.1 n
    have frame := recompute_frame v w d
    have tail := ih (recompute v w d) nodup
    rw [show recomputeAll v (d :: l) w = recomputeAll v l (recompute v w d) from rfl, tail]
    by_cases own : c = d
    · subst own
      simp [notMem, recompute_own]
    · have coil := recompute_other v w own
      simp only [List.mem_cons, own, false_or, coil]
      rw [recomputedCoil_congr (w := w.toBlocks) frame.2.2.2.2.2.1 (fun q => by rw [frame.2.2.2.1]) coil]

end Sys2Proof.Proofs.Resuming

/-!
SUPPORT. An accepted RESUME but for its FOLLOW requests (R97, R150, R174): the refusals, the modes, the recompute of every coil and
the STATION NOTICE.
-/
namespace Sys2Proof.Proofs.Resuming
open Sys2Proof Sys2Proof.Machine Sys2Proof.Proofs.Take Sys2Proof.Proofs.Delivery Sys2Proof.Proofs.Acting Sys2Proof.Proofs.Closing
open Sys2Proof.Proofs.Following Sys2Proof.Proofs.Reports

/-! ### The event and its parts -/

/-- The station behind an accepted RESUME (R174). -/
def resumedStation (s : State) : Station := { s.station with mode := .normal, causes := CauseSet.empty }

/-- The STATION NOTICE of an accepted RESUME of link `lp` (R174, R191). -/
def resumedNotice (lp : Pos) : Notice := .station .resumed .normal CauseSet.empty .routing (num lp) false

/-- The state whose blocks an accepted RESUME of link `lp` changes: its frame is taken, and the station NORMAL. -/
def atResume (s : State) (lp : Pos) : State := { s.take lp with station := resumedStation s }

/-- The work in which every position has its default mode and the source is ROUTING (R174). -/
def defaulted (v : View) (w : Work) : Work := (positions.foldl (takeDefaultMode v.bank) w).setSource .routing

/-- The work of an accepted RESUME before its FOLLOW requests (R174). -/
def announced (v : View) (lp : Pos) (w : Work) : Work := (recomputeAll v coils (defaulted v w)).raise (.all (resumedNotice lp))

/-- The event of an accepted RESUME in which the modes and the source are set. -/
def defaultedWork (s : State) (lp : Pos) : Work := defaulted (atResume s lp).view (Work.start s.blocks)

/-- The event of an accepted RESUME before its FOLLOW requests. -/
def announcedWork (s : State) (lp : Pos) : Work := announced (atResume s lp).view lp (Work.start s.blocks)

/-- The event of an accepted RESUME (R174). -/
def resumeWork (s : State) (lp : Pos) : Work := positions.foldl (resumeFollow (atResume s lp).view) (announcedWork s lp)

/-- The state behind an accepted RESUME and its reply. -/
def afterResume (s : State) (lp : Pos) : State := ((atResume s lp).finish (resumeWork s lp)).placeReply lp 0x0E (.done [])

theorem exec_resume (lp : Pos) (s : State) :
    exec (.resume lp []) s = .next (s.handle lp 0x0E [] (emptyBody [] fun s => s.resumeRequest lp)) := rfl

theorem resume_eq (s : State) (lp : Pos) : (s.take lp).resume lp = (atResume s lp).finish (resumeWork s lp) := rfl

theorem resumeRefused_iff (s : State) : s.resumeRefused = true ↔
    s.station.mode ≠ .failsafe ∨ s.source = .frozen ∨ s.supply.level ≠ .good ∨ s.banks.valid = false := by
  simp [State.resumeRefused, or_assoc]

/-- A refused RESUME answers STATE, and changes nothing else (R174). -/
theorem exec_resume_refused {s : State} {lp : Pos} (h : s.handlerNext = some (lp, ⟨0x0E, []⟩))
    (refused : s.resumeRefused = true) :
    exec (.resume lp []) s = .next (s.answered lp 0x0E (.refused .state)) := by
  have taken : (s.take lp).resumeRefused = true := refused
  exact (exec_resume lp s).trans (congrArg Host.Outcome.next (handle_answered h (if_pos taken)))

theorem exec_resume_accepted {s : State} {lp : Pos} (h : s.handlerNext = some (lp, ⟨0x0E, []⟩))
    (accepted : s.resumeRefused = false) : exec (.resume lp []) s = .next (afterResume s lp) := by
  have taken : (s.take lp).resumeRequest lp = ((s.take lp).resume lp, .done []) :=
    if_neg (by rw [show (s.take lp).resumeRefused = s.resumeRefused from rfl, accepted]; exact Bool.false_ne_true)
  rw [exec_resume, handle_taken _ h]
  simp only [emptyBody, taken, resume_eq]
  rfl

/-! ### The frames -/

section
variable (v : View) (l : List Pos) (w : Work)

theorem takeDefaultModes_frame (b : Bank) : (l.foldl (takeDefaultMode b) w).classifier = w.classifier ∧
    (l.foldl (takeDefaultMode b) w).monitor = w.monitor ∧ (l.foldl (takeDefaultMode b) w).routes.antennas = w.routes.antennas ∧
    (l.foldl (takeDefaultMode b) w).routes.held = w.routes.held ∧ (l.foldl (takeDefaultMode b) w).image = w.image ∧
    (l.foldl (takeDefaultMode b) w).gate = w.gate ∧ (l.foldl (takeDefaultMode b) w).raised = w.raised ∧
    (l.foldl (takeDefaultMode b) w).commitTold = w.commitTold := by
  induction l generalizing w with
  | nil => simp
  | cons p l ih => simpa using ih (takeDefaultMode b w p)

theorem takeDefaultModes_context (b : Bank) (n : l.Nodup) (q : Pos) :
    (l.foldl (takeDefaultMode b) w).routes.contexts.get q = { w.routes.contexts.get q with
      mode := if q ∈ l then (b.positions.get q).defaultMode else (w.routes.contexts.get q).mode } := by
  induction l generalizing w with
  | nil => rfl
  | cons p l ih =>
    obtain ⟨notMem, nodup⟩ := List.nodup_cons.1 n
    rw [List.foldl_cons, ih (takeDefaultMode b w p) nodup]
    by_cases own : q = p
    · subst own
      rw [show (takeDefaultMode b w q).routes.contexts.get q = _ from put_get_same _ _ _, if_neg notMem, if_pos List.mem_cons_self]
      rfl
    · rw [show (takeDefaultMode b w p).routes.contexts.get q = w.routes.contexts.get q from put_get_other _ _ own]
      simp [own]

theorem resumeFollows_frame : (l.foldl (resumeFollow v) w).classifier = w.classifier ∧
    (l.foldl (resumeFollow v) w).monitor = w.monitor ∧ (l.foldl (resumeFollow v) w).image.source = w.image.source ∧
    (l.foldl (resumeFollow v) w).image.coils = w.image.coils ∧ (l.foldl (resumeFollow v) w).commitTold = w.commitTold := by
  induction l generalizing w with
  | nil => simp
  | cons p l ih => simpa using ih (resumeFollow v w p)

theorem defaulted_frame : (defaulted v w).classifier = w.classifier ∧ (defaulted v w).monitor = w.monitor ∧
    (defaulted v w).routes.antennas = w.routes.antennas ∧ (defaulted v w).routes.held = w.routes.held ∧
    (defaulted v w).image = { w.image with source := .routing } ∧ (defaulted v w).gate = w.gate ∧
    (defaulted v w).raised = w.raised ∧ (defaulted v w).commitTold = w.commitTold := by
  obtain ⟨classifier, monitor, antennas, held, image, gate, raised, commitTold⟩ := takeDefaultModes_frame positions w v.bank
  exact ⟨classifier, monitor, antennas, held, congrArg (fun i : CoilImage => { i with source := .routing }) image, gate, raised,
    commitTold⟩

theorem defaulted_context (q : Pos) : (defaulted v w).routes.contexts.get q =
    { w.routes.contexts.get q with mode := (v.bank.positions.get q).defaultMode } := by
  refine (takeDefaultModes_context positions w v.bank (List.nodup_finRange 6) q).trans ?_
  rw [if_pos (List.mem_finRange q)]

theorem announced_frame (lp : Pos) : (announced v lp w).classifier = w.classifier ∧ (announced v lp w).monitor = w.monitor ∧
    (announced v lp w).routes = (defaulted v w).routes ∧ (announced v lp w).image.claims = w.image.claims ∧
    (announced v lp w).image.groups = w.image.groups ∧ (announced v lp w).image.source = .routing ∧
    (announced v lp w).gate = w.gate ∧ (announced v lp w).raised = w.raised ++ [.all (resumedNotice lp)] ∧
    (announced v lp w).commitTold = w.commitTold := by
  obtain ⟨classifier, monitor, routes, claims, groups, source, gate, raised, -, -, -, -, -, -, commitTold⟩ :=
    recomputeAll_frame v coils (defaulted v w)
  obtain ⟨classifier', monitor', -, -, image, gate', raised', commitTold'⟩ := defaulted_frame v w
  have values : (recomputeAll v coils (defaulted v w)).image.claims = w.image.claims ∧
      (recomputeAll v coils (defaulted v w)).image.groups = w.image.groups ∧
      (recomputeAll v coils (defaulted v w)).image.source = .routing := by
    rw [claims, groups, source, image]
    exact ⟨rfl, rfl, rfl⟩
  unfold announced
  generalize recomputeAll v coils (defaulted v w) = x at *
  obtain ⟨claims, groups, source⟩ := values
  exact ⟨classifier.trans classifier', monitor.trans monitor', routes, claims, groups, source, gate.trans gate',
    congrArg (· ++ [Raised.all (resumedNotice lp)]) (raised.trans raised'), commitTold.trans commitTold'⟩

theorem announced_coil (lp : Pos) (c : Coil) :
    (announced v lp w).image.coils.get c = recomputedCoil v (defaulted v w).toBlocks c := by
  have coil := recomputeAll_coil v coils (defaulted v w) (List.nodup_finRange 64) c
  rw [if_pos (show c ∈ coils from List.mem_finRange c)] at coil
  unfold announced
  generalize recomputeAll v coils (defaulted v w) = x at *
  exact coil

end

/-! ### The notices raised before a FOLLOW request stand at the head of the event's -/

theorem raised_begins_of_touches {p : Pos} {w w' : Work} (h : Touches p w w') : w.raised <+: w'.raised := by
  obtain ⟨l, hl, -⟩ := h.raised
  exact ⟨l, hl.symm⟩

section
variable (v : View) (w : Work)

theorem raised_begins_heldEntries (l : List Pos) : w.raised <+: (l.foldl (heldEntry v) w).raised := by
  induction l generalizing w with
  | nil => exact ⟨[], List.append_nil _⟩
  | cons q l ih => exact (raised_begins_of_touches (touches_heldEntry v w q)).trans (ih _)

theorem raised_begins_heldWalkIfOwed : w.raised <+: (heldWalkIfOwed v w).raised := by
  have entries := raised_begins_heldEntries v w w.routes.held
  cases owed : w.heldWalk with
  | false => rw [heldWalkIfOwed_of_not_owed _ owed]
  | true =>
    rw [heldWalkIfOwed_of_owed _ owed]
    generalize w.routes.held.foldl (heldEntry v) w = x at *
    exact entries

theorem raised_begins_waitingWalkIfOwed : w.raised <+: (waitingWalkIfOwed v w).raised := by
  unfold waitingWalkIfOwed
  split
  · obtain ⟨m, hm, -⟩ := walkEntries_raised v w.gate.waiting w
    exact ⟨m, by simp only [Sys2Proof.Machine.waitingWalk, hm]⟩
  · exact ⟨[], List.append_nil _⟩

theorem raised_begins_close : w.raised <+: (close v w).raised := by
  have examined : (examineOwed v (heldWalkIfOwed v w)).raised = (heldWalkIfOwed v w).raised :=
    (examineOwed_frame ..).2.2.2.2.2.2.1
  have held := raised_begins_heldWalkIfOwed v w
  rw [← examined] at held
  exact held.trans (raised_begins_waitingWalkIfOwed v _)

theorem raised_begins_resumeFollow (p : Pos) : w.raised <+: (resumeFollow v w p).raised := by
  unfold resumeFollow
  split
  · rw [followRequest_raised]
    refine List.IsPrefix.trans ?_ ((raised_begins_close v _).trans ⟨_, rfl⟩)
    unfold request
    split
    · exact ⟨[], List.append_nil _⟩
    · exact raised_begins_of_touches (touches_takeRequest v p w)
  · exact ⟨[], List.append_nil _⟩

theorem raised_begins_resumeFollows (l : List Pos) : w.raised <+: (l.foldl (resumeFollow v) w).raised := by
  induction l generalizing w with
  | nil => exact ⟨[], List.append_nil _⟩
  | cons q l ih => exact (raised_begins_resumeFollow v w q).trans (ih _)

end

/-! ### What an accepted RESUME leaves -/

section
variable (s : State) (lp : Pos)

theorem atResume_bank : (atResume s lp).view.bank = s.bank := rfl

theorem afterResume_blocks : (afterResume s lp).blocks = (resumeWork s lp).toBlocks :=
  (finish_frame (atResume s lp) _).2.2.2.2.2.2.2.2.2.1

theorem afterResume_view : (afterResume s lp).view = (atResume s lp).view := finish_view (atResume s lp) (resumeWork s lp)

theorem defaultedWork_image : (defaultedWork s lp).image = { s.blocks.image with source := .routing } :=
  (defaulted_frame (atResume s lp).view (Work.start s.blocks)).2.2.2.2.1

theorem defaultedWork_context (q : Pos) : (defaultedWork s lp).routes.contexts.get q =
    { s.context q with mode := (s.bank.positions.get q).defaultMode } :=
  defaulted_context (atResume s lp).view (Work.start s.blocks) q

theorem announcedWork_frame : (announcedWork s lp).classifier = s.blocks.classifier ∧
    (announcedWork s lp).monitor = s.blocks.monitor ∧ (announcedWork s lp).routes = (defaultedWork s lp).routes ∧
    (announcedWork s lp).image.claims = s.blocks.image.claims ∧ (announcedWork s lp).image.groups = s.blocks.image.groups ∧
    (announcedWork s lp).image.source = .routing ∧ (announcedWork s lp).gate = s.blocks.gate ∧
    (announcedWork s lp).raised = [.all (resumedNotice lp)] ∧ (announcedWork s lp).commitTold = false := by
  have frame := announced_frame (atResume s lp).view (Work.start s.blocks) lp
  rw [← announcedWork, ← defaultedWork] at frame
  exact frame

theorem resumeWork_frame : (resumeWork s lp).classifier = s.blocks.classifier ∧ (resumeWork s lp).monitor = s.blocks.monitor ∧
    (resumeWork s lp).image.source = .routing ∧ (resumeWork s lp).image.coils = (announcedWork s lp).image.coils ∧
    (resumeWork s lp).commitTold = false := by
  obtain ⟨classifier, monitor, source, coils, commitTold⟩ :=
    resumeFollows_frame (atResume s lp).view positions (announcedWork s lp)
  obtain ⟨classifier', monitor', -, -, -, source', -, -, commitTold'⟩ := announcedWork_frame s lp
  exact ⟨classifier.trans classifier', monitor.trans monitor', source.trans source', coils, commitTold.trans commitTold'⟩

/-- Outside the blocks and the notices an accepted RESUME sets the station, takes its frame and replies (R174, R186). -/
theorem blocksOnly_afterResume :
    blocksOnly { s.answered lp 0x0E (.done []) with station := resumedStation s } (afterResume s lp) := by
  obtain ⟨eq, ports⟩ := blocksOnly_finish (atResume s lp) (resumeWork_frame s lp).2.2.2.2
  refine ⟨?_, fun q => ?_⟩
  · rw [afterResume, eq]
    rfl
  · dsimp only
    rw [← placeReply_take, afterResume, placeReply_port, placeReply_port]
    split
    · exact congrArg (fun pt : Port => { pt with reply := some ⟨0x0E, .done []⟩ }) (ports q)
    · exact ports q

/-- The FOLLOW requests leave the modes, the antennas and the effective claims as the event found them. -/
theorem standing_resumeWork : Standing (announcedWork s lp) (resumeWork s lp) :=
  standing_fold (fun w p => standing_resumeFollow (atResume s lp).view p w) positions _

theorem afterResume_context (p : Pos) : ((afterResume s lp).context p).mode = (s.bank.positions.get p).defaultMode ∧
    ((afterResume s lp).context p).antenna = (s.context p).antenna := by
  obtain ⟨mode, antenna, -⟩ := standing_resumeWork s lp p
  rw [(announcedWork_frame s lp).2.2.1, defaultedWork_context] at mode antenna
  rw [State.context, afterResume_blocks]
  exact ⟨mode, antenna⟩

theorem afterResume_effective (p : Pos) : ((afterResume s lp).claims p).effective = (s.claims p).effective := by
  obtain ⟨-, -, effective⟩ := standing_resumeWork s lp p
  rw [(announcedWork_frame s lp).2.2.2.1] at effective
  rw [State.claims, afterResume_blocks]
  exact effective

theorem afterResume_coil (c : Coil) : (afterResume s lp).coil c =
    recomputedCoil (atResume s lp).view (defaultedWork s lp).toBlocks c := by
  rw [State.coil, afterResume_blocks, (resumeWork_frame s lp).2.2.2.1, announcedWork, announced_coil, defaultedWork]

theorem defaultedWork_coil (c : Coil) : (defaultedWork s lp).image.coils.get c = s.coil c := by
  rw [defaultedWork_image]

theorem recomputedCoil_record (v : View) (w : Blocks) (c : Coil) : (recomputedCoil v w c).trip = (w.image.coils.get c).trip ∧
    (recomputedCoil v w c).frozen = (w.image.coils.get c).frozen ∧ (recomputedCoil v w c).commanded = derivedValue v w c := by
  unfold recomputedCoil
  split <;> rename_i h
  · exact ⟨rfl, rfl, h.symm⟩
  · exact ⟨rfl, rfl, rfl⟩

/-- The derived value is the same before the recompute and behind the FOLLOW requests (R96). -/
theorem afterResume_derived (c : Coil) : derivedValue (afterResume s lp).view (afterResume s lp).blocks c =
    derivedValue (atResume s lp).view (defaultedWork s lp).toBlocks c := by
  obtain ⟨trip, frozen, -⟩ := recomputedCoil_record (atResume s lp).view (defaultedWork s lp).toBlocks c
  have image := defaultedWork_image s lp
  rw [afterResume_view]
  refine derivedValue_congr ?_ (fun q => ?_) ?_ ?_
  · rw [afterResume_blocks, (resumeWork_frame s lp).2.2.1, image]
  · rw [image]
    exact afterResume_effective s lp q
  · rw [← trip]
    exact congrArg CoilRecord.trip (afterResume_coil s lp c)
  · rw [← frozen]
    exact congrArg CoilRecord.frozen (afterResume_coil s lp c)

/-- Every coil is recomputed under ROUTING (R96, R97). -/
theorem afterResume_recomputed (c : Coil) : ((afterResume s lp).coil c).trip = (s.coil c).trip ∧
    ((afterResume s lp).coil c).commanded =
      (!(s.coil c).trip && (claimedValue s.blocks c).getD (s.bank.coils.get c).rest) ∧ recomputed s (afterResume s lp) c := by
  obtain ⟨trip, -, commanded⟩ := recomputedCoil_record (atResume s lp).view (defaultedWork s lp).toBlocks c
  have coil := afterResume_coil s lp c
  have image := defaultedWork_image s lp
  refine ⟨?_, ?_, ?_⟩
  · rw [coil, trip, defaultedWork_coil]
  · have claimed : claimedValue (defaultedWork s lp).toBlocks c = claimedValue s.blocks c := by
      simp only [claimedValue, image]
    rw [coil, commanded, derivedValue, composedValue, claimed, image]
    rfl
  · have bank : (afterResume s lp).bank = s.bank := congrArg View.bank (afterResume_view s lp)
    change (afterResume s lp).coil c = if derivedValue (afterResume s lp).view (afterResume s lp).blocks c = (s.coil c).commanded
      then s.coil c else { s.coil c with
        commanded := derivedValue (afterResume s lp).view (afterResume s lp).blocks c
        drive := derivedValue (afterResume s lp).view (afterResume s lp).blocks c
        blank := some (afterResume s lp).bank.timing.blankMs }
    rw [afterResume_derived, coil, bank, recomputedCoil, defaultedWork_coil, atResume_bank]

theorem resumedNotice_replaces (lp : Pos) (m : Notice) : (resumedNotice lp).replaces m = false := rfl

theorem not_replaces_resumedNotice (n : Notice) (lp : Pos) : n.replaces (resumedNotice lp) = false := by
  rw [replaces_eq]
  simp [resumedNotice, isRouteNotice, isKeyNotice]

/-- Every link with room holds the STATION NOTICE (R188). -/
theorem afterResume_told (q : Pos) (few : (s.port q).notices.length ≤ 4) :
    resumedNotice lp ∈ ((afterResume s lp).port q).notices := by
  obtain ⟨l, hl⟩ := raised_begins_resumeFollows (atResume s lp).view (announcedWork s lp) positions
  rw [(announcedWork_frame s lp).2.2.2.2.2.2.2.1] at hl
  have raised : (resumeWork s lp).raised = .all (resumedNotice lp) :: l := hl.symm
  have taken : (((atResume s lp).ports.get q).notices).length ≤ 4 := (take_notices s lp q).symm ▸ few
  have held : resumedNotice lp ∈ (((atResume s lp).finish (resumeWork s lp)).ports.get q).notices := by
    rw [finish_ports, raised, List.foldl_cons]
    refine mem_deliverAll_old l _ (fun n _ k _ => not_replaces_resumedNotice k lp) ?_
    rw [deliverOne_told]
    exact mem_deliver_new (.inl (by omega))
  rw [State.port, afterResume, placeReply_port]
  split
  · exact held
  · exact held

end

end Sys2Proof.Proofs.Resuming

/-!
SUPPORT. A FOLLOW request of a position that stands still, off the air and with nothing pending, in a work that owes nothing (R48,
R67, R71): it makes no walk, and changes the routes and the claims of its position alone.
-/
namespace Sys2Proof.Proofs.Resuming
open Sys2Proof Sys2Proof.Machine Sys2Proof.Proofs.Delivery Sys2Proof.Proofs.Acting Sys2Proof.Proofs.Closing
open Sys2Proof.Proofs.Following

/-! ### A work that owes no walk -/

/-- The work over the blocks `b` with the notices `l` raised, that owes the examinations of the positions `e` and nothing else. -/
def owing (e : List Pos) (b : Blocks) (l : List Raised) : Work := { Work.start b with raised := l, examine := e }

theorem eq_owing {w : Work} (heldWalk : w.heldWalk = false) (waitingWalk : w.waitingWalk = false)
    (examineAll : w.examineAll = false) (examine : w.examine = []) (ended : w.ended = []) (abandonFaults : w.abandonFaults = [])
    (commitTold : w.commitTold = false) : w = owing [] w.toBlocks w.raised := by
  obtain ⟨_, _, _, _, _, _, _, _, _⟩ := w
  simp_all [owing, Work.start]

theorem owing_blocks (e : List Pos) (b : Blocks) (l : List Raised) : (owing e b l).toBlocks = b := rfl

theorem owing_raised (e : List Pos) (b : Blocks) (l : List Raised) : (owing e b l).raised = l := rfl

section
variable (v : View) (e : List Pos) (b : Blocks) (l : List Raised)

theorem examineOne_owing (q : Pos) :
    examineOne v (owing e b l) q = owing e (examineOne v (owing e b []) q).toBlocks l := by
  have context (l : List Raised) : (owing e b l).context q = b.routes.contexts.get q := rfl
  have blocks (l : List Raised) : (owing e b l).toBlocks = b := rfl
  unfold examineOne
  simp only [context, blocks]
  cases (b.routes.contexts.get q).transition with
  | none => rfl
  | some tr =>
    dsimp only
    have same : toExamine (owing e b l) q tr = toExamine (owing e b []) q tr := rfl
    rw [same]
    by_cases due : tr.phase = .wait ∧ toExamine (owing e b []) q tr = true ∧ quiet v b q tr = true
    · rw [if_pos due, if_pos due]
      rfl
    · rw [if_neg due, if_neg due]
      rfl

theorem examineEach_owing (qs : List Pos) :
    qs.foldl (examineOne v) (owing e b l) = owing e (qs.foldl (examineOne v) (owing e b [])).toBlocks l := by
  induction qs generalizing b with
  | nil => rfl
  | cons q qs ih =>
    rw [List.foldl_cons, List.foldl_cons, examineOne_owing v e b l q, examineOne_owing v e b [] q]
    exact ih _

theorem close_eq_examineOwed : close v (owing e b l) = examineOwed v (owing e b l) := by
  rw [close, heldWalkIfOwed_of_not_owed v rfl, waitingWalkIfOwed, if_neg (by simp [owing, Work.start])]

/-- A close that owes examinations alone leaves a work that owes nothing. -/
theorem close_owing : close v (owing e b l) = owing [] (close v (owing e b [])).toBlocks l := by
  have each := examineEach_owing v e b l positions
  rw [close_eq_examineOwed, close_eq_examineOwed, examineOwed, examineOwed]
  generalize positions.foldl (examineOne v) (owing e b l) = x at *
  rw [each]
  rfl

/-- The examination of a position that is not examined leaves it. -/
theorem close_owing_context {q : Pos} (h : q ∉ e) :
    (close v (owing e b l)).routes.contexts.get q = b.routes.contexts.get q := by
  have not (tr : Transition) : toExamine (owing e b l) q tr = false := by simp [toExamine, owing, Work.start, h]
  rw [close_eq_examineOwed, examineOwed_contexts, examinedContext]
  split
  · rfl
  · rw [not]
    exact if_neg fun due => Bool.false_ne_true due.2.1

theorem close_owing_frame : (close v (owing e b l)).toBlocks = { b with routes := (close v (owing e b l)).routes } ∧
    (close v (owing e b l)).routes.held = b.routes.held := by
  obtain ⟨classifier, monitor, -, held, image, gate, -⟩ := examineOwed_frame v (owing e b l)
  rw [close_eq_examineOwed]
  generalize examineOwed v (owing e b l) = x at *
  refine ⟨?_, held⟩
  obtain ⟨⟨_, _, _, _, _⟩, _, _, _, _, _, _, _, _⟩ := x
  obtain ⟨_, _, _, _, _⟩ := b
  simp_all [owing, Work.start]

end

/-! ### The request in such a work -/

/-- The positions that a request of this outcome has examined (R67). -/
def examines (p : Pos) : Selection → List Pos
  | .target _ => [p]
  | .refused _ => []
  | .current => []
  | .held => []

section
variable (v : View) (p : Pos) {b : Blocks}

theorem addHolds_owing (a old : Option Ant) (b : Blocks) (l : List Raised) :
    addHold p a (addHold p old (reserve v p a (owing [] b l))) =
      owing [] (addHold p a (addHold p old (reserve v p a (owing [] b [])))).toBlocks l := by
  cases a <;> cases old <;> rfl

theorem startTransition_owing (off : isOn b p = false) (kind : RequestKind) (cause : Cause) (target : Option Ant)
    (start : RouteState) (l : List Raised) : startTransition v p kind cause target start (owing [] b l) =
      owing [p] (startTransition v p kind cause target start (owing [] b [])).toBlocks l := by
  have still (old : Option Ant) (cs : Vector Context 6) (l : List Raised) :
      withdraw v p .switching none (addHold p target (addHold p old (reserve v p target
        (owing [] { b with routes := { b.routes with contexts := cs } } l)))) =
      addHold p target (addHold p old (reserve v p target (owing [] { b with routes := { b.routes with contexts := cs } } l))) :=
    withdraw_of_not_on v p _ _ _ (by simpa [isOn, owing] using off)
  have set (c : Context) (l : List Raised) : (owing [] b l).setContext p c =
      owing [] { b with routes := { b.routes with contexts := put b.routes.contexts p c } } l := rfl
  have context (l : List Raised) : (owing [] b l).context p = b.routes.contexts.get p := rfl
  simp only [startTransition, context]
  rw [set _ l, set _ [], still _ _ l, still _ _ [], addHolds_owing v p _ _ _ l]
  rfl

theorem atOnce_owing (off : isOn b p = false) (sel : Selection) (l : List Raised) :
    atOnce v p sel (owing [] b l) = owing (examines p sel) (atOnce v p sel (owing [] b [])).toBlocks l := by
  cases sel with
  | refused r => rfl
  | current => rfl
  | held => rfl
  | target a => exact startTransition_owing v p off .byPreference .follow a _ l

/-- The position stands still and has no pending request: a request of it is selected at once (R48). -/
def Loose (b : Blocks) (p : Pos) : Prop := (b.routes.contexts.get p).transition = none ∧ (b.routes.contexts.get p).slot = none

/-- The blocks behind a FOLLOW request of `p` that is selected at once. -/
def followed (v : View) (p : Pos) (b : Blocks) : Blocks :=
  (close v (atOnce v p (selection v b p .byPreference) (owing [] b []))).toBlocks

variable {v p}

theorem takeRequest_owing (loose : Loose b p) (l : List Raised) : takeRequest v p .byPreference .follow (owing [] b l) =
    (atOnce v p (selection v b p .byPreference) (owing [] b l), (selection v b p .byPreference).answer) := by
  obtain ⟨still, empty⟩ := loose
  have here : ((owing [] b l).context p).transition = none := still
  have dropped : dropHeld p (owing [] b l) = owing [] b l := dropHeld_of_none empty
  unfold takeRequest
  simp only [here, dropped]
  exact actOnSelection_follow v p (owing [] b l)

theorem raiseAbandonFaults_owing (b : Blocks) (l : List Raised) (n : Raised) :
    raiseAbandonFaults ((owing [] b l).raise n) = owing [] b (l ++ [n]) := rfl

/-- A FOLLOW request that is selected at once owes nothing behind it, and tells its answer (R62). -/
theorem followRequest_owing (admitted : admission v p = none) (loose : Loose b p) (off : isOn b p = false) (l : List Raised) :
    followRequest v p (owing [] b l) =
      owing [] (followed v p b) (l ++ [followNotice p (selection v b p .byPreference).answer]) := by
  have closed : close v (atOnce v p (selection v b p .byPreference) (owing [] b l)) = owing [] (followed v p b) l := by
    rw [atOnce_owing v p off _ l, close_owing, ← atOnce_owing v p off _ [], followed]
  simp only [followRequest]
  rw [request_of_admitted admitted, takeRequest_owing loose, closed, raiseFollow_eq, raiseAbandonFaults_owing]

/-- What such a request leaves of everything but its position. -/
structure FollowedAlone (v : View) (p : Pos) (b b' : Blocks) : Prop where
  frame : b' = { b with routes := b'.routes, image := { b.image with claims := b'.image.claims } }
  contexts : ∀ q, q ≠ p → b'.routes.contexts.get q = b.routes.contexts.get q
  claims : ∀ q, q ≠ p → b'.image.claims.get q = b.image.claims.get q
  held : b'.routes.held = if selection v b p .byPreference = .held then b.routes.held ++ [p] else b.routes.held

theorem image_eq_of_parts {i j : CoilImage} (source : i.source = j.source) (coils : i.coils = j.coils)
    (groups : i.groups = j.groups) : i = { j with claims := i.claims } := by
  obtain ⟨_, _, _, _⟩ := i
  obtain ⟨_, _, _, _⟩ := j
  simp_all

theorem atOnce_groups (v : View) (p : Pos) (sel : Selection) (w : Work) : (atOnce v p sel w).image.groups = w.image.groups := by
  cases sel with
  | refused r => rfl
  | current => rfl
  | held => rfl
  | target a => exact (startTransition_frame ..).2.2.2.1

theorem atOnce_gate (off : isOn b p = false) (sel : Selection) : (atOnce v p sel (owing [] b [])).gate = b.gate := by
  have touches := touches_atOnce v p sel (owing [] b [])
  have key : (atOnce v p sel (owing [] b [])).gate.keys.get p = b.gate.keys.get p := by
    rcases atOnce_permit v p sel (owing [] b []) with kept | taken
    · exact kept.1.key
    · have on : isOn b p = true := taken.on
      rw [off] at on
      cases on
  have keys : (atOnce v p sel (owing [] b [])).gate.keys = b.gate.keys := vector_ext fun q => by
    by_cases own : q = p
    · exact own ▸ key
    · exact touches.keys q own
  have waiting : (atOnce v p sel (owing [] b [])).gate.waiting = b.gate.waiting := touches.waiting
  generalize (atOnce v p sel (owing [] b [])).gate = g at *
  obtain ⟨_, _⟩ := g
  simp_all

theorem followed_eq (off : isOn b p = false) : followed v p b =
    (close v (owing (examines p (selection v b p .byPreference))
      (atOnce v p (selection v b p .byPreference) (owing [] b [])).toBlocks [])).toBlocks := by
  rw [followed, ← atOnce_owing v p off]

theorem followed_image (off : isOn b p = false) :
    (followed v p b).image = (atOnce v p (selection v b p .byPreference) (owing [] b [])).image := by
  rw [followed_eq off, (close_owing_frame ..).1]

/-- A request that starts no transition leaves the claims. -/
theorem followed_claims (off : isOn b p = false) (no : ∀ a, selection v b p .byPreference ≠ .target a) :
    (followed v p b).image.claims = b.image.claims := by
  rw [followed_image off]
  cases sel : selection v b p .byPreference with
  | refused r => rfl
  | current => rfl
  | held => rfl
  | target a => exact absurd sel (no a)

theorem blocks_eq_of_parts {x y : Blocks} (classifier : x.classifier = y.classifier)
    (image : x.image = { y.image with claims := x.image.claims }) (monitor : x.monitor = y.monitor) (gate : x.gate = y.gate) :
    x = { y with routes := x.routes, image := { y.image with claims := x.image.claims } } := by
  rw [← image, ← classifier, ← monitor, ← gate]

theorem followed_alone (off : isOn b p = false) : FollowedAlone v p b (followed v p b) := by
  have touches := touches_atOnce v p (selection v b p .byPreference) (owing [] b [])
  have gate := atOnce_gate (v := v) off (selection v b p .byPreference)
  have image : (atOnce v p (selection v b p .byPreference) (owing [] b [])).image = _ :=
    image_eq_of_parts touches.source touches.coils (atOnce_groups ..)
  obtain ⟨frame, list⟩ := close_owing_frame v (examines p (selection v b p .byPreference))
    (atOnce v p (selection v b p .byPreference) (owing [] b [])).toBlocks []
  refine ⟨?_, fun q h => ?_, fun q h => ?_, ?_⟩
  · refine blocks_eq_of_parts ?_ ?_ ?_ ?_
    · rw [followed_eq off, frame]
      exact touches.classifier
    · rw [followed_image off]
      exact image
    · rw [followed_eq off, frame]
      exact touches.monitor
    · rw [followed_eq off, frame]
      exact gate
  · have out : q ∉ examines p (selection v b p .byPreference) := by
      cases selection v b p .byPreference <;> simp [examines, h]
    rw [followed_eq off, close_owing_context _ _ _ _ out]
    exact touches.contexts q h
  · rw [followed_image off]
    exact touches.claims q h
  · rw [followed_eq off, list]
    exact atOnce_held ..

end

end Sys2Proof.Proofs.Resuming

/-!
SUPPORT. The FOLLOW requests of an accepted RESUME of a quiet station (R30, R174), taken one after another in ascending order: what
each of them finds, and what it leaves.
-/
namespace Sys2Proof.Proofs.Resuming
open Sys2Proof Sys2Proof.Machine Sys2Proof.Proofs.Take Sys2Proof.Proofs.Delivery Sys2Proof.Proofs.Acting Sys2Proof.Proofs.Closing
open Sys2Proof.Proofs.Following Sys2Proof.Proofs.Reports

/-! ### One position after another -/

/-- RESUME raises a FOLLOW request of `p`, which it finds in the blocks `b` (R30). -/
abbrev FollowsAt (v : View) (b : Blocks) (p : Pos) : Prop :=
  enabled v.bank p = true ∧ (b.routes.contexts.get p).mode = .follow ∧ (b.classifier.get p).entry.isSome = true

/-- The blocks and the raised notices behind the turn of position `p`. -/
def turn (v : View) (x : Blocks × List Raised) (p : Pos) : Blocks × List Raised :=
  if FollowsAt v x.1 p then (followed v p x.1, x.2 ++ [followNotice p (selection v x.1 p .byPreference).answer]) else x

/-- The notices raised so far, delivered over the blocks as they are. -/
def delivered (s : State) (x : Blocks × List Raised) : Vector Port 6 := x.2.foldl (deliverOne s.bank x.1) s.ports

/-- The event of an accepted RESUME from `s` as if it ended with these blocks and notices, and its reply. -/
def staged (s : State) (lp : Pos) (x : Blocks × List Raised) : State :=
  { s with blocks := x.1, ports := delivered s x }.placeReply lp 0x0E (.done [])

/-- The notice goes to every link, or tells of the route of one of the first `k` positions. -/
def Heard (k : Nat) : Raised → Prop
  | .route q _ _ => q.val < k
  | .key .. => False
  | .all _ => True

/-- What the positions from `k` on find at their turns: they stand still, with nothing pending, and the gate is as it was. -/
structure Resting (s : State) (lp : Pos) (k : Nat) (x : Blocks × List Raised) : Prop where
  gate : x.1.gate = s.blocks.gate
  ahead : ∀ q : Pos, k ≤ q.val → Loose x.1 q
  held : heldConsistent (staged s lp x)
  reserved : reservedInTransition (staged s lp x)
  heard : ∀ n ∈ x.2, Heard k n

theorem staged_port (s : State) (lp q : Pos) (x : Blocks × List Raised) : (staged s lp x).port q =
    if q = lp then { (delivered s x).get q with reply := some ⟨0x0E, .done []⟩ } else (delivered s x).get q :=
  placeReply_port ..

theorem staged_notices (s : State) (lp q : Pos) (x : Blocks × List Raised) :
    ((staged s lp x).port q).notices = ((delivered s x).get q).notices := by
  rw [staged_port]
  split <;> rfl

theorem staged_finish (s : State) (lp : Pos) (x : Blocks × List Raised) :
    (s.finish (owing [] x.1 x.2)).placeReply lp 0x0E (.done []) = staged s lp x := by
  rw [finish_of_untold s rfl]
  rfl

section
variable (s : State) (lp q : Pos) (x : Blocks × List Raised)

theorem staged_blocks : (staged s lp x).blocks = x.1 := rfl
theorem staged_view : (staged s lp x).view = s.view := rfl
theorem staged_held : (staged s lp x).held = x.1.routes.held := rfl
theorem staged_context : (staged s lp x).context q = x.1.routes.contexts.get q := rfl
theorem staged_claims : (staged s lp x).claims q = x.1.image.claims.get q := rfl

end

theorem heard_mono {k : Nat} {n : Raised} (h : Heard k n) : Heard (k + 1) n := by
  cases n with
  | route q cause answer => exact Nat.lt_succ_of_lt h
  | key q event conflict => exact h
  | all n => trivial

theorem deliverOne_congr {k : Nat} {n : Raised} (h : Heard k n) (b : Bank) {w w' : Blocks}
    (contexts : ∀ q : Pos, q.val < k → w'.routes.contexts.get q = w.routes.contexts.get q) (ports : Vector Port 6) :
    deliverOne b w' ports n = deliverOne b w ports n := by
  cases n with
  | route q cause answer => simp only [deliverOne, routeNotice, contexts q h]
  | key q event conflict => exact h.elim
  | all n => rfl

section
variable {s : State} {lp p : Pos} {k : Nat} {x : Blocks × List Raised}

theorem turn_of_follows (follows : FollowsAt s.view x.1 p) : turn s.view x p =
    (followed s.view p x.1, x.2 ++ [followNotice p (selection s.view x.1 p .byPreference).answer]) := if_pos follows

theorem turn_blocks (follows : FollowsAt s.view x.1 p) : (turn s.view x p).1 = followed s.view p x.1 := by
  rw [turn_of_follows follows]

theorem turn_raised (follows : FollowsAt s.view x.1 p) :
    (turn s.view x p).2 = x.2 ++ [followNotice p (selection s.view x.1 p .byPreference).answer] := by
  rw [turn_of_follows follows]

theorem turn_of_not_follows (follows : ¬ FollowsAt s.view x.1 p) : turn s.view x p = x := if_neg follows

theorem Resting.isOn (r : Resting s lp k x) (off : isOn s.blocks p = false) : Machine.isOn x.1 p = false := by
  rw [Machine.isOn, r.gate]
  exact off

theorem admitted_of_follows (normal : s.view.mode = .normal) (follows : FollowsAt s.view x.1 p) : admission s.view p = none := by
  simp [admission, normal, follows.1]

/-- The work of the event goes through the turns. -/
theorem resumeFollow_owing (normal : s.view.mode = .normal) (r : Resting s lp k x) (off : isOn s.blocks p = false)
    (ahead : k ≤ p.val) :
    resumeFollow s.view (owing [] x.1 x.2) p = owing [] (turn s.view x p).1 (turn s.view x p).2 := by
  by_cases follows : FollowsAt s.view x.1 p
  · rw [turn_of_follows follows, ← followRequest_owing (admitted_of_follows normal follows) (r.ahead p ahead) (r.isOn off)]
    exact if_pos follows
  · rw [turn_of_not_follows follows]
    exact if_neg follows

/-- The notices told before the turn of `p` stay as they were told. -/
theorem delivered_turn (r : Resting s lp p.val x) (off : isOn s.blocks p = false) (follows : FollowsAt s.view x.1 p) :
    delivered s (turn s.view x p) = deliverOne s.bank (followed s.view p x.1) (delivered s x)
      (followNotice p (selection s.view x.1 p .byPreference).answer) := by
  have alone := followed_alone (v := s.view) (r.isOn off)
  have before : x.2.foldl (deliverOne s.bank (followed s.view p x.1)) s.ports = delivered s x :=
    List.foldl_ext _ _ _ fun ports n hn => deliverOne_congr (r.heard n hn) s.bank
      (fun q below => alone.contexts q fun own => absurd (own ▸ below) (Nat.lt_irrefl _)) ports
  rw [delivered, turn_blocks follows, turn_raised follows, List.foldl_append, before, List.foldl_cons, List.foldl_nil]

theorem follows_turn (normal : s.view.mode = .normal) (r : Resting s lp p.val x) (off : isOn s.blocks p = false)
    (follows : FollowsAt s.view x.1 p) : Follows (staged s lp x) (staged s lp (turn s.view x p)) p (Work.start x.1) := by
  have admitted := admitted_of_follows normal follows
  have request := followRequest_owing admitted (r.ahead p le_rfl) (r.isOn off) []
  have start : owing [] x.1 [] = Work.start x.1 := rfl
  rw [start] at request
  have view : (staged s lp x).view = s.view := staged_view s lp x
  refine ⟨clean_start x.1, rfl, rfl, admitted, ?_, ?_⟩
  · rw [staged_blocks, turn_blocks follows, view, request, owing_blocks]
  · have raised : (followRequest (staged s lp x).view p (Work.start x.1)).raised =
        [followNotice p (selection s.view x.1 p .byPreference).answer] := by
      rw [view, request, owing_raised, List.nil_append]
    rw [raised]
    refine ⟨fun n hn => ?_, delivered s x, fun q => (staged_notices s lp q x).symm, fun q => ?_⟩
    · cases answer : (selection s.view x.1 p .byPreference).answer <;> simp [answer, followNotice] at hn
    · rw [staged_notices, delivered_turn r off follows, staged_blocks, turn_blocks follows, List.foldl_cons, List.foldl_nil]
      rfl

/-- The own position behind its request that is selected at once (R48). -/
theorem acted_own (normal : s.view.mode = .normal) (r : Resting s lp p.val x) (off : isOn s.blocks p = false)
    (follows : FollowsAt s.view x.1 p) :
    (p ∈ (staged s lp (turn s.view x p)).held ↔ selection s.view x.1 p .byPreference = .held) ∧
      ((∃ a, selection s.view x.1 p .byPreference = .target a) ∧
        ((staged s lp (turn s.view x p)).context p).transition ≠ none ∧
        ((staged s lp (turn s.view x p)).context p).slot = none ∨
      (∀ a, selection s.view x.1 p .byPreference ≠ .target a) ∧
        ((staged s lp (turn s.view x p)).context p).transition = none ∧
        ((staged s lp (turn s.view x p)).context p).slot =
          if selection s.view x.1 p .byPreference = .held then some ⟨.byPreference, .held, .follow⟩ else none) := by
  obtain ⟨still, -⟩ := r.ahead p le_rfl
  have still' : ((staged s lp x).context p).transition = none := still
  obtain ⟨⟨refused, current, target, held, list⟩, -⟩ :=
    ((follows_turn normal r off follows).followRaised _ rfl).1 still r.held r.reserved
  refine ⟨list, ?_⟩
  cases sel : selection s.view x.1 p .byPreference with
  | refused e =>
    refine .inr ⟨fun a => by simp, ?_, ?_⟩ <;> rw [refused e sel]
    · exact still
    · rfl
  | current =>
    refine .inr ⟨fun a => by simp, ?_, ?_⟩ <;> rw [current sel]
    · exact still
    · rfl
  | held =>
    refine .inr ⟨fun a => by simp, ?_, ?_⟩ <;> rw [held sel]
    · exact still
    · rfl
  | target a =>
    obtain ⟨⟨tr, -, -, context⟩, -⟩ := target a sel
    refine .inl ⟨⟨a, rfl⟩, ?_, ?_⟩ <;> rw [context]
    simp

theorem held_turn (r : Resting s lp p.val x) (off : isOn s.blocks p = false) (follows : FollowsAt s.view x.1 p) :
    (staged s lp (turn s.view x p)).held =
      if selection s.view x.1 p .byPreference = .held then (staged s lp x).held ++ [p] else (staged s lp x).held := by
  rw [staged_held, staged_held, turn_blocks follows]
  exact (followed_alone (r.isOn off)).held

theorem context_turn (r : Resting s lp p.val x) (off : isOn s.blocks p = false) (follows : FollowsAt s.view x.1 p) {q : Pos}
    (other : q ≠ p) : (staged s lp (turn s.view x p)).context q = (staged s lp x).context q := by
  rw [staged_context, staged_context, turn_blocks follows]
  exact (followed_alone (r.isOn off)).contexts q other

theorem claims_turn (r : Resting s lp p.val x) (off : isOn s.blocks p = false) (follows : FollowsAt s.view x.1 p) {q : Pos}
    (other : q ≠ p) : (staged s lp (turn s.view x p)).claims q = (staged s lp x).claims q := by
  rw [staged_claims, staged_claims, turn_blocks follows]
  exact (followed_alone (r.isOn off)).claims q other

/-- A position that stands loose is not in the held list. -/
theorem Resting.notMem_held (r : Resting s lp p.val x) : p ∉ (staged s lp x).held := fun mem => by
  obtain ⟨-, list⟩ := r.held
  obtain ⟨pending, slot, -⟩ := (list p).1.1 mem
  have empty : ((staged s lp x).context p).slot = none := (r.ahead p le_rfl).2
  simp [empty] at slot

theorem heldConsistent_turn (normal : s.view.mode = .normal) (r : Resting s lp p.val x) (off : isOn s.blocks p = false)
    (follows : FollowsAt s.view x.1 p) : heldConsistent (staged s lp (turn s.view x p)) := by
  have held := held_turn r off follows
  obtain ⟨member, own⟩ := acted_own normal r off follows
  obtain ⟨nodup, list⟩ := r.held
  refine ⟨?_, fun q => ?_⟩
  · rw [held]
    split
    · exact List.nodup_append.2 ⟨nodup, List.nodup_singleton p, fun a ha b hb e =>
        r.notMem_held (List.mem_singleton.1 hb ▸ e ▸ ha)⟩
    · exact nodup
  · by_cases other : q = p
    · subst other
      rcases own with ⟨⟨a, sel⟩, moves, empty⟩ | ⟨-, still, slot⟩
      · rw [member, sel]
        simp [empty]
      · rw [member, slot, still]
        split <;> rename_i sel <;> simp [sel]
    · have same : q ∈ (staged s lp (turn s.view x p)).held ↔ q ∈ (staged s lp x).held := by
        rw [held]
        split <;> simp [other]
      rw [same, context_turn r off follows other]
      exact list q

theorem reserved_turn (normal : s.view.mode = .normal) (r : Resting s lp p.val x) (off : isOn s.blocks p = false)
    (follows : FollowsAt s.view x.1 p) : reservedInTransition (staged s lp (turn s.view x p)) := by
  intro q still
  by_cases other : q = p
  · subst other
    rcases (acted_own normal r off follows).2 with ⟨-, moves, -⟩ | ⟨no, -, -⟩
    · exact absurd still moves
    · rw [staged_claims, turn_blocks follows, followed_claims (r.isOn off) no]
      exact r.reserved q (r.ahead q le_rfl).1
  · rw [context_turn r off follows other] at still
    rw [claims_turn r off follows other]
    exact r.reserved q still

/-- The turn of a position leaves the positions behind it as they were. -/
theorem resting_turn (normal : s.view.mode = .normal) (r : Resting s lp p.val x) (off : isOn s.blocks p = false) :
    Resting s lp (p.val + 1) (turn s.view x p) := by
  by_cases follows : FollowsAt s.view x.1 p
  · have alone := followed_alone (v := s.view) (r.isOn off)
    refine ⟨?_, fun q behind => ?_, heldConsistent_turn normal r off follows,
      reserved_turn normal r off follows, fun n hn => ?_⟩
    · rw [turn_blocks follows, alone.frame]
      exact r.gate
    · have other : q ≠ p := fun own => absurd (own ▸ behind) (Nat.not_succ_le_self _)
      rw [turn_blocks follows, Loose, alone.contexts q other]
      exact r.ahead q (Nat.le_of_succ_le behind)
    · rw [turn_raised follows] at hn
      rcases List.mem_append.1 hn with hn | hn
      · exact heard_mono (r.heard n hn)
      · rw [List.mem_singleton.1 hn]
        cases (selection s.view x.1 p .byPreference).answer <;> exact Nat.lt_succ_self p.val
  · rw [turn_of_not_follows follows]
    exact ⟨r.gate, fun q behind => r.ahead q (Nat.le_of_succ_le behind), r.held, r.reserved,
      fun n hn => heard_mono (r.heard n hn)⟩

/-- Each turn is the FOLLOW request of R174, if it raises one. -/
theorem followAtResume_turn (normal : s.view.mode = .normal) (r : Resting s lp p.val x) (off : isOn s.blocks p = false) :
    followAtResume (staged s lp x) (staged s lp (turn s.view x p)) p := by
  refine ⟨fun on follow entry => ?_, fun no => ?_⟩
  · have follows : FollowsAt s.view x.1 p := ⟨on, follow, Option.isSome_iff_ne_none.2 entry⟩
    have alone := followed_alone (v := s.view) (r.isOn off)
    refine ⟨(follows_turn normal r off follows).followRaised, r.held, r.reserved, (r.ahead p le_rfl).1, (r.ahead p le_rfl).2, ?_,
      fun q other => ⟨context_turn r off follows other, claims_turn r off follows other, ?_⟩, held_turn r off follows⟩
    · have frame := alone.frame
      rw [← turn_blocks follows] at frame
      exact congrArg (fun b => { staged s lp (turn s.view x p) with blocks := b }) frame
    · have same : (delivered s (turn s.view x p)).get q = (delivered s x).get q := by
        rw [delivered_turn r off follows, deliverOne_told]
        cases (selection s.view x.1 p .byPreference).answer <;> simp [followNotice, Told, other]
      rw [staged_port, staged_port, same]
  · rw [turn_of_not_follows (s := s) fun follows => no ⟨follows.1, follows.2.1, Option.isSome_iff_ne_none.1 follows.2.2⟩]

/-! ### The six turns -/

/-- The blocks and the notices behind the turns of the first `k` positions. -/
def turns (v : View) (x : Blocks × List Raised) (k : Nat) : Blocks × List Raised := (positions.take k).foldl (turn v) x

theorem take_positions : ∀ p : Pos, positions.take (p.val + 1) = positions.take p.val ++ [p] := by decide

theorem turns_succ (v : View) (x : Blocks × List Raised) (p : Pos) : turns v x (p.val + 1) = turn v (turns v x p.val) p := by
  rw [turns, take_positions, List.foldl_append]
  rfl

theorem resting_turns (normal : s.view.mode = .normal) (r : Resting s lp 0 x) (off : ∀ q, isOn s.blocks q = false) {k : Nat}
    (h : k ≤ 6) : Resting s lp k (turns s.view x k) := by
  induction k with
  | zero => exact r
  | succ k ih =>
    have next := turns_succ s.view x ⟨k, h⟩
    rw [show k + 1 = (⟨k, h⟩ : Pos).val + 1 from rfl, next]
    exact resting_turn normal (ih (Nat.le_of_succ_le h)) (off _)

theorem resumeFollows_owing (normal : s.view.mode = .normal) (r : Resting s lp 0 x) (off : ∀ q, isOn s.blocks q = false) {k : Nat}
    (h : k ≤ 6) : (positions.take k).foldl (resumeFollow s.view) (owing [] x.1 x.2) =
      owing [] (turns s.view x k).1 (turns s.view x k).2 := by
  induction k with
  | zero => rfl
  | succ k ih =>
    have before := Nat.le_of_succ_le h
    have next := turns_succ s.view x ⟨k, h⟩
    rw [show k + 1 = (⟨k, h⟩ : Pos).val + 1 from rfl, next, take_positions, List.foldl_append, ih before]
    exact resumeFollow_owing normal (resting_turns normal r off before) (off _) le_rfl

end

end Sys2Proof.Proofs.Resuming

/-!
RESUME (O47): an accepted RESUME of a quiet station takes the turns of the six positions from the work in which the modes, the
source and the coils are set and the STATION NOTICE is raised.
-/
namespace Sys2Proof.Proofs.Resuming
open Sys2Proof Sys2Proof.Machine Sys2Proof.Proofs.Take Sys2Proof.Proofs.Delivery Sys2Proof.Proofs.Acting Sys2Proof.Proofs.Closing
open Sys2Proof.Proofs.Following Sys2Proof.Proofs.Reports

/-! ### The start of the turns -/

theorem takeDefaultModes_eq (b : Bank) (l : List Pos) (w : Work) : ∃ cs : Vector Context 6,
    l.foldl (takeDefaultMode b) w = { w with routes := { w.routes with contexts := cs } } := by
  induction l generalizing w with
  | nil => exact ⟨w.routes.contexts, rfl⟩
  | cons p l ih =>
    obtain ⟨cs, h⟩ := ih (takeDefaultMode b w p)
    exact ⟨cs, h⟩

theorem defaulted_owing (v : View) (b : Blocks) :
    defaulted v (Work.start b) = owing [] (defaulted v (Work.start b)).toBlocks [] := by
  obtain ⟨cs, h⟩ := takeDefaultModes_eq v.bank positions (Work.start b)
  rw [defaulted, h]
  rfl

theorem recomputeAll_owing (v : View) (cs : List Coil) (b : Blocks) (l : List Raised) :
    recomputeAll v cs (owing [] b l) = owing [] (recomputeAll v cs (owing [] b l)).toBlocks l := by
  obtain ⟨-, -, -, -, -, -, -, raised, heldWalk, waitingWalk, examineAll, examine, ended, abandonFaults, commitTold⟩ :=
    recomputeAll_frame v cs (owing [] b l)
  have raised : (recomputeAll v cs (owing [] b l)).raised = l := raised
  generalize recomputeAll v cs (owing [] b l) = w at *
  have owes := eq_owing heldWalk waitingWalk examineAll examine ended abandonFaults commitTold
  rw [raised] at owes
  exact owes

/-- Before its FOLLOW requests the event owes nothing but its notice. -/
theorem announced_owing (v : View) (lp : Pos) (b : Blocks) : announced v lp (Work.start b) =
    owing [] (announced v lp (Work.start b)).toBlocks [.all (resumedNotice lp)] := by
  have raised (b : Blocks) : (owing [] b []).raise (.all (resumedNotice lp)) = owing [] b [.all (resumedNotice lp)] := rfl
  rw [announced, defaulted_owing, recomputeAll_owing, raised, owing_blocks]

/-- The blocks and the notices of an accepted RESUME before its FOLLOW requests. -/
def resumeStart (s : State) (lp : Pos) : Blocks × List Raised :=
  ((announcedWork s lp).toBlocks, [.all (resumedNotice lp)])

section
variable {s : State} {lp : Pos}

theorem resumeStart_context (q : Pos) : (resumeStart s lp).1.routes.contexts.get q =
    { s.context q with mode := (s.bank.positions.get q).defaultMode } := by
  rw [resumeStart, (announcedWork_frame s lp).2.2.1, defaultedWork_context]

theorem resumeStart_held : (resumeStart s lp).1.routes.held = s.held := by
  rw [resumeStart, (announcedWork_frame s lp).2.2.1, defaultedWork, (defaulted_frame ..).2.2.2.1]
  rfl

/-- A quiet station outside NORMAL has nothing that a FOLLOW request of RESUME could meet (R64, R169). -/
theorem resting_start (quiet : quietUnlessNormal s) (mode : s.station.mode = .failsafe) :
    Resting (atResume s lp) lp 0 (resumeStart s lp) := by
  obtain ⟨-, out⟩ := quiet
  obtain ⟨still, -, held⟩ := out (by simp [mode])
  obtain ⟨-, -, -, claims, -, -, gate, -, -⟩ := announcedWork_frame s lp
  have none : (staged (atResume s lp) lp (resumeStart s lp)).held = [] := by rw [staged_held, resumeStart_held, held]
  refine ⟨?_, fun q _ => ?_, ⟨by rw [none]; exact List.nodup_nil, fun q => ?_⟩, fun q _ => ?_, fun n hn => ?_⟩
  · rw [resumeStart, gate]
    rfl
  · obtain ⟨-, slot, transition, -⟩ := still q
    rw [Loose, resumeStart_context]
    exact ⟨transition, slot⟩
  · obtain ⟨-, slot, transition, -⟩ := still q
    rw [none, staged_context, resumeStart_context]
    simp [slot, transition]
  · obtain ⟨-, -, -, -, -, empty⟩ := still q
    rw [staged_claims, resumeStart, claims]
    exact congrArg ClaimLists.reserved empty
  · rw [List.mem_singleton.1 hn]
    trivial

/-- No position of a quiet station is ON outside NORMAL (R127, R169). -/
theorem off_of_quiet (quiet : quietUnlessNormal s) (mode : s.station.mode = .failsafe) (q : Pos) :
    isOn (atResume s lp).blocks q = false := by
  obtain ⟨permits, out⟩ := quiet
  obtain ⟨still, -⟩ := out (by simp [mode])
  obtain ⟨permit, -⟩ := still q
  have off : (s.key q).state ≠ .on := fun on => by simp [(permits q).2 on] at permit
  exact decide_eq_false off

/-- The states between the turns of an accepted RESUME. -/
def resumeTurn (s : State) (lp : Pos) (k : Nat) : State :=
  staged (atResume s lp) lp (turns (atResume s lp).view (resumeStart s lp) k)

theorem afterResume_turns (quiet : quietUnlessNormal s) (mode : s.station.mode = .failsafe) :
    resumeTurn s lp 6 = afterResume s lp := by
  have work := resumeFollows_owing (s := atResume s lp) rfl (resting_start quiet mode) (off_of_quiet quiet mode) (le_refl 6)
  have all : positions.take 6 = positions := by decide
  have start : owing [] (resumeStart s lp).1 (resumeStart s lp).2 = announcedWork s lp := by
    rw [resumeStart, announcedWork, ← announced_owing]
  rw [all, start] at work
  rw [afterResume, resumeWork, work, staged_finish, resumeTurn]

theorem followAtResume_turns (quiet : quietUnlessNormal s) (mode : s.station.mode = .failsafe) (p : Pos) :
    followAtResume (resumeTurn s lp p.val) (resumeTurn s lp (p.val + 1)) p := by
  rw [resumeTurn, resumeTurn, turns_succ]
  exact followAtResume_turn rfl (resting_turns rfl (resting_start quiet mode) (off_of_quiet quiet mode) (Nat.le_of_lt p.isLt))
    (off_of_quiet quiet mode p)

/-- An accepted RESUME of a quiet station leaves the gate (R150). -/
theorem afterResume_gate (quiet : quietUnlessNormal s) (mode : s.station.mode = .failsafe) :
    (afterResume s lp).blocks.gate = s.blocks.gate := by
  have rest := resting_turns (s := atResume s lp) rfl (resting_start (lp := lp) quiet mode) (off_of_quiet quiet mode) (le_refl 6)
  have gate := rest.gate
  rw [← afterResume_turns quiet mode, resumeTurn, staged_blocks, gate]
  rfl

end

/-! ### The state that the first turn finds -/

theorem joined_reply (pt : Port) (n : Notice) (r : Option Reply) :
    ({ pt with reply := r } : Port).joined n = { pt.joined n with reply := r } := by
  unfold Port.joined
  split
  · rfl
  · rfl

/-- Before its FOLLOW requests an accepted RESUME has told every link of the STATION NOTICE (R174, R188). -/
theorem told_resumeTurn (s : State) (lp : Pos) : told (s.answered lp 0x0E (.done [])) (resumeTurn s lp 0) [resumedNotice lp] := by
  intro q
  have joined : (delivered (atResume s lp) (resumeStart s lp)).get q = ((s.take lp).ports.get q).joined (resumedNotice lp) :=
    deliverAll_joined (atResume s lp).bank (resumeStart s lp).1 [resumedNotice lp]
      (fun n hn => List.mem_singleton.1 hn ▸ resumedNotice_replaces lp) (atResume s lp).ports q
  have answered : (s.answered lp 0x0E (.done [])).port q = if q = lp then
      { (s.take lp).ports.get q with reply := some ⟨0x0E, .done []⟩ } else (s.take lp).ports.get q := by
    rw [← placeReply_take]
    exact placeReply_port ..
  have first : (resumeTurn s lp 0).port q = _ := staged_port (atResume s lp) lp q (resumeStart s lp)
  change (resumeTurn s lp 0).port q = ((s.answered lp 0x0E (.done [])).port q).joined (resumedNotice lp)
  rw [first, answered, joined]
  split
  · exact (joined_reply ..).symm
  · rfl

theorem resumeStart_blocks (s : State) (lp : Pos) : (resumeStart s lp).1 = { s.blocks with
    routes := { s.blocks.routes with contexts := Vector.ofFn fun p =>
      { s.context p with mode := (s.bank.positions.get p).defaultMode } }
    image := { s.blocks.image with source := .routing, coils := (afterResume s lp).blocks.image.coils } } := by
  have coils : (afterResume s lp).blocks.image.coils = (resumeStart s lp).1.image.coils := by
    rw [afterResume_blocks, (resumeWork_frame s lp).2.2.2.1, resumeStart]
  have contexts : (resumeStart s lp).1.routes.contexts = Vector.ofFn fun p =>
      { s.context p with mode := (s.bank.positions.get p).defaultMode } := vector_ext fun p => by
    rw [resumeStart_context, ofFn_get]
  have held : (resumeStart s lp).1.routes.held = s.blocks.routes.held := resumeStart_held
  have antennas : (resumeStart s lp).1.routes.antennas = s.blocks.routes.antennas := by
    rw [resumeStart, (announcedWork_frame s lp).2.2.1, defaultedWork, (defaulted_frame ..).2.2.1]
    rfl
  obtain ⟨classifier, monitor, -, claims, groups, source, gate, -, -⟩ := announcedWork_frame s lp
  rw [coils, ← contexts]
  rw [resumeStart] at held antennas ⊢
  dsimp only
  rw [← held, ← antennas, ← classifier, ← monitor, ← gate, ← claims, ← groups, ← source]

/-- The state that the first turn finds has its modes, its source and its coils from RESUME, and its notices (R174). -/
theorem resumeTurn_zero (s : State) (lp : Pos) : resumeTurn s lp 0 = { s.answered lp 0x0E (.done []) with
    station := resumedStation s
    ports := (resumeTurn s lp 0).ports
    blocks := { s.blocks with
      routes := { s.blocks.routes with contexts := Vector.ofFn fun p =>
        { s.context p with mode := (s.bank.positions.get p).defaultMode } }
      image := { s.blocks.image with source := .routing, coils := (afterResume s lp).blocks.image.coils } } } := by
  have first : resumeTurn s lp 0 = staged (atResume s lp) lp (resumeStart s lp) := rfl
  have eq (x : Blocks × List Raised) : staged (atResume s lp) lp x = { s.answered lp 0x0E (.done []) with
      station := resumedStation s, ports := (staged (atResume s lp) lp x).ports, blocks := x.1 } := rfl
  rw [← resumeStart_blocks, first]
  exact eq (resumeStart s lp)

/-- Settles O47: `resumeWork_frame` and `standing_resumeWork` give what every accepted RESUME leaves, and the turns of a quiet
station are the states `resumeTurn`. -/
theorem resumeReturnsToNormal : Obligations.ResumeReturnsToNormal := by
  intro s lp taken
  refine ⟨fun refused => exec_resume_refused taken ((resumeRefused_iff s).2 refused), fun mode source supply valid => ?_⟩
  have accepted : s.resumeRefused = false := by
    rw [← Bool.not_eq_true, resumeRefused_iff]
    simp [mode, source, supply, valid]
  have blocks := afterResume_blocks s lp
  obtain ⟨classifier, monitor, routing, -, -⟩ := resumeWork_frame s lp
  refine ⟨afterResume s lp, exec_resume_accepted taken accepted, blocksOnly_afterResume s lp, ?_, afterResume_recomputed s lp,
    afterResume_context s lp, blocks ▸ classifier, blocks ▸ monitor, fun q few => ?_, fun quiet =>
      ⟨afterResume_gate quiet mode, resumeTurn s lp, followAtResume_turns quiet mode, afterResume_turns quiet mode,
        told_resumeTurn s lp, ?_⟩⟩
  · rw [State.source, blocks]
    exact routing
  · exact List.any_eq_true.2 ⟨resumedNotice lp, afterResume_told s lp q few, decide_eq_true rfl⟩
  · exact resumeTurn_zero s lp

end Sys2Proof.Proofs.Resuming

/-!
SUPPORT. Selection (R42 to R46) in the words of its statement: what a preference walk takes, and when an antenna is available.
-/
namespace Sys2Proof.Proofs.Preferring
open Sys2Proof Sys2Proof.Machine Sys2Proof.Proofs.Bytes

/-! ### The walk of a preference list (R43) -/

/-- The antenna would end a preference walk: it is the current one, or an available one. -/
abbrev Serves (v : View) (w : Blocks) (p : Pos) (a : Ant) : Prop :=
  (w.routes.contexts.get p).antenna = some a ∨ available v.bank w a p = true

/-- The outcome of a walk that antenna `a` ends. -/
def ended (w : Blocks) (p : Pos) (a : Ant) : Selection :=
  if (w.routes.contexts.get p).antenna = some a then .current else .target (some a)

section
variable {v : View} {w : Blocks} {p : Pos} {n : Band}

/-- A slot that names an antenna in full. -/
theorem ofNum_slot (a : Ant) : ofNum 16 (a.val + 1) = some a := ofNum_eq_some.2 (Nat.add_comm _ _)

theorem not_serves {a : Ant} :
    ¬ Serves v w p a ↔ (w.routes.contexts.get p).antenna ≠ some a ∧ available v.bank w a p = false := by
  rw [not_or, Bool.not_eq_true]

theorem preferenceWalk_passed {a : Ant} (passes : passesStatic v.bank p n a = true) (passed : Bool) (l : List Nat) :
    preferenceWalk v w p n passed ((a.val + 1) :: l) =
      if Serves v w p a then ended w p a else preferenceWalk v w p n true l := by
  rw [preferenceWalk, ofNum_slot]
  by_cases current : (w.routes.contexts.get p).antenna = some a
  · simp [passes, ended, Serves, current]
  · simp [passes, ended, Serves, current]

/-- A slot that names no antenna, or one that fails the static tests, is passed over. -/
theorem preferenceWalk_skipped {k : Nat} (fails : ∀ a : Ant, k = a.val + 1 → passesStatic v.bank p n a = false)
    (passed : Bool) (l : List Nat) : preferenceWalk v w p n passed (k :: l) = preferenceWalk v w p n passed l := by
  rw [preferenceWalk]
  cases h : ofNum 16 k with
  | none => rfl
  | some a => simp [fails a ((ofNum_eq_some.1 h).trans (Nat.add_comm _ _))]

/-- A slot names an antenna that passes the static tests, or is passed over. -/
theorem slot_cases (b : Bank) (p : Pos) (n : Band) (k : Nat) :
    (∃ a : Ant, k = a.val + 1 ∧ passesStatic b p n a = true) ∨ ∀ a : Ant, k = a.val + 1 → passesStatic b p n a = false := by
  by_cases h : ∃ a : Ant, k = a.val + 1 ∧ passesStatic b p n a = true
  · exact .inl h
  · exact .inr fun a ha => Bool.not_eq_true _ ▸ fun t => h ⟨a, ha, t⟩

/-- No antenna of the list that passes the static tests serves. -/
def NoneServes (v : View) (w : Blocks) (p : Pos) (n : Band) (l : List Nat) : Prop :=
  ∀ b : Ant, b.val + 1 ∈ l → passesStatic v.bank p n b = true → ¬ Serves v w p b

/-- Some antenna of the list passes the static tests. -/
def SomePasses (b : Bank) (p : Pos) (n : Band) (l : List Nat) : Prop :=
  ∃ a : Ant, a.val + 1 ∈ l ∧ passesStatic b p n a = true

/-- The walk comes past slots none of whose antennas serves. -/
theorem preferenceWalk_append (pre l : List Nat) (passed : Bool) (none : NoneServes v w p n pre) :
    ∃ passed', (passed' = true ↔ passed = true ∨ SomePasses v.bank p n pre) ∧
      preferenceWalk v w p n passed (pre ++ l) = preferenceWalk v w p n passed' l := by
  induction pre generalizing passed with
  | nil => exact ⟨passed, by simp [SomePasses], rfl⟩
  | cons k rest ih =>
    have none' : NoneServes v w p n rest := fun b hb => none b (List.mem_cons_of_mem _ hb)
    rcases slot_cases v.bank p n k with ⟨a, rfl, passes⟩ | fails
    · obtain ⟨passed', iff, eq⟩ := ih true none'
      refine ⟨passed', ⟨fun _ => .inr ⟨a, List.mem_cons_self, passes⟩, fun _ => iff.2 (.inl rfl)⟩, ?_⟩
      rw [List.cons_append, preferenceWalk_passed passes, if_neg (none a List.mem_cons_self passes), eq]
    · obtain ⟨passed', iff, eq⟩ := ih passed none'
      refine ⟨passed', iff.trans (or_congr_right ⟨fun ⟨a, ha, pa⟩ => ⟨a, List.mem_cons_of_mem _ ha, pa⟩, ?_⟩), ?_⟩
      · rintro ⟨a, ha, pa⟩
        rcases List.mem_cons.1 ha with e | e
        · rw [fails a e.symm] at pa
          cases pa
        · exact ⟨a, e, pa⟩
      · rw [List.cons_append, preferenceWalk_skipped fails, eq]

/-- With none that serves the walk ends HELD, or NO_CANDIDATE when none passes the static tests either. -/
theorem preferenceWalk_of_none {l : List Nat} (none : NoneServes v w p n l) :
    (SomePasses v.bank p n l → preferenceWalk v w p n false l = .held) ∧
    (¬ SomePasses v.bank p n l → preferenceWalk v w p n false l = .refused .noCandidate) := by
  obtain ⟨passed, iff, eq⟩ := preferenceWalk_append l [] false none
  rw [List.append_nil] at eq
  rw [eq, preferenceWalk]
  constructor
  · intro some
    rw [if_pos (iff.2 (.inr some))]
  · intro no
    rw [if_neg fun h => (iff.1 h).elim Bool.noConfusion no]

/-- The walk is ended by the first antenna that serves. -/
theorem preferenceWalk_of_first {pre post : List Nat} {a : Ant} (none : NoneServes v w p n pre)
    (passes : passesStatic v.bank p n a = true) (serves : Serves v w p a) :
    preferenceWalk v w p n false (pre ++ (a.val + 1) :: post) = ended w p a := by
  obtain ⟨passed, -, eq⟩ := preferenceWalk_append pre ((a.val + 1) :: post) false none
  rw [eq, preferenceWalk_passed passes, if_pos serves]

/-- Antenna `a` stands first in the list, behind `pre`, among those that pass the static tests and serve. -/
structure First (v : View) (w : Blocks) (p : Pos) (n : Band) (l pre : List Nat) (a : Ant) : Prop where
  split : ∃ post, l = pre ++ (a.val + 1) :: post
  before : NoneServes v w p n pre
  passes : passesStatic v.bank p n a = true
  serves : Serves v w p a

theorem none_or_first (l : List Nat) : NoneServes v w p n l ∨ ∃ pre a, First v w p n l pre a := by
  induction l with
  | nil => exact .inl fun _ h => nomatch h
  | cons k rest ih =>
    by_cases here : ∃ a : Ant, k = a.val + 1 ∧ passesStatic v.bank p n a = true ∧ Serves v w p a
    · obtain ⟨a, rfl, passes, serves⟩ := here
      exact .inr ⟨[], a, ⟨⟨rest, rfl⟩, nofun, passes, serves⟩⟩
    · have head : NoneServes v w p n [k] := fun b hb pb sb => here ⟨b, (List.mem_singleton.1 hb).symm, pb, sb⟩
      have join (m : List Nat) (h : NoneServes v w p n m) : NoneServes v w p n (k :: m) := fun b hb =>
        (List.mem_cons.1 hb).elim (fun e => head b (List.mem_singleton.2 e)) (h b)
      rcases ih with h | ⟨pre, a, ⟨post, rfl⟩, none, passes, serves⟩
      · exact .inl (join rest h)
      · exact .inr ⟨k :: pre, a, ⟨⟨post, rfl⟩, join pre none, passes, serves⟩⟩

theorem First.walk {l pre : List Nat} {a : Ant} (f : First v w p n l pre a) :
    preferenceWalk v w p n false l = ended w p a := by
  obtain ⟨⟨post, rfl⟩, none, passes, serves⟩ := f
  exact preferenceWalk_of_first none passes serves

theorem ended_ne_held (w : Blocks) (p : Pos) (a : Ant) : ended w p a ≠ .held := by
  unfold ended
  split <;> exact nofun

theorem ended_ne_refused (w : Blocks) (p : Pos) (a : Ant) (r : RefuseReason) : ended w p a ≠ .refused r := by
  unfold ended
  split <;> exact nofun

/-- The walk ends with the antenna it takes, and that is the first that serves. -/
theorem first_of_walk {l : List Nat} {a : Ant} (h : preferenceWalk v w p n false l = .target (some a) ∨
    (preferenceWalk v w p n false l = .current ∧ (w.routes.contexts.get p).antenna = some a)) :
    ∃ pre, First v w p n l pre a := by
  rcases none_or_first (v := v) (w := w) (p := p) (n := n) l with none | ⟨pre, b, f⟩
  · obtain ⟨held, refused⟩ := preferenceWalk_of_none none
    by_cases some : SomePasses v.bank p n l
    · rw [held some] at h
      simp at h
    · rw [refused some] at h
      simp at h
  · rw [f.walk, ended] at h
    have same : b = a := by
      by_cases current : (w.routes.contexts.get p).antenna = some b
      · simpa [current] using h
      · simpa [current] using h
    exact ⟨pre, same ▸ f⟩

theorem walk_eq_held_iff (l : List Nat) :
    preferenceWalk v w p n false l = .held ↔ SomePasses v.bank p n l ∧ NoneServes v w p n l := by
  rcases none_or_first (v := v) (w := w) (p := p) (n := n) l with none | ⟨pre, a, f⟩
  · obtain ⟨held, refused⟩ := preferenceWalk_of_none none
    refine ⟨fun h => ⟨by_contra fun no => ?_, none⟩, fun h => held h.1⟩
    rw [refused no] at h
    cases h
  · obtain ⟨⟨post, rfl⟩, -, passes, serves⟩ := id f
    refine ⟨fun h => absurd (f.walk.symm.trans h) (ended_ne_held w p a), fun h => ?_⟩
    exact absurd serves (h.2 a (by simp) passes)

theorem walk_eq_noCandidate_iff (l : List Nat) :
    preferenceWalk v w p n false l = .refused .noCandidate ↔ ¬ SomePasses v.bank p n l := by
  rcases none_or_first (v := v) (w := w) (p := p) (n := n) l with none | ⟨pre, a, f⟩
  · obtain ⟨held, refused⟩ := preferenceWalk_of_none none
    refine ⟨fun h some => ?_, refused⟩
    rw [held some] at h
    cases h
  · obtain ⟨⟨post, rfl⟩, -, passes, serves⟩ := id f
    exact ⟨fun h => absurd (f.walk.symm.trans h) (ended_ne_refused w p a _), fun no => absurd ⟨a, by simp, passes⟩ no⟩

/-- None of the slots before slot `k` serves, in the words of the slots' places. -/
theorem noneServes_take_iff (l : List Nat) (k : Nat) : NoneServes v w p n (l.take k) ↔
    ∀ j, j < k → ∀ b : Ant, l[j]? = some (b.val + 1) → passesStatic v.bank p n b = true →
      (w.routes.contexts.get p).antenna ≠ some b ∧ available v.bank w b p = false := by
  constructor
  · intro h j hj b hb pb
    refine not_serves.1 (h b ?_ pb)
    exact List.mem_iff_getElem?.2 ⟨j, by rw [List.getElem?_take, if_pos hj, hb]⟩
  · intro h b hb pb
    obtain ⟨j, hj⟩ := List.mem_iff_getElem?.1 hb
    rw [List.getElem?_take] at hj
    split at hj
    · next lt => exact not_serves.2 (h j lt b hj pb)
    · cases hj

theorem first_iff_slot {l : List Nat} {a : Ant} {k : Nat} (slot : l[k]? = some (a.val + 1))
    (before : NoneServes v w p n (l.take k)) (passes : passesStatic v.bank p n a = true) (serves : Serves v w p a) :
    First v w p n l (l.take k) a := by
  refine ⟨⟨l.drop (k + 1), ?_⟩, before, passes, serves⟩
  obtain ⟨lt, eq⟩ := List.getElem?_eq_some_iff.1 slot
  rw [← eq, List.getElem_cons_drop, List.take_append_drop]

end

/-! ### Selection by preference -/

theorem selection_byPreference {v : View} {w : Blocks} {p : Pos} {e : PlanIx} (h : e ∈ (w.classifier.get p).entry) :
    selection v w p .byPreference =
      preferenceWalk v w p (v.bank.plan.get e).band false (v.bank.preferences.get (v.bank.plan.get e).list) := by
  rw [selection, Option.mem_def.1 h]

theorem selection_antenna (v : View) (w : Blocks) (p : Pos) (a : Ant) : selection v w p (.antenna a) =
    if (v.bank.antennas.get a).enabled = false ∨ (path v.bank p a).defined = false then .refused .noPath
    else if (w.routes.contexts.get p).antenna = some a then .current
    else if available v.bank w a p = true then .target (some a) else .held := by
  rw [selection]
  cases (v.bank.antennas.get a).enabled <;> cases (path v.bank p a).defined <;> simp

/-! ### Availability (R45, R46) -/

/-- A position stands on an antenna as a holder or as a reserving position. -/
theorem occupies_iff (r : AntennaRecord) (q : Pos) :
    (r.occupants.any fun o => decide (o.pos = q)) = true ↔ q ∈ r.holders ∨ q ∈ r.reservations := by
  simp only [AntennaRecord.holders, AntennaRecord.reservations, List.any_eq_true, List.mem_map, List.mem_filter,
    decide_eq_true_eq]
  constructor
  · rintro ⟨o, mem, pos⟩
    cases role : o.role with
    | holding => exact .inl ⟨o, ⟨mem, role⟩, pos⟩
    | reserving => exact .inr ⟨o, ⟨mem, role⟩, pos⟩
  · rintro (⟨o, ⟨mem, -⟩, pos⟩ | ⟨o, ⟨mem, -⟩, pos⟩)
    · exact ⟨o, mem, pos⟩
    · exact ⟨o, mem, pos⟩

theorem openTo_iff (b : Bank) (w : Blocks) (a : Ant) (p : Pos) : openTo b w a p = true ↔ hasRoom b w a p := by
  have others : (positions.filter fun q =>
      decide (q ≠ p) && (w.routes.antennas.get a).occupants.any fun o => decide (o.pos = q)) =
      positions.filter fun q => decide (q ≠ p ∧
        (q ∈ (w.routes.antennas.get a).holders ∨ q ∈ (w.routes.antennas.get a).reservations)) := by
    refine List.filter_congr fun q _ => Bool.eq_iff_iff.2 ?_
    rw [Bool.and_eq_true, occupies_iff, decide_eq_true_iff, decide_eq_true_iff]
  rw [openTo, others]
  cases share : (b.antennas.get a).share with
  | exclusive => simp [hasRoom, share, positions]
  | split => simp [hasRoom, share]

theorem claimCompatible_iff (w : Blocks) (p : Pos) (k : Claim) : claimCompatible w p k = true ↔
    ∀ q : Pos, q ≠ p → ∀ o ∈ (w.image.claims.get q).effective ++ (w.image.claims.get q).reserved, o.coil = k.coil →
      (w.image.groups.get (groupOf k.coil)).inForce = .shared ∧
        (w.image.groups.get (groupOf k.coil)).awaited = false ∧ o.on = k.on := by
  have shared (m : GroupMode) : m ≠ .exclusive ↔ m = .shared := by cases m <;> decide
  simp only [claimCompatible, List.all_eq_true, Bool.or_eq_true, decide_eq_true_eq, Bool.not_eq_true',
    Bool.and_eq_false_iff, decide_eq_false_iff_not, judgedExclusive, Bool.or_eq_false_iff, bne_eq_false_iff_eq, shared]
  refine ⟨fun h q ne o ho coil => ?_, fun h q _ => or_iff_not_imp_left.2 fun ne o ho => ?_⟩
  · obtain ⟨⟨mode, awaited⟩, on⟩ := ((h q (List.mem_finRange q)).resolve_left ne o ho).resolve_left (not_not_intro coil)
    exact ⟨mode, awaited, on⟩
  · refine or_iff_not_imp_left.2 fun coil => ?_
    obtain ⟨mode, awaited, on⟩ := h q ne o ho (not_not.1 coil)
    exact ⟨⟨mode, awaited⟩, on⟩

/-- Settles O15: a preference walk is ended by the first antenna that serves (`First`), and is HELD or NO_CANDIDATE when none
does; availability is room and compatible claims. -/
theorem selectionTakesFirstAvailable : Obligations.SelectionTakesFirstAvailable := by
  intro v w p
  refine ⟨fun none => by rw [selection, none], fun e he => ?_, selection_antenna v w p, rfl, fun e he => ?_,
    fun n a => ?_, fun a => ?_⟩
  · rw [selection_byPreference he]
    refine ⟨fun a taken => ?_, ?_, ?_⟩
    · obtain ⟨pre, ⟨post, split⟩, before, passes, serves⟩ := first_of_walk taken
      refine ⟨passes, serves, pre.length, ?_, ?_, ?_⟩
      · simp [split]
      · simp [split]
      · rw [← noneServes_take_iff, split, List.take_left]
        exact before
    · rw [walk_eq_noCandidate_iff]
      simp [SomePasses]
    · rw [walk_eq_held_iff]
      exact and_congr_right fun _ => forall_congr' fun b => imp_congr_right fun _ => imp_congr_right fun _ => not_serves
  · intro k lt a slot passes serves before
    rw [selection_byPreference he]
    exact (first_iff_slot slot ((noneServes_take_iff _ k).2 before) passes serves).walk
  · simp [passesStatic, covers, and_assoc]
  · simp only [available, Bool.and_eq_true, openTo_iff, compatible, List.all_eq_true, claimCompatible_iff]

end Sys2Proof.Proofs.Preferring

/-!
SUPPORT. An event of the operating blocks that acts on the positions `own`, makes its held walk, acts on `own` once more, and then
examines and walks the waiting list (`ActEvent`): what it leaves of every other position, of the held requests (R54, R55), and of
the gate, in the words of Safety.lean. `Outside` is the frame of its parts.
-/
namespace Sys2Proof.Proofs.Eventing
open Sys2Proof Sys2Proof.Machine Sys2Proof.Proofs.Delivery Sys2Proof.Proofs.Selecting Sys2Proof.Proofs.Acting
open Sys2Proof.Proofs.Closing

/-! ### The frame of an operation on several positions -/

/-- The notice speaks of no position outside `own`. -/
def amid (own : Pos → Bool) (n : Raised) : Prop := ∀ q, own q = false → ¬ isKeyOf q n ∧ ¬ isRouteOf q n

/-- The operation from `w` to `w'` changes nothing of a position outside `own`. -/
structure Outside (own : Pos → Bool) (w w' : Work) : Prop where
  classifier : w'.classifier = w.classifier
  contexts : ∀ q, own q = false → w'.routes.contexts.get q = w.routes.contexts.get q
  held : w'.routes.held.filter (fun q => !own q) = w.routes.held.filter fun q => !own q
  claims : ∀ q, own q = false → w'.image.claims.get q = w.image.claims.get q
  holds : ∀ a q, own q = false → (w'.routes.antennas.get a).holds.get q = (w.routes.antennas.get a).holds.get q
  occupants : ∀ a, (w'.routes.antennas.get a).occupants.filter (fun o => !own o.pos) =
    (w.routes.antennas.get a).occupants.filter fun o => !own o.pos
  groups : ∀ g, w'.image.groups.get g = w.image.groups.get g ∨
    ((w.image.groups.get g).awaited = true ∧ w'.image.groups.get g = ⟨.exclusive, false⟩)
  keys : ∀ q, own q = false → w'.gate.keys.get q = w.gate.keys.get q
  waiting : w'.gate.waiting = w.gate.waiting
  examineAll : w'.examineAll = w.examineAll
  examine : ∀ q, own q = false → (q ∈ w'.examine ↔ q ∈ w.examine)
  ended : ∀ q, own q = false → (q ∈ w'.ended ↔ q ∈ w.ended)
  raised : ∃ l, w'.raised = w.raised ++ l ∧ ∀ n ∈ l, amid own n

theorem Outside.refl (own : Pos → Bool) (w : Work) : Outside own w w where
  classifier := rfl
  contexts _ _ := rfl
  held := rfl
  claims _ _ := rfl
  holds _ _ _ := rfl
  occupants _ := rfl
  groups _ := .inl rfl
  keys _ _ := rfl
  waiting := rfl
  examineAll := rfl
  examine _ _ := Iff.rfl
  ended _ _ := Iff.rfl
  raised := ⟨[], by simp⟩

theorem Outside.trans {own : Pos → Bool} {w w' w'' : Work} (h : Outside own w w') (k : Outside own w' w'') :
    Outside own w w'' where
  classifier := k.classifier.trans h.classifier
  contexts q n := (k.contexts q n).trans (h.contexts q n)
  held := k.held.trans h.held
  claims q n := (k.claims q n).trans (h.claims q n)
  holds a q n := (k.holds a q n).trans (h.holds a q n)
  occupants a := (k.occupants a).trans (h.occupants a)
  groups g := by
    rcases h.groups g with e | ⟨awaited, e⟩
    · exact e ▸ k.groups g
    · rcases k.groups g with f | ⟨awaited', -⟩
      · exact .inr ⟨awaited, f.trans e⟩
      · rw [e] at awaited'
        cases awaited'
  keys q n := (k.keys q n).trans (h.keys q n)
  waiting := k.waiting.trans h.waiting
  examineAll := k.examineAll.trans h.examineAll
  examine q n := (k.examine q n).trans (h.examine q n)
  ended q n := (k.ended q n).trans (h.ended q n)
  raised := by
    obtain ⟨l, hl, al⟩ := h.raised
    obtain ⟨m, hm, am⟩ := k.raised
    exact ⟨l ++ m, by rw [hm, hl, List.append_assoc], fun n hn => (List.mem_append.1 hn).elim (al n) (am n)⟩

theorem Outside.mono {own own' : Pos → Bool} {w w' : Work} (h : Outside own w w') (le : ∀ q, own q = true → own' q = true) :
    Outside own' w w' := by
  have lt (q : Pos) (n : own' q = false) : own q = false := by
    by_contra o
    rw [le q (by simpa using o)] at n
    cases n
  have pred (q : Pos) : (!own' q) = (!own' q && !own q) := by
    cases o : own' q with
    | true => rfl
    | false => rw [lt q o]; rfl
  have narrow {α : Type} (f : α → Pos) {l l' : List α} (e : l'.filter (fun x => !own (f x)) = l.filter fun x => !own (f x)) :
      l'.filter (fun x => !own' (f x)) = l.filter fun x => !own' (f x) := by
    rw [funext fun x => pred (f x), ← List.filter_filter, e, List.filter_filter]
  exact {
    classifier := h.classifier
    contexts := fun q n => h.contexts q (lt q n)
    held := narrow id h.held
    claims := fun q n => h.claims q (lt q n)
    holds := fun a q n => h.holds a q (lt q n)
    occupants := fun a => narrow Occupant.pos (h.occupants a)
    groups := h.groups
    keys := fun q n => h.keys q (lt q n)
    waiting := h.waiting
    examineAll := h.examineAll
    examine := fun q n => h.examine q (lt q n)
    ended := fun q n => h.ended q (lt q n)
    raised := h.raised.imp fun l hl => ⟨hl.1, fun n hn q o => hl.2 n hn q (lt q o)⟩ }

theorem Outside.mem_held {own : Pos → Bool} {w w' : Work} (h : Outside own w w') {q : Pos} (n : own q = false) :
    q ∈ w'.routes.held ↔ q ∈ w.routes.held := by
  have := congrArg (q ∈ ·) h.held
  simpa [n] using this

theorem Outside.mem_occupants {own : Pos → Bool} {w w' : Work} (h : Outside own w w') {o : Occupant} (n : own o.pos = false)
    (a : Ant) : o ∈ (w'.routes.antennas.get a).occupants ↔ o ∈ (w.routes.antennas.get a).occupants := by
  have := congrArg (o ∈ ·) (h.occupants a)
  simpa [n] using this

/-- An operation on one position. -/
theorem outside_of_touches {own : Pos → Bool} {p : Pos} {w w' : Work} (t : Touches p w w') (o : own p = true) :
    Outside own w w' := by
  refine Outside.mono (own := fun q => decide (q = p)) ?_ fun q e => of_decide_eq_true e ▸ o
  have ne {q : Pos} (n : decide (q = p) = false) : q ≠ p := of_decide_eq_false n
  exact {
    classifier := t.classifier
    contexts := fun q n => t.contexts q (ne n)
    held := by simpa using t.heldOrder
    claims := fun q n => t.claims q (ne n)
    holds := fun a q n => t.holds a q (ne n)
    occupants := fun a => by simpa using t.occupants a
    groups := t.groups
    keys := fun q n => t.keys q (ne n)
    waiting := t.waiting
    examineAll := t.examineAll
    examine := fun q n => t.examine q (ne n)
    ended := fun q n => t.ended q (ne n)
    raised := t.raised.imp fun l hl => ⟨hl.1, fun n hn q o =>
      ⟨not_isKeyOf_of_about (ne o) (hl.2 n hn), not_isRouteOf_of_about (ne o) (hl.2 n hn)⟩⟩ }

/-! ### The held walk, whatever the requests (R54, R55) -/

/-- One entry of a held walk: it stays, it starts its transition, or it leaves. -/
theorem heldEntry_cases (v : View) (w : Work) (q : Pos) : heldEntry v w q = w ∨
    (∃ kind cause a, heldEntry v w q = (startTransition v q kind cause a (w.context q).state (leaveHeld q w)).raise
      (.route q .heldSelected (some (.accepted .started)))) ∨
    ∃ cause answer, heldEntry v w q = (leaveHeld q w).raise (.route q cause answer) := by
  unfold heldEntry
  split
  · exact .inl rfl
  · split
    · exact .inl rfl
    · split
      · exact .inl rfl
      · exact .inr (.inl ⟨_, _, _, rfl⟩)
      · exact .inr (.inr ⟨_, _, rfl⟩)
      · exact .inr (.inr ⟨_, _, rfl⟩)

theorem heldEntry_gate (v : View) (w : Work) (q : Pos) :
    (PermitKept q w (heldEntry v w q) ∧ (heldEntry v w q).waitingWalk = w.waitingWalk) ∨
      ∃ r, PermitTaken v q r w (heldEntry v w q) := by
  rcases heldEntry_cases v w q with e | ⟨kind, cause, a, e⟩ | ⟨cause, answer, e⟩
  · exact .inl (e.symm ▸ ⟨PermitKept.refl q w, rfl⟩)
  · rw [e]
    cases on : isOn w.toBlocks q with
    | true =>
      exact .inr ⟨_, ((leaveHeld_kept q w).trans_taken (startTransition_taken on)).trans_kept (permitKept_raise id _)⟩
    | false =>
      have kept := startTransition_kept (v := v) (kind := kind) (cause := cause) (target := a)
        (start := (w.context q).state) (w := leaveHeld q w) on
      exact .inl ⟨((leaveHeld_kept q w).trans kept.1).trans (permitKept_raise id _), kept.2⟩
  · rw [e]
    exact .inl ⟨(leaveHeld_kept q w).trans (permitKept_raise id _), rfl⟩

theorem heldEntry_places (v : View) (w : Work) (q : Pos) (a : Ant) :
    ∃ new : List Occupant, ((heldEntry v w q).routes.antennas.get a).occupants =
        (w.routes.antennas.get a).occupants ++ new ∧ (∀ o ∈ new, o.role = .reserving) ∧
      (new.map Occupant.pos).Sublist [q] := by
  rcases heldEntry_cases v w q with e | ⟨kind, cause, n, e⟩ | ⟨cause, answer, e⟩
  · exact ⟨[], by rw [e, List.append_nil], by simp, by simp⟩
  · rw [e, Work.raise_routes, startTransition_occupants]
    unfold reservedAtEnd
    split
    · exact ⟨[⟨q, .reserving⟩], rfl, by simp, by simp⟩
    · exact ⟨[], (List.append_nil _).symm, by simp, by simp⟩
  · rw [e]
    exact ⟨[], (List.append_nil _).symm, by simp, by simp⟩

/-- The mode and the history of a position stand through a held walk. -/
theorem heldEntry_settings (v : View) (w : Work) (p q : Pos) :
    ((heldEntry v w p).routes.contexts.get q).mode = (w.routes.contexts.get q).mode ∧
      ((heldEntry v w p).routes.contexts.get q).history = (w.routes.contexts.get q).history := by
  by_cases own : q = p
  · subst own
    rcases heldEntry_cases v w q with e | ⟨kind, cause, n, e⟩ | ⟨cause, answer, e⟩
    · rw [e]
      exact ⟨rfl, rfl⟩
    · rw [e, Work.raise_routes, startTransition_contexts, put_get_same, leaveHeld_context]
      exact ⟨rfl, rfl⟩
    · rw [e, Work.raise_routes, leaveHeld_context]
      exact ⟨rfl, rfl⟩
  · rw [(touches_heldEntry v w p).contexts q own]
    exact ⟨rfl, rfl⟩

theorem heldEntries_outside (v : View) {own : Pos → Bool} (l : List Pos) (w : Work) (h : ∀ q ∈ l, own q = true) :
    Outside own w (l.foldl (heldEntry v) w) := by
  induction l generalizing w with
  | nil => exact Outside.refl own w
  | cons p l ih =>
    exact (outside_of_touches (touches_heldEntry v w p) (h p List.mem_cons_self)).trans
      (ih _ fun q hq => h q (List.mem_cons_of_mem p hq))

theorem heldEntries_gate {v : View} {b : Blocks} {owed : Prop} (l : List Pos) {w : Work} (g : GateStage v b w) :
    GateStage v b (l.foldl (heldEntry v) w) ∧ (WalkOwed b owed w → WalkOwed b owed (l.foldl (heldEntry v) w)) := by
  induction l generalizing w with
  | nil => exact ⟨g, id⟩
  | cons p l ih =>
    have permit := heldEntry_gate v w p
    have touches := touches_heldEntry v w p
    obtain ⟨stage, still⟩ := ih (g.step touches (permit.imp_left And.left))
    exact ⟨stage, fun o => still (o.step g touches permit)⟩

theorem heldEntries_places (v : View) (l : List Pos) (w : Work) (a : Ant) :
    ∃ new : List Occupant, ((l.foldl (heldEntry v) w).routes.antennas.get a).occupants =
        (w.routes.antennas.get a).occupants ++ new ∧ (∀ o ∈ new, o.role = .reserving) ∧
      (new.map Occupant.pos).Sublist l := by
  induction l generalizing w with
  | nil => exact ⟨[], (List.append_nil _).symm, by simp, by simp⟩
  | cons p l ih =>
    obtain ⟨first, places, roles, sub⟩ := heldEntry_places v w p a
    obtain ⟨rest, places', roles', sub'⟩ := ih (heldEntry v w p)
    refine ⟨first ++ rest, ?_, fun o ho => (List.mem_append.1 ho).elim (roles o) (roles' o), ?_⟩
    · rw [List.foldl_cons, places', places, List.append_assoc]
    · rw [List.map_append]
      exact sub.append sub'

theorem heldEntries_settings (v : View) (l : List Pos) (w : Work) (q : Pos) :
    ((l.foldl (heldEntry v) w).routes.contexts.get q).mode = (w.routes.contexts.get q).mode ∧
      ((l.foldl (heldEntry v) w).routes.contexts.get q).history = (w.routes.contexts.get q).history := by
  induction l generalizing w with
  | nil => exact ⟨rfl, rfl⟩
  | cons p l ih =>
    obtain ⟨mode, history⟩ := heldEntry_settings v w p q
    exact ⟨(ih _).1.trans mode, (ih _).2.trans history⟩

/-- A property that every entry of a held walk keeps, and that asks nothing of what is owed, is kept by the walk that is owed. -/
theorem heldWalkIfOwed_induction (P : Work → Prop) (v : View) (w : Work) (start : P w)
    (walk : P (w.routes.held.foldl (heldEntry v) w) → P { w.routes.held.foldl (heldEntry v) w with heldWalk := false })
    (entries : w.heldWalk = true → P (w.routes.held.foldl (heldEntry v) w)) : P (heldWalkIfOwed v w) := by
  cases owed : w.heldWalk with
  | false =>
    rw [heldWalkIfOwed_of_not_owed v owed]
    exact start
  | true =>
    rw [heldWalkIfOwed_of_owed v owed]
    exact walk (entries owed)

theorem outside_owed {own : Pos → Bool} {w w' : Work} (h : Outside own w w') (b : Bool) :
    Outside own w { w' with heldWalk := b } := { h with }

theorem heldWalkIfOwed_outside (v : View) {own : Pos → Bool} {w : Work}
    (h : w.heldWalk = true → ∀ q ∈ w.routes.held, own q = true) : Outside own w (heldWalkIfOwed v w) :=
  heldWalkIfOwed_induction (Outside own w) v w (Outside.refl own w) (fun o => outside_owed o _) fun owed =>
    heldEntries_outside v _ w (h owed)

theorem gateStage_owed {v : View} {b : Blocks} {w : Work} (h : GateStage v b w) (x : Bool) :
    GateStage v b { w with heldWalk := x } := ⟨h.waiting, h.keys, h.noAlls, h.examineAll⟩

theorem heldWalkIfOwed_gate {v : View} {b : Blocks} {w : Work} (g : GateStage v b w) : GateStage v b (heldWalkIfOwed v w) :=
  heldWalkIfOwed_induction (GateStage v b) v w g (fun g => gateStage_owed g _) fun _ =>
    (heldEntries_gate (owed := True) _ g).1

theorem heldWalkIfOwed_walkOwed {v : View} {b : Blocks} {owed : Prop} {w : Work} (g : GateStage v b w)
    (o : WalkOwed b owed w) : WalkOwed b owed (heldWalkIfOwed v w) :=
  heldWalkIfOwed_induction (WalkOwed b owed) v w o id fun _ => (heldEntries_gate _ g).2 o

theorem heldWalkIfOwed_places (v : View) (w : Work) (a : Ant) :
    ∃ new : List Occupant, ((heldWalkIfOwed v w).routes.antennas.get a).occupants =
        (w.routes.antennas.get a).occupants ++ new ∧ (∀ o ∈ new, o.role = .reserving) ∧
      (new.map Occupant.pos).Sublist w.routes.held :=
  heldWalkIfOwed_induction (fun w' => ∃ new : List Occupant, (w'.routes.antennas.get a).occupants =
      (w.routes.antennas.get a).occupants ++ new ∧ (∀ o ∈ new, o.role = .reserving) ∧
      (new.map Occupant.pos).Sublist w.routes.held) v w ⟨[], (List.append_nil _).symm, by simp, by simp⟩ id fun _ =>
    heldEntries_places v _ w a

theorem heldWalkIfOwed_settings (v : View) (w : Work) (q : Pos) :
    ((heldWalkIfOwed v w).routes.contexts.get q).mode = (w.routes.contexts.get q).mode ∧
      ((heldWalkIfOwed v w).routes.contexts.get q).history = (w.routes.contexts.get q).history :=
  heldWalkIfOwed_induction (fun w' => (w'.routes.contexts.get q).mode = (w.routes.contexts.get q).mode ∧
    (w'.routes.contexts.get q).history = (w.routes.contexts.get q).history) v w ⟨rfl, rfl⟩ id fun _ =>
    heldEntries_settings v _ w q

theorem heldWalkIfOwed_heldWalk (v : View) (w : Work) : (heldWalkIfOwed v w).heldWalk = false := by
  cases owed : w.heldWalk with
  | false => rw [heldWalkIfOwed_of_not_owed v owed, owed]
  | true => rw [heldWalkIfOwed_of_owed v owed]

/-- The walking of the list is owed after a held walk when it was before. -/
theorem heldWalkIfOwed_waitingWalk (v : View) (w : Work) (owed : w.waitingWalk = true) :
    (heldWalkIfOwed v w).waitingWalk = true := by
  refine heldWalkIfOwed_induction (fun w => w.waitingWalk = true) v w owed id fun _ => ?_
  refine foldl_keeps (fun w => w.waitingWalk = true) (heldEntry v) (fun w q h => ?_) _ w owed
  rcases heldEntry_gate v w q with ⟨kept, -⟩ | ⟨r, taken⟩
  · exact kept.walk h
  · exact taken.walk

/-! ### The event -/

/-- An event from `s` to `t` that acted on the positions `own` alone, came to `w`, made the held walk it owed, acted on `own` again,
came to `w'`, and then examined and walked the waiting list, and raised the ROUTE NOTICEs `after` behind that. -/
structure ActEvent (s t : State) (own : Pos → Bool) (w w' : Work) (after : List Raised) : Prop where
  view : t.view = s.view
  before : Outside own (Work.start s.blocks) w
  behind : Outside own (heldWalkIfOwed s.view w) w'
  gate : GateStage s.view s.blocks w'
  blocks : t.blocks = (waitingWalkIfOwed s.view (examineOwed s.view w')).toBlocks
  noKeys : ∀ n ∈ after, ∀ q, ¬ isKeyOf q n
  amid : ∀ n ∈ after, amid own n
  reports : Reports s t (closeRaised s w' after)

section
variable {s t : State} {own : Pos → Bool} {w w' : Work} {after : List Raised}

theorem ActEvent.closed (e : ActEvent s t own w w' after) : Closed s t w' := ⟨e.view, e.blocks, e.gate⟩

/-- The frame of the whole event. -/
theorem ActEvent.outside (e : ActEvent s t own w w' after) {own' : Pos → Bool}
    (h : ∀ q, own q = true ∨ (w.heldWalk = true ∧ q ∈ s.held) → own' q = true) : Outside own' (Work.start s.blocks) w' := by
  have le (q : Pos) (o : own q = true) : own' q = true := h q (.inl o)
  refine ((e.before.mono le).trans (heldWalkIfOwed_outside s.view fun owed q hq => ?_)).trans (e.behind.mono le)
  cases o : own q with
  | true => exact le q o
  | false => exact h q (.inr ⟨owed, (e.before.mem_held o).1 hq⟩)

theorem ActEvent.othersKept (e : ActEvent s t own w w' after) {others : Pos → Prop}
    (h : ∀ q, own q = true ∨ (w.heldWalk = true ∧ q ∈ s.held) → others q) : othersKept s t others := by
  classical
  have o := e.outside (own' := fun q => decide (others q)) fun q hq => decide_eq_true (h q hq)
  refine e.closed.othersKept ⟨fun q n => ?_, o.groups⟩
  have n : decide (others q) = false := decide_eq_false n
  exact ⟨o.claims q n, fun a => o.holds a q n, o.keys q n, o.contexts q n, fun m => List.not_mem_nil ((o.examine q n).1 m)⟩

theorem ActEvent.walkedIfWithdrawn (e : ActEvent s t own w w' after) (only : WalkOwed s.blocks False w') :
    walkedIfWithdrawn s t := e.closed.walkedIfWithdrawn only e.reports e.noKeys

theorem ActEvent.walked (e : ActEvent s t own w w' after) (owed : w'.waitingWalk = true) :
    gateConsistent s → walked s t := fun consistent => e.closed.walked consistent owed e.reports e.noKeys

theorem ActEvent.withdrawnAs (e : ActEvent s t own w w' after) {q : Pos} {r : Reason} (on : (s.key q).state = .on)
    (key : w'.gate.keys.get q = withdrawnKey s.bank (s.key q) r) : withdrawnAs s.bank s t q r none :=
  e.closed.withdrawnAs on key e.reports e.noKeys

/-- The last ROUTE NOTICE of a position that the notices behind the close do not speak of. -/
theorem ActEvent.lastRoute (e : ActEvent s t own w w' after) {q : Pos} {n : Raised}
    (last : LastOf (isRouteOf q) n w'.raised) (later : ∀ m ∈ after, ¬ isRouteOf q m) :
    LastOf (isRouteOf q) n (closeRaised s w' after) := by
  cases owed : w'.waitingWalk with
  | false =>
    rw [closeRaised_of_no_walk owed]
    exact last.append later
  | true =>
    rw [closeRaised_of_walk e.closed owed]
    obtain ⟨m, hm, am⟩ := walkEntries_raised t.view s.waiting (examineOwed s.view w')
    rw [hm, (examineOwed_frame s.view _).2.2.2.2.2.2.1]
    refine (last.append fun n hn k => ?_).append later
    obtain ⟨x, -, key⟩ := am n hn
    cases n with
    | route => exact key
    | key => exact k
    | all => exact k

/-- A notice raised last behind the close of the event is told. -/
theorem ActEvent.told (e : ActEvent s t own w w' after) {q : Pos} {cause : RouteCause} {answer : Option Answer}
    (last : LastOf (isRouteOf q) (.route q cause answer) after) (few : (s.port q).notices.length ≤ 4) {f : Notice → Bool}
    (hf : f (routeNotice t.blocks q cause answer) = true) : holdsNotice t q f :=
  e.reports.route (last.prepend _) few hf

/-! ### The held requests of the other positions -/

/-- What the held walk of an event needs to be predictable: each entry is ready, and what follows the walk spares the others. -/
structure Walks (s : State) (own : Pos → Bool) (w w' : Work) : Prop where
  consistent : heldConsistent s
  reserved : reservedInTransition s
  nodup : w.routes.held.Nodup
  ready : ∀ q ∈ w.routes.held, own q = true → ∃ r, HeldReady s.view w q r
  spares : ∀ q, own q = false → Spares q (heldWalkIfOwed s.view w) w'

theorem ActEvent.ready (e : ActEvent s t own w w' after) (k : Walks s own w w') {q : Pos} (n : own q = false)
    (hq : q ∈ s.held) {r : PendingRequest} (slot : r ∈ (s.context q).slot) : HeldReady s.view w q r := by
  obtain ⟨member, statuses, -⟩ := k.consistent.2 q
  obtain ⟨r', slot', status⟩ := member.1 hq
  obtain rfl : r' = r := Option.mem_unique slot' slot
  have none := (statuses r' slot').1 status
  have context := e.before.contexts q n
  exact ⟨by rw [context]; exact slot', status, by rw [context]; exact none,
    .inr (by rw [e.before.claims q n]; exact k.reserved q none)⟩

theorem ActEvent.allReady (e : ActEvent s t own w w' after) (k : Walks s own w w') : AllReady s.view w w.routes.held := by
  intro q hq
  refine ⟨hq, ?_⟩
  cases n : own q with
  | true => exact k.ready q hq n
  | false =>
    have held := (e.before.mem_held n).1 hq
    obtain ⟨r, slot, -⟩ := (k.consistent.2 q).1.1 held
    exact ⟨r, e.ready k n held slot⟩

/-- What the walk does to the held request of another position, as it stands when the waiting walk begins. -/
theorem ActEvent.result (e : ActEvent s t own w w' after) (k : Walks s own w w') (owed : w.heldWalk = true) {q : Pos}
    (n : own q = false) (hq : q ∈ s.held) {r : PendingRequest} (slot : r ∈ (s.context q).slot) :
    EntryResult s.view w w' q r := by
  have ready := e.ready k n hq slot
  have walk := heldEntries_result k.nodup (e.allReady k) ((e.before.mem_held n).2 hq) ready.slot
  have spares := k.spares q n
  rw [heldWalkIfOwed_of_owed s.view owed] at spares
  exact walk.spares ((spares_heldWalk q _ false).trans spares)

/-- The held requests that stay keep their order and place (R54). -/
theorem ActEvent.held_order (e : ActEvent s t own w w' after) : t.held.filter (fun q => !own q) =
    s.held.filter fun q => !own q && decide (q ∈ t.held) := by
  have walk : ∃ f : Pos → Bool, (heldWalkIfOwed s.view w).routes.held = w.routes.held.filter f :=
    heldWalkIfOwed_induction (fun x => ∃ f : Pos → Bool, x.routes.held = w.routes.held.filter f) s.view w
      ⟨fun _ => true, (List.filter_eq_self.mpr fun _ _ => rfl).symm⟩ id fun _ => heldEntries_held s.view w.routes.held w
  obtain ⟨f, hf⟩ := walk
  have held : t.held.filter (fun q => !own q) = s.held.filter fun q => f q && !own q := by
    rw [e.closed.held, e.behind.held, hf, List.filter_filter]
    calc w.routes.held.filter (fun q => !own q && f q)
        = (w.routes.held.filter fun q => !own q).filter f := by
          rw [List.filter_filter]
          exact List.filter_congr fun q _ => Bool.and_comm _ _
      _ = (s.held.filter fun q => !own q).filter f := by rw [e.before.held]; rfl
      _ = s.held.filter fun q => f q && !own q := by rw [List.filter_filter]
  rw [held]
  refine List.filter_congr fun q hq => ?_
  cases n : own q with
  | true => simp
  | false =>
    have mem := congrArg (q ∈ ·) held
    simp only [List.mem_filter, n, Bool.not_false, and_true, Bool.and_true, eq_iff_iff] at mem
    rw [Bool.not_false, Bool.and_true, Bool.true_and]
    exact Bool.eq_iff_iff.2 (by simpa [hq] using mem.symm)

/-- What the held walk of the event leaves of the held requests of the other positions (R54, R55). -/
theorem ActEvent.heldWalkedBy (e : ActEvent s t own w w' after) (k : Walks s own w w') (owed : w.heldWalk = true) :
    heldWalkedBy s t own := by
  have c := e.closed
  refine ⟨e.held_order, fun q n hq r slot unforced => ?_⟩
  have unmoved : w.routes.contexts.get q = s.context q := e.before.contexts q n
  have still : (s.context q).transition = none := unmoved ▸ (e.ready k n hq slot).transition
  have held (h : q ∈ t.held) : q ∈ w'.routes.held := c.held ▸ h
  have claims₀ : w.image.claims.get q = s.claims q := e.before.claims q n
  have key₀ : w.gate.keys.get q = s.key q := e.before.keys q n
  have keyKept (permit : PermitKept q w w') (notWaiting : q ∉ s.waiting) : t.key q = s.key q :=
    (c.key_of_notMem notWaiting).trans (permit.key.trans key₀)
  have wOn : isOn w.toBlocks q = true ↔ (s.key q).state = .on := by simp [isOn, key₀]
  have later (m : Raised) (hm : m ∈ after) : ¬ isRouteOf q m := (e.amid m hm q n).2
  cases e.result k owed n hq slot with
  | stays stays context claims _ _ permit sel =>
    have same : t.context q = s.context q :=
      (c.context_of_none (by rw [context, unmoved, still])).trans (context.trans unmoved)
    have claimed : t.claims q = s.claims q := (c.claims q).trans (claims.trans claims₀)
    refine ⟨by rw [claimed], fun _ => ⟨same, ?_⟩, fun left => absurd (c.held ▸ stays) left, fun _ => by rw [claimed],
      fun _ => keyKept permit, fun left => absurd (c.held ▸ stays) left, fun left => absurd (c.held ▸ stays) left⟩
    rw [c.selection r.kind (by rw [same, context, unmoved]), sel]
  | leaves left context claims _ permit notHeld noTarget notice =>
    have same : t.context q = { s.context q with slot := none } := by
      rw [c.context_of_none (by rw [context, unmoved, still]), context, unmoved]
    have claimed : t.claims q = s.claims q := (c.claims q).trans (claims.trans claims₀)
    have sel := c.selection (q := q) r.kind (by rw [same, context, unmoved])
    have none : (t.context q).transition = none := by rw [same, still]
    refine ⟨by rw [claimed], fun stays => absurd (held stays) left, fun _ _ => ⟨same, sel ▸ notHeld, sel ▸ noTarget⟩,
      fun _ => by rw [claimed], fun _ => keyKept permit, fun _ tr htr => by simp [none] at htr, fun _ few => ?_⟩
    obtain ⟨cause, answer, hc, last⟩ := notice
    refine e.reports.route (e.lastRoute last later) few ?_
    rcases hc with rfl | rfl <;> simp [routeNotice, Notice.isRoute]
  | starts target left context effective reserved place holds taken kept examined notice =>
    have notFault : r.cause ≠ .fault := fun e => by simp [e, Cause.forced] at unforced
    have at' : w'.routes.contexts.get q = { s.context q with
        state := .switching, slot := Option.none
        transition := some (waitRecord s.bank (s.context q).antenna target r.kind r.cause (s.context q).state false) } := by
      rw [context, unmoved, heldStarted, unforced, Bool.or_false, if_neg notFault]
      rfl
    obtain ⟨⟨due, final⟩, start⟩ := c.context_of_examined (by rw [at']) rfl rfl examined
    rw [at'] at final
    have some : (t.context q).transition =
        some (waitRecord s.bank (s.context q).antenna target r.kind r.cause (s.context q).state due) := by
      rw [final]
      rfl
    refine ⟨?_, fun stays => absurd (held stays) left, fun _ none => by simp [none] at some,
      fun none => by simp [none] at some, fun off => ?_, fun _ tr' htr' => ?_, fun _ few => ?_⟩
    · rw [c.claims, effective, claims₀]
    · have off : (s.key q).state ≠ .on := off.resolve_left (by simp [some])
      exact keyKept (kept (Bool.eq_false_iff.2 fun on => off (wOn.1 on)))
    · obtain rfl : waitRecord s.bank (s.context q).antenna target r.kind r.cause (s.context q).state due = tr' := by
        simpa [some] using htr'
      refine ⟨rfl, final, start, fun on => e.withdrawnAs on ?_, fun o ho => ?_, fun n hn => ⟨?_, ?_, ?_⟩⟩
      · rw [(taken (wOn.2 on)).key, key₀]
        rfl
      · rw [c.antenna]
        exact holds o (.inr (by rw [unmoved]; exact ho))
      · rw [c.antenna]
        exact mem_reservations.2 (place n hn)
      · rw [c.antenna]
        exact holds n (.inl hn)
      · rw [c.claims]
        exact reserved n hn
    · refine e.reports.route (e.lastRoute notice later) few ?_
      simp [routeNotice, Notice.isRoute]

end

end Sys2Proof.Proofs.Eventing

/-!
SUPPORT. The route requests of a frame (R40, R41, R47 to R50): how each row of the table comes to the Route Engine, and the state that
a request leaves (`served`).
-/
namespace Sys2Proof.Proofs.Serving
open Sys2Proof Sys2Proof.Machine Sys2Proof.Proofs.Bytes Sys2Proof.Proofs.Take Sys2Proof.Proofs.Delivery
open Sys2Proof.Proofs.Closing Sys2Proof.Proofs.Following Sys2Proof.Proofs.Reports

/-! ### A request with its walks and its reply -/

/-- The state left by a request of link `lp` that came to this work and answer, with its walks and its reply (R49, R186). -/
def served (s : State) (lp : Pos) (cls : Byte) (r : Work × Answer) : State :=
  ((s.take lp).finish (closeRequest s.view r).1).placeReply lp cls r.2.result

section
variable {s : State} {lp : Pos} {cls : Byte} {r : Work × Answer}

theorem closeRequest_blocks (v : View) (r : Work × Answer) : (closeRequest v r).1.toBlocks = (close v r.1).toBlocks :=
  raiseAbandonFaults_blocks _

theorem closeRequest_answer (v : View) (r : Work × Answer) : (closeRequest v r).2 = r.2 := by
  rw [closeRequest]

theorem closeRequest_raised (v : View) (r : Work × Answer) : (closeRequest v r).1.raised =
    (close v r.1).raised ++ r.1.abandonFaults.map fun p => .route p .fault none := by
  refine (raiseAbandonFaults_raised _).trans ?_
  rw [(close_frame v r.1).2.2.2.2.2.1]

theorem served_blocks (s : State) (lp : Pos) (cls : Byte) (r : Work × Answer) :
    (served s lp cls r).blocks = (close s.view r.1).toBlocks := by
  simp only [served, placeReply_frame, finish_frame, closeRequest_blocks]

theorem served_view (s : State) (lp : Pos) (cls : Byte) (r : Work × Answer) : (served s lp cls r).view = s.view := by
  simp only [served, State.view, placeReply_frame, finish_frame, take_frame]

theorem closeRequest_untold (v : View) (told : r.1.commitTold = false) : (closeRequest v r).1.commitTold = false := by
  simp [closeRequest, told]

theorem blocksOnly_served (told : r.1.commitTold = false) :
    blocksOnly (s.answered lp cls r.2.result) (served s lp cls r) :=
  blocksOnly_placeReply (blocksOnly_finish _ (closeRequest_untold _ told))

/-- The reply of a frame leaves the notices that wait as they are. -/
theorem placeReply_notices (s : State) (lp : Pos) (cls : Byte) (r : Result) (q : Pos) :
    ((s.placeReply lp cls r).port q).notices = (s.port q).notices := by
  rw [State.port, placeReply_port]
  split <;> rfl

theorem reports_served {u : State} (same : ∀ q, (u.port q).notices = (s.port q).notices)
    (noAlls : NoAlls (closeRequest s.view r).1.raised) :
    Reports u (served s lp cls r) (closeRequest s.view r).1.raised := by
  obtain ⟨-, ports, before, after⟩ := reports_finish (s₀ := s.take lp) (s := u)
    (w := (closeRequest s.view r).1) (fun q => (take_notices s lp q).trans (same q).symm) noAlls
  refine ⟨noAlls, ports, before, fun q => ?_⟩
  have bank : (served s lp cls r).bank = ((s.take lp).finish (closeRequest s.view r).1).bank :=
    congrArg Banks.active (placeReply_frame _ lp cls _).2.2.2.2.2.2.2.2.2.1
  have blocks : (served s lp cls r).blocks = ((s.take lp).finish (closeRequest s.view r).1).blocks :=
    (placeReply_frame _ lp cls _).2.2.2.2.2.2.2.2.1
  rw [bank, blocks, ← after, served, placeReply_notices]

/-- A request that owes nothing and raises nothing changes the blocks it names and is answered. -/
theorem served_of_clean (clean : Clean r.1) (quiet : r.1.raised = []) (told : r.1.commitTold = false) :
    served s lp cls r = { s.answered lp cls r.2.result with blocks := r.1.toBlocks } := by
  have raised : (closeRequest s.view r).1.raised = [] := by
    rw [closeRequest_raised, (close_of_clean clean s.view).2, quiet, clean.abandonFaults]
    rfl
  rw [served, finish_of_untold _ (closeRequest_untold _ told), raised, closeRequest_blocks,
    (close_of_clean clean s.view).1, ← placeReply_take]
  simp only [List.foldl_nil, State.placeReply, State.setPort]

end

/-! ### The rows of the table -/

theorem routeKind_eq {b : Byte} {kind : RequestKind}
    (h : (b = 0 ∧ kind = .byPreference) ∨ ∃ n : Ant, b.toNat = n.val + 1 ∧ kind = .antenna n) : routeKind b = some kind := by
  unfold routeKind
  rcases h with ⟨rfl, rfl⟩ | ⟨n, number, rfl⟩
  · rfl
  · have nonzero : b ≠ 0 := by
      rintro rfl
      simp at number
    rw [if_neg nonzero, ofNum_eq_some.2 (number.trans (Nat.add_comm _ _))]
    rfl

/-- A route byte up to 16 asks for a request. -/
theorem exists_routeKind {b : Byte} (h : b.toNat ≤ 16) : ∃ kind, routeKind b = some kind := by
  by_cases zero : b = 0
  · exact ⟨_, routeKind_eq (.inl ⟨zero, rfl⟩)⟩
  · have pos : b.toNat ≠ 0 := fun e => zero (BitVec.eq_of_toNat_eq e)
    exact ⟨_, routeKind_eq (.inr ⟨⟨b.toNat - 1, by omega⟩, by simp only; omega, rfl⟩)⟩

section
variable {s : State} {lp : Pos}

theorem exec_route {b : Byte} {kind : RequestKind} (taken : s.handlerNext = some (lp, ⟨0x02, [b]⟩))
    (asks : routeKind b = some kind) :
    exec (.route lp [b]) s = .next (served s lp 0x02 (request s.view lp kind .request (Work.start s.blocks))) := by
  change Host.Outcome.next (s.handle lp 0x02 [b] (oneByte [b] fun b s => s.route lp b)) = _
  rw [handle_taken _ taken]
  simp only [oneByte, State.route, asks, State.routing, served, take_frame, closeRequest_answer]

theorem exec_revert (taken : s.handlerNext = some (lp, ⟨0x03, []⟩)) :
    exec (.revert lp []) s = .next (served s lp 0x03 (revertRequest s.view lp (Work.start s.blocks))) := by
  change Host.Outcome.next (s.handle lp 0x03 [] (emptyBody [] fun s => s.revert lp)) = _
  rw [handle_taken _ taken]
  simp only [emptyBody, State.revert, State.routing, served, take_frame, closeRequest_answer]

theorem exec_release (taken : s.handlerNext = some (lp, ⟨0x04, []⟩)) :
    exec (.release lp []) s = .next (served s lp 0x04 (request s.view lp .release .request (Work.start s.blocks))) := by
  change Host.Outcome.next (s.handle lp 0x04 [] (emptyBody [] fun s => s.release lp)) = _
  rw [handle_taken _ taken]
  simp only [emptyBody, State.release, State.routing, served, take_frame, closeRequest_answer]

theorem exec_modeFollow (taken : s.handlerNext = some (lp, ⟨0x05, [0]⟩)) : exec (.modeFollow lp [0]) s =
    .next (((s.take lp).modeFollow lp).1.placeReply lp 0x05 ((s.take lp).modeFollow lp).2) :=
  congrArg Host.Outcome.next ((if_pos rfl).trans (handle_taken _ taken))

theorem exec_modeManual (taken : s.handlerNext = some (lp, ⟨0x05, [1]⟩)) : exec (.modeManual lp [1]) s =
    .next (((s.take lp).modeManual lp).1.placeReply lp 0x05 ((s.take lp).modeManual lp).2) :=
  congrArg Host.Outcome.next ((if_neg (by decide)).trans (handle_taken _ taken))

/-- A request that the tests of the station and of the position refuse changes nothing (R41). -/
theorem served_refused (s : State) (lp : Pos) (cls : Byte) (r : RefuseReason) :
    served s lp cls (Work.start s.blocks, .refused r) = s.answered lp cls (.refused r) :=
  (served_of_clean (clean_start s.blocks) rfl rfl).trans rfl

theorem admission_of_mode (other : s.station.mode ≠ .normal) (p : Pos) : admission s.view p = some .failsafe := if_pos other

theorem admission_of_disabled (normal : s.station.mode = .normal) {p : Pos} (off : (s.bank.positions.get p).enabled = false) :
    admission s.view p = some .disabled := by
  have off : enabled s.view.bank p = false := off
  exact (if_neg (not_not_intro normal)).trans (by rw [off]; rfl)

theorem admission_of_enabled (normal : s.station.mode = .normal) {p : Pos} (on : (s.bank.positions.get p).enabled = true) :
    admission s.view p = none := (if_neg (not_not_intro normal)).trans (if_pos on)

end

/-- Settles O16: the tests of R41 come first in every request. -/
theorem routeRequestsRefused : Obligations.RouteRequestsRefused := by
  intro s lp b r h
  have refused : admission s.view lp = some r := by
    rcases h with ⟨other, rfl⟩ | ⟨normal, off, rfl⟩
    · exact admission_of_mode other lp
    · exact admission_of_disabled normal off
  have refused' : admission (s.take lp).view lp = some r := refused
  have answer (kind : RequestKind) (cause : Cause) :
      request s.view lp kind cause (Work.start s.blocks) = (Work.start s.blocks, .refused r) := by rw [request, refused]
  refine ⟨fun taken small => ?_, fun taken => ?_, fun taken => ?_, fun taken => ?_, fun taken => ?_⟩
  · obtain ⟨kind, asks⟩ := exists_routeKind small
    rw [exec_route taken asks, answer, served_refused]
  · rw [exec_revert taken, revertRequest, refused, served_refused]
  · rw [exec_release taken, answer, served_refused]
  · rw [exec_modeFollow taken, State.modeFollow, refused', ← placeReply_take]
  · rw [exec_modeManual taken, State.modeManual, refused', ← placeReply_take]

/-! ### The state a request finds -/

theorem start_withContext (s : State) (p : Pos) (c : Context) :
    (Work.start s.blocks).setContext p c = Work.start (s.withContext p c).blocks := rfl

theorem answered_withContext (s : State) (lp : Pos) (cls : Byte) (r : Result) (p : Pos) (c : Context) :
    (s.answered lp cls r).withContext p c = { s.answered lp cls r with blocks := (s.withContext p c).blocks } := rfl

theorem withContext_withContext (s : State) (p : Pos) (c c' : Context) :
    (s.withContext p c).withContext p c' = s.withContext p c' := by
  simp [State.withContext]

theorem withContext_context (s : State) (p : Pos) (c : Context) : (s.withContext p c).context p = c := put_get_same _ _ _

theorem withContext_other (s : State) {p q : Pos} (h : q ≠ p) (c : Context) : (s.withContext p c).context q = s.context q :=
  put_get_other _ _ h

section
variable {s : State} {lp : Pos}

/-- A REVERT of an admitted position with a history pops it, and goes on as an ANTENNA request (R47). -/
theorem revertRequest_popped {v : View} (admitted : admission v lp = none) {a : Ant} {rest : List Ant}
    (top : (s.context lp).history = a :: rest) : revertRequest v lp (Work.start s.blocks) =
      takeRequest v lp (.antenna a) .request
        (Work.start (s.withContext lp { s.context lp with history := rest }).blocks) := by
  have top : ((Work.start s.blocks).context lp).history = a :: rest := top
  rw [revertRequest, admitted]
  simp only [top]
  rfl

theorem setMode_eq (s : State) (p : Pos) (m : Mode) : s.setMode p m = s.withContext p { s.context p with mode := m } :=
  (finish_of_untold s (w := (Work.start s.blocks).setContext p { s.context p with mode := m }) rfl).trans rfl

/-- The end of an event takes nothing from the blocks it began with. -/
theorem finish_withContext (s : State) (p : Pos) (c : Context) (w : Work) : (s.withContext p c).finish w = s.finish w := by
  simp only [State.finish, State.withContext, State.applyCondition]
  rfl

/-- A MODE FOLLOW of an admitted position with a band goes on as a BY_PREFERENCE request with cause FOLLOW (R38). -/
theorem modeFollow_requests (taken : s.handlerNext = some (lp, ⟨0x05, [0]⟩)) (admitted : admission s.view lp = none)
    (band : (s.classRecord lp).entry ≠ none) : exec (.modeFollow lp [0]) s =
      .next (served s lp 0x05 (takeRequest s.view lp .byPreference .follow
        (Work.start (s.withContext lp { s.context lp with mode := .follow }).blocks))) := by
  have admitted' : admission (s.take lp).view lp = none := admitted
  obtain ⟨e, entry⟩ := Option.ne_none_iff_exists'.1 band
  have entry' : (((s.take lp).withContext lp { (s.take lp).context lp with mode := .follow }).blocks.classifier.get
    lp).entry = some e := entry
  have view : ((s.take lp).withContext lp { (s.take lp).context lp with mode := .follow }).view = s.view := rfl
  rw [exec_modeFollow taken, State.modeFollow, admitted']
  simp only [setMode_eq, entry', State.routing, served, view, request_of_admitted admitted, finish_withContext,
    closeRequest_answer]
  rfl

end

/-! ### Behind a transition that is not in WAIT, or is forced (R50) -/

theorem not_wait_or_forced_iff (tr : Transition) : ¬ (tr.phase = .wait ∧ tr.cause.forced = false) ↔
    tr.phase ≠ .wait ∨ tr.cause = .commit ∨ tr.cause = .fault := by
  cases tr.phase <;> cases tr.cause <;> simp [Cause.forced]

/-- A request behind such a transition is latched, and nothing else is changed. -/
theorem served_latched {s : State} {p lp : Pos} {cls : Byte} {c : Context} {tr : Transition} (kind : RequestKind) (cause : Cause)
    (at' : c.transition = some tr) (other : ¬ (tr.phase = .wait ∧ tr.cause.forced = false)) :
    served s lp cls (takeRequest s.view p kind cause (Work.start (s.withContext p c).blocks)) =
      (s.answered lp cls (.accepted (some .latched))).withContext p { c with slot := some ⟨kind, .latched, cause⟩ } := by
  have own : (Work.start (s.withContext p c).blocks).context p = c := withContext_context s p c
  have takes : takeRequest s.view p kind cause (Work.start (s.withContext p c).blocks) =
      (placeLatched p kind cause (Work.start (s.withContext p c).blocks), .accepted .latched) := by
    unfold takeRequest
    rw [own, at']
    exact if_neg other
  rw [takes, served_of_clean (clean_setContext (clean_start _) p _) rfl rfl, answered_withContext,
    ← withContext_withContext s p c { c with slot := some ⟨kind, .latched, cause⟩ }]
  simp only [placeLatched, own]
  rfl

/-- Settles O18: what REVERT pops and what MODE sets apart, all three go on as one request, which is latched. -/
theorem requestBehindTransitionLatched : Obligations.RequestBehindTransitionLatched := by
  intro s lp b kind tr normal on at' other
  have admitted := admission_of_enabled normal on
  have latched := (not_wait_or_forced_iff tr).2 other
  have same : s.withContext lp (s.context lp) = s := by simp [State.withContext]
  have served_here (cls : Byte) (kind : RequestKind) (cause : Cause) :
      served s lp cls (takeRequest s.view lp kind cause (Work.start s.blocks)) =
        (s.answered lp cls (.accepted (some .latched))).withContext lp
          { s.context lp with slot := some ⟨kind, .latched, cause⟩ } := by
    have h := served_latched (s := s) (p := lp) (lp := lp) (cls := cls) kind cause at' latched
    rwa [same] at h
  refine ⟨fun asks taken => ?_, fun taken => ?_, fun a rest top taken => ?_⟩
  · rw [exec_route taken (routeKind_eq asks), request_of_admitted admitted, served_here]
  · rw [exec_release taken, request_of_admitted admitted, served_here]
  · rw [exec_revert taken, revertRequest_popped admitted top]
    exact congrArg _ (served_latched (c := { s.context lp with history := rest }) _ _ at' latched)

end Sys2Proof.Proofs.Serving

/-!
SUPPORT. A request selected at once (R48, R67) and what it leaves of its own position: `chosen` is the work it comes to, `KeptAt` says
that what follows in the event leaves the position as that work has it, and `actedOn_of_chosen` gives the words of Safety.lean.
-/
namespace Sys2Proof.Proofs.Choosing
open Sys2Proof Sys2Proof.Machine Sys2Proof.Proofs.Delivery Sys2Proof.Proofs.Selecting Sys2Proof.Proofs.Acting
open Sys2Proof.Proofs.Closing Sys2Proof.Proofs.Following Sys2Proof.Proofs.Eventing

/-! ### What a request of a given outcome does -/

/-- What a request of this outcome does for a position with no transition (R48, R60). -/
def chosen (v : View) (p : Pos) (kind : RequestKind) (cause : Cause) (sel : Selection) (d : Work) : Work :=
  match sel with
  | .refused _ => d
  | .current =>
    if kind = .release ∧ (d.context p).state = .faulted then d.setContext p { d.context p with state := .idle } else d
  | .target a => startTransition v p kind cause a (d.context p).state d
  | .held => placeHeld p kind cause d

theorem actOnSelection_eq (v : View) (p : Pos) (kind : RequestKind) (cause : Cause) (d : Work) :
    actOnSelection v p kind cause d =
      (chosen v p kind cause (selection v d.toBlocks p kind) d, (selection v d.toBlocks p kind).answer) := by
  unfold actOnSelection
  cases selection v d.toBlocks p kind with
  | refused r => rfl
  | target a => rfl
  | held => rfl
  | current =>
    by_cases release : kind = .release ∧ (d.context p).state = .faulted
    · simp only [chosen, release, and_self, if_true, Selection.answer]
    · simp only [chosen, release, if_false, Selection.answer]

section
variable (v : View) (p : Pos) (kind : RequestKind) (cause : Cause) (sel : Selection) (d : Work)

/-- A current outcome moves the route state alone. -/
theorem chosen_current : ∃ state, chosen v p kind cause .current d = d.setContext p { d.context p with state := state } := by
  by_cases release : kind = .release ∧ (d.context p).state = .faulted
  · exact ⟨.idle, by simp only [chosen, if_pos release]⟩
  · refine ⟨(d.context p).state, ?_⟩
    rw [chosen, if_neg release]
    exact (congrArg (fun c => { d with routes := { d.routes with contexts := c } }) (put_get_self d.routes.contexts p)).symm

theorem touches_chosen : Touches p d (chosen v p kind cause sel d) := by
  cases sel with
  | refused r => exact Touches.refl p d
  | current =>
    obtain ⟨state, e⟩ := chosen_current v p kind cause d
    exact e ▸ touches_setContext p _ d
  | target a => exact touches_startTransition ..
  | held => exact touches_placeHeld ..

theorem chosen_permit : (PermitKept p d (chosen v p kind cause sel d) ∧
      (chosen v p kind cause sel d).waitingWalk = d.waitingWalk) ∨
    PermitTaken v p .switching d (chosen v p kind cause sel d) := by
  cases sel with
  | refused r => exact .inl ⟨PermitKept.refl p d, rfl⟩
  | current =>
    obtain ⟨state, e⟩ := chosen_current v p kind cause d
    exact .inl (e ▸ ⟨permitKept_of_eq rfl rfl id rfl, rfl⟩)
  | held => exact .inl ⟨permitKept_of_eq rfl rfl id rfl, rfl⟩
  | target a =>
    cases on : isOn d.toBlocks p with
    | true => exact .inr (startTransition_taken on)
    | false => exact .inl (startTransition_kept on)

theorem chosen_owed : (chosen v p kind cause sel d).heldWalk = d.heldWalk ∧
    (chosen v p kind cause sel d).abandonFaults = d.abandonFaults := by
  cases sel with
  | refused r => exact ⟨rfl, rfl⟩
  | current =>
    obtain ⟨state, e⟩ := chosen_current v p kind cause d
    exact e ▸ ⟨rfl, rfl⟩
  | held => exact ⟨rfl, rfl⟩
  | target a =>
    have frame := startTransition_frame v p kind cause a (d.context p).state d
    exact ⟨frame.2.2.2.2.2.2.2.1, frame.2.2.2.2.2.2.2.2.2.1⟩

theorem chosen_occupants (a : Ant) : ((chosen v p kind cause sel d).routes.antennas.get a).occupants =
    reservedAtEnd p (reserves sel) a (d.routes.antennas.get a).occupants := by
  cases sel with
  | refused r => rfl
  | current =>
    obtain ⟨state, e⟩ := chosen_current v p kind cause d
    exact e ▸ rfl
  | held => rfl
  | target n => exact startTransition_occupants ..

theorem chosen_held : (chosen v p kind cause sel d).routes.held =
    if sel = .held then d.routes.held ++ [p] else d.routes.held := by
  cases sel with
  | refused r => rfl
  | current =>
    obtain ⟨state, e⟩ := chosen_current v p kind cause d
    exact e ▸ rfl
  | held => rfl
  | target a => exact (startTransition_frame ..).2.2.1

/-- The request settles the mode and the history of no position. -/
theorem chosen_settings : ((chosen v p kind cause sel d).routes.contexts.get p).mode = (d.routes.contexts.get p).mode ∧
    ((chosen v p kind cause sel d).routes.contexts.get p).history = (d.routes.contexts.get p).history := by
  cases sel with
  | refused r => exact ⟨rfl, rfl⟩
  | current =>
    obtain ⟨state, e⟩ := chosen_current v p kind cause d
    rw [e, Work.setContext]
    simp [Work.context]
  | held => simp [chosen, placeHeld, Work.setContext, Work.setHeld, Work.context]
  | target a =>
    rw [chosen, startTransition_contexts, put_get_same]
    exact ⟨rfl, rfl⟩

end

/-! ### A position left as it is -/

/-- What is done from `w` to `w'` leaves position `p` as it is. -/
structure KeptAt (p : Pos) (w w' : Work) : Prop where
  context : w'.routes.contexts.get p = w.routes.contexts.get p
  claims : w'.image.claims.get p = w.image.claims.get p
  holds : ∀ a, (w'.routes.antennas.get a).holds.get p = (w.routes.antennas.get a).holds.get p
  places : ∀ a, (⟨p, .reserving⟩ : Occupant) ∈ (w'.routes.antennas.get a).occupants ↔
    (⟨p, .reserving⟩ : Occupant) ∈ (w.routes.antennas.get a).occupants
  held : p ∈ w'.routes.held ↔ p ∈ w.routes.held
  key : w'.gate.keys.get p = w.gate.keys.get p
  examine : (w.routes.contexts.get p).transition ≠ none → p ∈ w.examine → p ∈ w'.examine

theorem KeptAt.refl (p : Pos) (w : Work) : KeptAt p w w := ⟨rfl, rfl, fun _ => rfl, fun _ => Iff.rfl, Iff.rfl, rfl, fun _ => id⟩

theorem KeptAt.trans {p : Pos} {w w' w'' : Work} (h : KeptAt p w w') (k : KeptAt p w' w'') : KeptAt p w w'' where
  context := k.context.trans h.context
  claims := k.claims.trans h.claims
  holds a := (k.holds a).trans (h.holds a)
  places a := (k.places a).trans (h.places a)
  held := k.held.trans h.held
  key := k.key.trans h.key
  examine moving owed := k.examine (by rwa [h.context]) (h.examine moving owed)

theorem keptAt_of_outside {own : Pos → Bool} {p : Pos} {w w' : Work} (h : Outside own w w') (n : own p = false) :
    KeptAt p w w' where
  context := h.contexts p n
  claims := h.claims p n
  holds a := h.holds a p n
  places := h.mem_occupants (o := ⟨p, .reserving⟩) n
  held := h.mem_held n
  key := h.keys p n
  examine _ := (h.examine p n).2

/-- A held walk leaves a position as it is that has no held request. -/
theorem keptAt_walk_of_notMem (v : View) {p : Pos} {w : Work} (out : p ∉ w.routes.held) : KeptAt p w (heldWalkIfOwed v w) :=
  keptAt_of_outside (own := fun q => decide (q ∈ w.routes.held)) (heldWalkIfOwed_outside v fun _ _ hq => decide_eq_true hq)
    (decide_eq_false out)

/-- A held walk leaves a position as it is whose held request selection holds back. -/
theorem keptAt_walk_of_held {v : View} {p : Pos} {w : Work} {r : PendingRequest} (nodup : w.routes.held.Nodup)
    (all : AllReady v w w.routes.held) (ready : HeldReady v w p r) (held : p ∈ w.routes.held)
    (sel : selection v w.toBlocks p r.kind = .held) : KeptAt p w (heldWalkIfOwed v w) := by
  refine heldWalkIfOwed_induction (KeptAt p w) v w (KeptAt.refl p w)
    (fun k => ⟨k.context, k.claims, k.holds, k.places, k.held, k.key, k.examine⟩) fun _ => ?_
  have stays := heldEntries_stay nodup all ready held sel
  cases heldEntries_result nodup all held ready.slot with
  | stays _ context claims holds places permit _ =>
    exact ⟨context, claims, holds, places, iff_of_true stays held, permit.key, fun moving => absurd ready.transition moving⟩
  | starts _ left => exact absurd stays left
  | leaves left => exact absurd stays left

section
variable {s t : State} {p : Pos} {w w' : Work}

theorem ownKept_of_keptAt (c : Closed s t w') (k : KeptAt p w w') : OwnKept t p w where
  claims := (c.claims p).trans k.claims
  holds a := by rw [c.antenna, k.holds]
  reserved a := by rw [c.antenna, mem_reservations, k.places]
  held := by rw [c.held, k.held]
  still none := (c.context_of_none (by rw [k.context]; exact none)).trans k.context

/-- A transition of the position that the event started or replaced is examined at its end (R71). -/
theorem examined_of_keptAt (c : Closed s t w') (k : KeptAt p w w') {tr : Transition}
    (h : (w.routes.contexts.get p).transition = some tr) (wait : tr.phase = .wait) (fresh : tr.due = false)
    (owed : p ∈ w.examine) :
    (∃ due, t.context p = { w.routes.contexts.get p with transition := some { tr with due := due } }) ∧
      startExamined s t p := by
  have examined := c.context_of_examined (q := p) (by rw [k.context]; exact h) wait fresh
    (k.examine (by rw [h]; exact nofun) owed)
  rwa [k.context] at examined

/-- A position that ends the event with no transition has none to examine. -/
theorem startExamined_of_none (h : (t.context p).transition = none) : startExamined s t p := fun tr htr => by simp [h] at htr

/-- The context of a transition that has just started (R67). -/
theorem started_context (v : View) {kind : RequestKind} {cause : Cause} (unforced : cause.forced = false) (a : Option Ant)
    {d : Work} {c : Context} (context : d.routes.contexts.get p = c) :
    (chosen v p kind cause (.target a) d).routes.contexts.get p =
      { c with state := .switching, transition := some (waitRecord v.bank c.antenna a kind cause c.state false) } := by
  have notFault : cause ≠ .fault := by
    rintro rfl
    cases unforced
  have same : d.context p = c := context
  rw [chosen, startTransition_contexts, put_get_same, context, same, unforced, Bool.or_false, if_neg notFault]
  rfl

/-- What a request that is selected at once leaves of its position (R48, R67). -/
theorem actedOn_of_chosen {d : Work} {c : Context} {kind : RequestKind} {cause : Cause} {sel : Selection}
    (closed : Closed s t w') (kept : KeptAt p (chosen s.view p kind cause sel d) w')
    (context : d.routes.contexts.get p = c) (loose : c.transition = none) (out : p ∉ d.routes.held)
    (unforced : cause.forced = false) : actedOn sel s.bank t p c kind cause ∧ startExamined s t p := by
  have own := ownKept_of_keptAt closed kept
  have list : p ∈ t.held ↔ sel = .held := by
    rw [own.held, chosen_held]
    by_cases h : sel = .held <;> simp [h, out]
  have ctx : d.context p = c := context
  cases sel with
  | refused r =>
    have final : t.context p = c := (own.still (by rw [chosen, context]; exact loose)).trans context
    exact ⟨⟨fun _ _ => final, nofun, nofun, nofun, list⟩, startExamined_of_none (by rw [final]; exact loose)⟩
  | current =>
    have left : (chosen s.view p kind cause .current d).routes.contexts.get p =
        { c with state := if kind = .release ∧ c.state = .faulted then .idle else c.state } := by
      simp only [chosen, ctx]
      split
      · exact put_get_same _ _ _
      · exact context
    have final := (own.still (by rw [left]; exact loose)).trans left
    exact ⟨⟨nofun, fun _ => final, nofun, nofun, list⟩, startExamined_of_none (by rw [final]; exact loose)⟩
  | held =>
    have placed : (chosen s.view p kind cause .held d).routes.contexts.get p = { c with slot := some ⟨kind, .held, cause⟩ } := by
      rw [← ctx]
      exact put_get_same _ _ _
    have final := (own.still (by rw [placed]; exact loose)).trans placed
    exact ⟨⟨nofun, nofun, nofun, fun _ => final, list⟩, startExamined_of_none (by rw [final]; exact loose)⟩
  | target a =>
    have started := started_context (p := p) s.view (kind := kind) unforced a context
    obtain ⟨⟨due, final⟩, examined⟩ := examined_of_keptAt closed kept (by rw [started]) rfl rfl
      (by rw [chosen, startTransition_examine]; exact List.mem_cons_self)
    rw [started] at final
    refine ⟨⟨nofun, nofun, fun n hn => ?_, nofun, list⟩, examined⟩
    obtain rfl : a = n := Selection.target.inj hn
    refine ⟨⟨_, congrArg Context.transition final, rfl, final⟩, ?_, fun o ho => ?_⟩
    · rintro n rfl
      refine ⟨(own.reserved n).2 ?_, ?_, ?_⟩
      · rw [chosen_occupants, reservedAtEnd, reserves, if_pos rfl]
        exact List.mem_append_right _ List.mem_cons_self
      · rw [own.holds, chosen, startTransition_holds]
        simp
      · rw [own.claims, chosen, startTransition_reserved]
        rfl
    · rw [own.holds, chosen, startTransition_holds, ctx, Option.mem_def.1 ho]
      simp

end

end Sys2Proof.Proofs.Choosing

/-!
SUPPORT. An event that acts on one position, makes its held walk and closes (`OneEvent`), and the request of a frame as one:
selected at once by a position with no transition (R48, R67), in the words of Safety.lean.
-/
namespace Sys2Proof.Proofs.Requesting
open Sys2Proof Sys2Proof.Machine Sys2Proof.Proofs.Delivery Sys2Proof.Proofs.Selecting Sys2Proof.Proofs.Acting
open Sys2Proof.Proofs.Closing Sys2Proof.Proofs.Following Sys2Proof.Proofs.Reports Sys2Proof.Proofs.Eventing
open Sys2Proof.Proofs.Serving Sys2Proof.Proofs.Choosing

/-! ### The places behind an event -/

/-- The places of an event: those its first operations leave, and behind them the reservations of its held walk and then those of its
own positions (R39). -/
theorem placesKeptBy_of_event {s t : State} {own : Pos → Bool} {w w' : Work} {after : List Raised}
    (e : ActEvent s t own w w' after) {base : Ant → List Occupant} (h : ∀ a, (w.routes.antennas.get a).occupants = base a)
    (behind : ∀ a, ∃ new : List Occupant, (w'.routes.antennas.get a).occupants =
        ((heldWalkIfOwed s.view w).routes.antennas.get a).occupants ++ new ∧ (∀ o ∈ new, o.role = .reserving) ∧
      (w.routes.held ++ new.map Occupant.pos).Sublist ((s.held.filter fun q => !own q) ++ positions.filter own)) :
    placesKeptBy s t own base := by
  intro a
  obtain ⟨walk, first, roles, sub⟩ := heldWalkIfOwed_places s.view w a
  obtain ⟨new, second, roles', sub'⟩ := behind a
  rw [e.closed.antenna, second, first, h a, List.append_assoc, List.drop_left]
  refine ⟨List.prefix_append _ _, fun o ho => (List.mem_append.1 ho).elim (roles o) (roles' o), ?_⟩
  rw [List.map_append]
  exact (sub.append (List.Sublist.refl _)).trans sub'

/-- No event of the close raises a notice for every link. -/
theorem noAlls_close {v : View} {b : Blocks} {w : Work} (g : GateStage v b (heldWalkIfOwed v w)) : NoAlls (close v w).raised := by
  have raised : (examineOwed v (heldWalkIfOwed v w)).raised = (heldWalkIfOwed v w).raised :=
    (examineOwed_frame v _).2.2.2.2.2.2.1
  cases owed : (examineOwed v (heldWalkIfOwed v w)).waitingWalk with
  | false =>
    rw [close, waitingWalkIfOwed, owed, if_neg (by simp), raised]
    exact g.noAlls
  | true =>
    obtain ⟨m, hm, am⟩ := walkEntries_raised v (examineOwed v (heldWalkIfOwed v w)).gate.waiting
      (examineOwed v (heldWalkIfOwed v w))
    rw [close, waitingWalkIfOwed, owed, if_pos rfl, waitingWalk]
    change NoAlls (_ : Work).raised
    rw [hm, raised]
    exact noAlls_of_keys g.noAlls am

/-! ### The event of one position -/

/-- The event from `s` to `t` acted on position `p` alone, came to the work `w`, made the held walk it owed and closed, and raised
the ROUTE NOTICEs `after` of `p` behind that. -/
structure OneEvent (s t : State) (p : Pos) (w : Work) (after : List Raised) : Prop where
  view : t.view = s.view
  touches : Touches p (Work.start s.blocks) w
  permit : PermitKept p (Work.start s.blocks) w ∨ ∃ r, PermitTaken s.view p r (Work.start s.blocks) w
  blocks : t.blocks = (close s.view w).toBlocks
  behind : ∀ n ∈ after, isRouteOf p n
  reports : Reports s t ((close s.view w).raised ++ after)

/-- The position that the event acts on. -/
abbrev only (p : Pos) (q : Pos) : Bool := decide (q = p)

section
variable {s t : State} {p : Pos} {w : Work} {after : List Raised}

theorem gateStage_of_one (touches : Touches p (Work.start s.blocks) w)
    (permit : PermitKept p (Work.start s.blocks) w ∨ ∃ r, PermitTaken s.view p r (Work.start s.blocks) w) :
    GateStage s.view s.blocks w := ((clean_start s.blocks).gateStage s.view).step touches permit

theorem OneEvent.gate (e : OneEvent s t p w after) : GateStage s.view s.blocks w := gateStage_of_one e.touches e.permit

theorem OneEvent.act (e : OneEvent s t p w after) : ActEvent s t (only p) w (heldWalkIfOwed s.view w) after where
  view := e.view
  before := outside_of_touches e.touches (decide_eq_true rfl)
  behind := Outside.refl _ _
  gate := heldWalkIfOwed_gate e.gate
  blocks := e.blocks
  noKeys n hn q key := by
    have route := e.behind n hn
    cases n with
    | route => exact key
    | key => exact route
    | all => exact key
  amid n hn q notOwn := by
    have other : q ≠ p := of_decide_eq_false notOwn
    exact ⟨not_isKeyOf_of_about other (.inr (e.behind n hn)), not_isRouteOf_of_about other (.inr (e.behind n hn))⟩
  reports := e.reports

theorem OneEvent.coilsKept (e : OneEvent s t p w after) : coilsKept s t := by
  have c := e.act.closed
  have frame := heldWalkIfOwed_frame s.view w
  refine ⟨c.classifier.trans (frame.1.trans e.touches.classifier), c.monitor.trans (frame.2.1.trans e.touches.monitor), ?_, ?_⟩
  · rw [c.image, frame.2.2.2.2.1]
    exact e.touches.coils
  · rw [State.source, c.image, frame.2.2.2.1]
    exact e.touches.source

theorem OneEvent.othersKept (e : OneEvent s t p w after) {walk : Prop} (h : w.heldWalk = true → walk) :
    othersKept s t (ownOrWalked s p walk) :=
  e.act.othersKept fun _ o => o.imp of_decide_eq_true fun ⟨owed, held⟩ => ⟨h owed, held⟩

theorem OneEvent.walkedIfWithdrawn (e : OneEvent s t p w after)
    (same : PermitKept p (Work.start s.blocks) w → w.waitingWalk = false) : walkedIfWithdrawn s t :=
  e.act.walkedIfWithdrawn (heldWalkIfOwed_walkOwed e.gate
    (((clean_start s.blocks).walkOwed s.blocks False).step ((clean_start s.blocks).gateStage s.view) e.touches
      (e.permit.imp_left fun kept => ⟨kept, same kept⟩)))

theorem OneEvent.walked (e : OneEvent s t p w after) (owed : w.waitingWalk = true) : gateConsistent s → walked s t :=
  e.act.walked (heldWalkIfOwed_waitingWalk s.view w owed)

/-- The held requests of the event: those of the other positions, and that of `p` last. -/
theorem OneEvent.placesKept (e : OneEvent s t p w after) {base : Ant → List Occupant}
    (h : ∀ a, (w.routes.antennas.get a).occupants = base a)
    (list : w.routes.held.Sublist ((s.held.filter fun q => decide (q ≠ p)) ++ [p])) : placesKept s t p base := by
  refine placesKeptBy_of_event e.act h fun a => ⟨[], (List.append_nil _).symm, by simp, ?_⟩
  simp only [decide_not] at list
  rw [positions_own, List.map_nil, List.append_nil]
  exact list

/-- The mode and the history of a position stand through the walks of an event. -/
theorem OneEvent.settings (e : OneEvent s t p w after) (q : Pos) : (t.context q).mode = (w.routes.contexts.get q).mode ∧
    (t.context q).history = (w.routes.contexts.get q).history := by
  obtain ⟨mode, history⟩ := heldWalkIfOwed_settings s.view w q
  rw [e.act.closed.context, ← mode, ← history]
  unfold examinedContext
  split
  · exact ⟨rfl, rfl⟩
  · split <;> exact ⟨rfl, rfl⟩

theorem OneEvent.effective (e : OneEvent s t p w after) : (w.image.claims.get p).effective = (s.claims p).effective :=
  e.touches.effective

/-! ### Its held walk -/

/-- What makes the held walk of the event predictable. -/
structure OneWalk (s : State) (p : Pos) (w : Work) : Prop where
  consistent : heldConsistent s
  reserved : reservedInTransition s
  list : w.routes.held.Sublist ((s.held.filter fun q => decide (q ≠ p)) ++ [p])
  own : p ∈ w.routes.held → ∃ r, HeldReady s.view w p r

theorem OneWalk.walks (k : OneWalk s p w) : Walks s (only p) w (heldWalkIfOwed s.view w) where
  consistent := k.consistent
  reserved := k.reserved
  nodup := by
    refine k.list.nodup ((k.consistent.1.filter _).append (List.nodup_singleton p) ?_)
    simp
  ready q hq own := by
    obtain rfl : q = p := of_decide_eq_true own
    exact k.own hq
  spares q _ := Spares.refl q _

theorem OneEvent.heldWalked (e : OneEvent s t p w after) (k : OneWalk s p w) (owed : w.heldWalk = true) : heldWalked s t p :=
  e.act.heldWalkedBy k.walks owed

/-- The held request that the event itself has placed stays through its walk. -/
theorem OneEvent.keptAt_of_held (e : OneEvent s t p w after) (k : OneWalk s p w) {r : PendingRequest}
    (ready : HeldReady s.view w p r) (held : p ∈ w.routes.held) (sel : selection s.view w.toBlocks p r.kind = .held) :
    KeptAt p w (heldWalkIfOwed s.view w) :=
  keptAt_walk_of_held k.walks.nodup (e.act.allReady k.walks) ready held sel

end

/-! ### The request of a frame -/

/-- The request of link `p`, which changed its position alone, is an event of one position. -/
theorem oneEvent_served {s : State} {p : Pos} {cls : Byte} {w : Work} {answer : Answer}
    (touches : Touches p (Work.start s.blocks) w)
    (permit : PermitKept p (Work.start s.blocks) w ∨ ∃ r, PermitTaken s.view p r (Work.start s.blocks) w)
    (faults : ∀ q ∈ w.abandonFaults, q = p) : OneEvent s (served s p cls (w, answer)) p w
      (w.abandonFaults.map fun q => .route q .fault none) where
  view := served_view ..
  touches := touches
  permit := permit
  blocks := served_blocks ..
  behind n hn := by
    obtain ⟨q, hq, rfl⟩ := List.mem_map.1 hn
    exact faults q hq
  reports := by
    rw [← closeRequest_raised s.view (w, answer)]
    refine reports_served (fun _ => rfl) fun n hn => ?_
    rw [closeRequest_raised] at hn
    rcases List.mem_append.1 hn with hn | hn
    · exact noAlls_close (heldWalkIfOwed_gate (gateStage_of_one touches permit)) n hn
    · obtain ⟨q, -, h⟩ := List.mem_map.1 hn
      cases h

/-- The request finds the context of `p` as `s` has it, but for its mode and its history, which the frame may have set first. -/
structure Finds (s : State) (p : Pos) (c : Context) : Prop where
  state : c.state = (s.context p).state
  antenna : c.antenna = (s.context p).antenna
  transition : c.transition = (s.context p).transition
  slot : c.slot = (s.context p).slot

theorem Finds.refl (s : State) (p : Pos) : Finds s p (s.context p) := ⟨rfl, rfl, rfl, rfl⟩

/-- The work that a request begins with. -/
abbrev found (s : State) (p : Pos) (c : Context) : Work := Work.start (s.withContext p c).blocks

section
variable {s : State} {p : Pos} {c : Context}

theorem touches_found (s : State) (p : Pos) (c : Context) : Touches p (Work.start s.blocks) (found s p c) :=
  touches_setContext p c (Work.start s.blocks)

theorem found_context (s : State) (p : Pos) (c : Context) : (found s p c).routes.contexts.get p = c := put_get_same _ _ _

theorem found_kept (s : State) (p : Pos) (c : Context) : PermitKept p (Work.start s.blocks) (found s p c) :=
  permitKept_of_eq rfl rfl id rfl

theorem found_selection (f : Finds s p c) (kind : RequestKind) :
    selection s.view (found s p c).toBlocks p kind = selection s.view s.blocks p kind :=
  (touches_found s p c).selection s.view kind (by rw [Work.context_eq, found_context, f.antenna]; rfl)

theorem found_self (s : State) (p : Pos) : found s p (s.context p) = Work.start s.blocks := by
  simp [found, State.withContext, State.context]

end

/-! ### Selected at once -/

/-- The request of position `p` finds it with no transition, and its slot and the held list agree. -/
structure AtOnce (s : State) (p : Pos) (c : Context) : Prop where
  finds : Finds s p c
  transition : c.transition = none
  consistent : heldConsistent s

/-- The work in which the request is selected: its HELD request is dropped (R48). -/
abbrev asked (s : State) (p : Pos) (c : Context) : Work := dropHeld p (found s p c)

section
variable {s : State} {p : Pos} {c : Context} {kind : RequestKind} {cause : Cause} {sel : Selection}

theorem AtOnce.dropped (a : AtOnce s p c) : (asked s p c).routes.contexts.get p = { c with slot := none } ∧
    (asked s p c).routes.held = s.held.filter (fun q => decide (q ≠ p)) ∧
    ((asked s p c).heldWalk = true ↔ (s.context p).slot ≠ none) := by
  obtain ⟨member, statuses, -⟩ := a.consistent.2 p
  have context := found_context s p c
  have held : (found s p c).routes.held = s.held := rfl
  have slotEq := a.finds.slot
  cases slot : (s.context p).slot with
  | none =>
    have empty : c.slot = none := slotEq.trans slot
    have out : p ∉ s.held := fun h => by
      obtain ⟨r, hr, -⟩ := member.1 h
      simp [slot] at hr
    rw [asked, dropHeld_of_none (by rw [context, empty]), context, held, ← empty]
    exact ⟨rfl, (List.filter_eq_self.2 fun q hq => decide_eq_true (p := q ≠ p) fun e => out (e ▸ hq)).symm,
      ⟨nofun, fun h => absurd rfl h⟩⟩
  | some r =>
    have status : r.status = .held := by
      cases h : r.status with
      | held => rfl
      | latched => exact absurd (a.finds.transition ▸ a.transition) ((statuses r slot).2 h)
    rw [asked, dropHeld_of_held (by rw [context, slotEq, slot]) status]
    refine ⟨(put_get_same _ _ _).trans (by rw [Work.context_eq, context]), ?_, by simp⟩
    simp [State.withContext]

theorem AtOnce.out (a : AtOnce s p c) : p ∉ (asked s p c).routes.held := by
  rw [a.dropped.2.1]
  simp

theorem touches_asked (s : State) (p : Pos) (c : Context) : Touches p (Work.start s.blocks) (asked s p c) :=
  (touches_found s p c).trans (touches_dropHeld p _)

theorem AtOnce.asked_selection (a : AtOnce s p c) (kind : RequestKind) :
    selection s.view (asked s p c).toBlocks p kind = selection s.view s.blocks p kind := by
  refine (touches_asked s p c).selection s.view kind ?_
  rw [Work.context_eq, a.dropped.1]
  exact a.finds.antenna

/-- What the request comes to (R48). -/
theorem AtOnce.takes (a : AtOnce s p c) (outcome : sel = selection s.view s.blocks p kind) :
    takeRequest s.view p kind cause (found s p c) = (chosen s.view p kind cause sel (asked s p c), sel.answer) := by
  have loose : ((found s p c).context p).transition = none := by rw [Work.context_eq, found_context, a.transition]
  rw [takeRequest, loose]
  dsimp only
  rw [actOnSelection_eq, a.asked_selection, ← outcome]

theorem touches_atOnce' (s : State) (p : Pos) (c : Context) (kind : RequestKind) (cause : Cause) (sel : Selection) :
    Touches p (Work.start s.blocks) (chosen s.view p kind cause sel (asked s p c)) :=
  (touches_asked s p c).trans (touches_chosen ..)

theorem permit_atOnce (s : State) (p : Pos) (c : Context) (kind : RequestKind) (cause : Cause) (sel : Selection) :
    (PermitKept p (Work.start s.blocks) (chosen s.view p kind cause sel (asked s p c)) ∧
        (chosen s.view p kind cause sel (asked s p c)).waitingWalk = false) ∨
      PermitTaken s.view p .switching (Work.start s.blocks) (chosen s.view p kind cause sel (asked s p c)) := by
  obtain ⟨kept, walk⟩ := dropHeld_kept p (found s p c)
  have kept := (found_kept s p c).trans kept
  exact (chosen_permit s.view p kind cause sel (asked s p c)).imp (fun h => ⟨kept.trans h.1, h.2.trans (walk.trans rfl)⟩)
    kept.trans_taken

theorem noFault_atOnce (s : State) (p : Pos) (c : Context) (kind : RequestKind) (cause : Cause) (sel : Selection) :
    (chosen s.view p kind cause sel (asked s p c)).abandonFaults = [] := by
  rw [(chosen_owed ..).2, (dropHeld_frame p _).2.2.2.2.2.2.2.2.2.2.1]
  rfl

/-- The request and what it leaves: an event of its position. -/
theorem event_atOnce (s : State) (p : Pos) (cls : Byte) (c : Context) (kind : RequestKind) (cause : Cause) (sel : Selection)
    (answer : Answer) : OneEvent s (served s p cls (chosen s.view p kind cause sel (asked s p c), answer)) p
      (chosen s.view p kind cause sel (asked s p c)) [] := by
  have e := oneEvent_served (cls := cls) (answer := answer) (touches_atOnce' s p c kind cause sel)
    ((permit_atOnce s p c kind cause sel).imp And.left fun taken => ⟨_, taken⟩) (by simp [noFault_atOnce])
  rwa [noFault_atOnce] at e

theorem AtOnce.list (a : AtOnce s p c) :
    (chosen s.view p kind cause sel (asked s p c)).routes.held.Sublist ((s.held.filter fun q => decide (q ≠ p)) ++ [p]) := by
  rw [chosen_held, a.dropped.2.1]
  split
  · exact List.Sublist.refl _
  · exact List.sublist_append_left _ _

theorem AtOnce.out_of_notHeld (a : AtOnce s p c) (notHeld : sel ≠ .held) :
    p ∉ (chosen s.view p kind cause sel (asked s p c)).routes.held := by
  rw [chosen_held, if_neg notHeld]
  exact a.out

/-- A HELD request that the event has placed is ready for the held walk, which will leave it. -/
theorem AtOnce.ready (a : AtOnce s p c) (outcome : .held = selection s.view s.blocks p kind) :
    HeldReady s.view (chosen s.view p kind cause .held (asked s p c)) p ⟨kind, .held, cause⟩ ∧
      selection s.view (chosen s.view p kind cause .held (asked s p c)).toBlocks p kind = .held := by
  have context := a.dropped.1
  have placed : (chosen s.view p kind cause .held (asked s p c)).routes.contexts.get p =
      { (asked s p c).routes.contexts.get p with slot := some ⟨kind, .held, cause⟩ } := put_get_same _ _ _
  have sel : selection s.view (chosen s.view p kind cause .held (asked s p c)).toBlocks p kind = .held := by
    rw [(touches_atOnce' s p c kind cause .held).selection s.view kind ?_, outcome]
    · rfl
    · rw [Work.context_eq, placed, context]
      exact a.finds.antenna
  exact ⟨⟨by rw [placed], rfl, by rw [placed, context]; exact a.transition, .inl sel⟩, sel⟩

theorem AtOnce.walk (a : AtOnce s p c) (reserved : reservedInTransition s) (outcome : sel = selection s.view s.blocks p kind) :
    OneWalk s p (chosen s.view p kind cause sel (asked s p c)) where
  consistent := a.consistent
  reserved := reserved
  list := a.list
  own held := by
    by_cases h : sel = .held
    · subst h
      exact ⟨_, (a.ready outcome).1⟩
    · exact absurd held (a.out_of_notHeld h)

end

section
variable {s t : State} {p : Pos} {c : Context} {kind : RequestKind} {cause : Cause} {sel : Selection} {cls : Byte}

/-- What a request that is selected at once leaves, whatever the reservations (R48, R54, R67 to R69). -/
structure ActedAtOnce (s t : State) (p : Pos) (cls : Byte) (c : Context) (sel : Selection) : Prop where
  others : blocksOnly (s.answered p cls sel.answer.result) t
  coils : coilsKept s t
  places : reservedLast s t p sel
  kept : othersKept s t (ownOrWalked s p ((s.context p).slot ≠ none))
  walk : walkedIfWithdrawn s t
  mode : (t.context p).mode = c.mode
  history : (t.context p).history = c.history

theorem AtOnce.acted (a : AtOnce s p c) : ActedAtOnce s (served s p cls (chosen s.view p kind cause sel (asked s p c), sel.answer))
    p cls c sel := by
  have e := event_atOnce s p cls c kind cause sel sel.answer
  have settings := e.settings p
  obtain ⟨mode, history⟩ := chosen_settings s.view p kind cause sel (asked s p c)
  rw [mode, history, a.dropped.1] at settings
  have places : placesKept s (served s p cls (chosen s.view p kind cause sel (asked s p c), sel.answer)) p
      fun n => reservedAtEnd p (reserves sel) n (s.antenna n).occupants := by
    refine e.placesKept (fun n => ?_) a.list
    rw [chosen_occupants, (dropHeld_frame p _).2.2.1]
    rfl
  have told : (chosen s.view p kind cause sel (asked s p c)).commitTold = false := e.touches.commitTold
  refine ⟨blocksOnly_served told, e.coilsKept, ?_, e.othersKept fun owed => ?_, e.walkedIfWithdrawn fun kept => ?_, settings.1,
    settings.2⟩
  · cases sel <;> exact places
  · rw [(chosen_owed ..).1] at owed
    exact a.dropped.2.2.1 owed
  · rcases permit_atOnce s p c kind cause sel with h | taken
    · exact h.2
    · have off := taken.off
      rw [kept.isOn.trans taken.on] at off
      cases off

/-- A request that is not held back leaves its own position as `actedOn` says, whatever the reservations. -/
theorem AtOnce.actedOn_of_notHeld (a : AtOnce s p c) (unforced : cause.forced = false) (notHeld : sel ≠ .held) :
    actedOn sel s.bank (served s p cls (chosen s.view p kind cause sel (asked s p c), sel.answer)) p { c with slot := none } kind
      cause ∧ startExamined s (served s p cls (chosen s.view p kind cause sel (asked s p c), sel.answer)) p :=
  actedOn_of_chosen (event_atOnce ..).act.closed (keptAt_walk_of_notMem s.view (a.out_of_notHeld notHeld)) a.dropped.1
    a.transition a.out unforced

/-- What a request that is selected at once leaves of its own position (R48, R67). -/
theorem AtOnce.actedOn (a : AtOnce s p c) (unforced : cause.forced = false) (reserved : reservedInTransition s)
    (outcome : sel = selection s.view s.blocks p kind) :
    actedOn sel s.bank (served s p cls (chosen s.view p kind cause sel (asked s p c), sel.answer)) p { c with slot := none } kind
      cause ∧ startExamined s (served s p cls (chosen s.view p kind cause sel (asked s p c), sel.answer)) p := by
  by_cases h : sel = .held
  · subst h
    have e := event_atOnce s p cls c kind cause .held Selection.held.answer
    obtain ⟨ready, held⟩ := a.ready (cause := cause) outcome
    refine actedOn_of_chosen e.act.closed (e.keptAt_of_held (a.walk reserved outcome) ready ?_ held) a.dropped.1 a.transition
      a.out unforced
    rw [chosen_held, if_pos rfl]
    exact List.mem_append_right _ List.mem_cons_self
  · exact a.actedOn_of_notHeld unforced h

theorem AtOnce.heldWalked (a : AtOnce s p c) (reserved : reservedInTransition s)
    (outcome : sel = selection s.view s.blocks p kind) (slot : (s.context p).slot ≠ none) :
    heldWalked s (served s p cls (chosen s.view p kind cause sel (asked s p c), sel.answer)) p :=
  (event_atOnce s p cls c kind cause sel sel.answer).heldWalked (a.walk reserved outcome)
    ((chosen_owed ..).1.trans (a.dropped.2.2.2 slot))

/-- The key record of the position when its transition starts (R68): withdrawn when it is ON, and otherwise as it was. -/
theorem AtOnce.key_of_target (a : AtOnce s p c) {n : Option Ant} :
    ((s.key p).state = .on → withdrawnAs s.bank s
      (served s p cls (chosen s.view p kind cause (.target n) (asked s p c), Selection.answer (.target n))) p .switching none) ∧
    ((s.key p).state ≠ .on → p ∉ s.waiting →
      (served s p cls (chosen s.view p kind cause (.target n) (asked s p c), Selection.answer (.target n))).key p = s.key p) := by
  have e := event_atOnce s p cls c kind cause (.target n) (Selection.answer (.target n))
  have still := keptAt_walk_of_notMem s.view (a.out_of_notHeld (sel := .target n) (kind := kind) (cause := cause) nofun)
  have on_iff : isOn (Work.start s.blocks).toBlocks p = true ↔ (s.key p).state = .on := by
    rw [isOn, decide_eq_true_eq]
    rfl
  have drops := (found_kept s p c).trans (dropHeld_kept p (found s p c)).1
  refine ⟨fun on => e.act.withdrawnAs on ?_, fun off notWaiting => ?_⟩
  · have taken := drops.trans_taken (startTransition_taken (v := s.view) (kind := kind) (cause := cause) (target := n)
      (start := ((asked s p c).context p).state) (drops.isOn.trans (on_iff.2 on)))
    exact still.key.trans taken.key
  · have off : isOn (asked s p c).toBlocks p = false := drops.isOn.trans (Bool.eq_false_iff.2 fun on => off (on_iff.1 on))
    have kept := drops.trans (startTransition_kept (v := s.view) (kind := kind) (cause := cause) (target := n)
      (start := ((asked s p c).context p).state) off).1
    exact (e.act.closed.key_of_notMem notWaiting).trans (still.key.trans kept.key)

/-- With an empty slot no held walk is made, and the places are those of the request alone (R39). -/
theorem AtOnce.occupants_of_empty (a : AtOnce s p c) (empty : (s.context p).slot = none) (n : Ant) :
    ((served s p cls (chosen s.view p kind cause sel (asked s p c), sel.answer)).antenna n).occupants =
      reservedAtEnd p (reserves sel) n (s.antenna n).occupants := by
  have e := event_atOnce s p cls c kind cause sel sel.answer
  have no : (chosen s.view p kind cause sel (asked s p c)).heldWalk = false := by
    rw [(chosen_owed ..).1]
    exact Bool.eq_false_iff.2 fun owed => a.dropped.2.2.1 owed empty
  rw [e.act.closed.antenna, heldWalkIfOwed_of_not_owed _ no, chosen_occupants, (dropHeld_frame p _).2.2.1]
  rfl

/-- The claims of the position when its transition to an antenna starts (R67). -/
theorem AtOnce.claims_of_target (a : AtOnce s p c) {n : Ant} :
    (served s p cls (chosen s.view p kind cause (.target (some n)) (asked s p c), Selection.answer (.target (some n)))).claims p =
      { s.claims p with reserved := (path s.bank p n).claims } := by
  have e := event_atOnce s p cls c kind cause (.target (some n)) (Selection.answer (.target (some n)))
  have still := keptAt_walk_of_notMem s.view (a.out_of_notHeld (sel := .target (some n)) (kind := kind) (cause := cause) nofun)
  have reserved := startTransition_reserved s.view p kind cause (some n) ((asked s p c).context p).state (asked s p c)
  rw [e.act.closed.claims, still.claims]
  exact congrArg₂ ClaimLists.mk e.effective reserved

/-- A request of an empty slot that is not started and releases no fault changes its slot and the held list at most. -/
theorem AtOnce.served_of_clean (a : AtOnce s p c) (empty : (s.context p).slot = none) (notTarget : ∀ n, sel ≠ .target n) :
    served s p cls (chosen s.view p kind cause sel (asked s p c), sel.answer) = { s.answered p cls sel.answer.result with
      blocks := (chosen s.view p kind cause sel (found s p c)).toBlocks } := by
  have same : asked s p c = found s p c := dropHeld_of_none (by rw [found_context, a.finds.slot, empty])
  have clean : Clean (found s p c) := clean_start _
  rw [same]
  cases sel with
  | refused r => exact Serving.served_of_clean clean rfl rfl
  | target n => exact absurd rfl (notTarget n)
  | held => exact Serving.served_of_clean ⟨rfl, rfl, rfl, rfl, rfl, rfl, clean.noAlls⟩ rfl rfl
  | current =>
    obtain ⟨state, h⟩ := chosen_current s.view p kind cause (found s p c)
    rw [h]
    exact Serving.served_of_clean (clean_setContext clean p _) rfl rfl

end

end Sys2Proof.Proofs.Requesting

/-!
SUPPORT. The request of a frame in WAIT of a transition that is not forced (R49): it carries on, replaces its target (R75), or abandons
it (R74), into a fault of the route when a coil of it is latched (R59), in the words of Safety.lean.
-/
namespace Sys2Proof.Proofs.Abandoning
open Sys2Proof Sys2Proof.Machine Sys2Proof.Proofs.Delivery Sys2Proof.Proofs.Selecting Sys2Proof.Proofs.Acting
open Sys2Proof.Proofs.Closing Sys2Proof.Proofs.Following Sys2Proof.Proofs.Eventing Sys2Proof.Proofs.Serving
open Sys2Proof.Proofs.Choosing Sys2Proof.Proofs.Requesting

/-! ### An abandonment, into a fault or not (R59, R74) -/

section
variable {v : View} {p : Pos} {tr : Transition} {w : Work}

theorem abandon_of_sound (h : (w.routes.contexts.get p).transition = some tr) (sound : ¬ FaultsRoute w p tr) :
    abandon v p w = freed p tr w := (abandon_eq h).trans (if_neg sound)

theorem abandon_of_fault (h : (w.routes.contexts.get p).transition = some tr) (fault : FaultsRoute w p tr) :
    abandon v p w = freedIntoFault v p tr w := (abandon_eq h).trans (if_pos fault)

theorem freed_slot (empty : (w.routes.contexts.get p).slot = none) : ((freed p tr w).routes.contexts.get p).slot = none := by
  rw [freed_context]
  exact empty

/-- What an abandonment does, whether or not it goes on into a fault. -/
structure Abandoned (v : View) (p : Pos) (tr : Transition) (w w' : Work) : Prop where
  heldWalk : w'.heldWalk = true
  waitingWalk : w'.waitingWalk = true
  held : w'.routes.held = w.routes.held
  occupants : ∀ a, (w'.routes.antennas.get a).occupants = unreserved p tr.target a (w.routes.antennas.get a).occupants
  reserved : ∀ a, tr.target = some a → (w'.image.claims.get p).reserved = []
  permit : PermitKept p w w' ∨ ∃ r, PermitTaken v p r w w'
  off : isOn w.toBlocks p = false → PermitKept p w w'
  settings : (w'.routes.contexts.get p).antenna = (w.routes.contexts.get p).antenna

theorem abandoned_freed (p : Pos) (tr : Transition) (w : Work) : Abandoned v p tr w (freed p tr w) where
  heldWalk := rfl
  waitingWalk := rfl
  held := (freed_frame p tr w).2.1
  occupants := freed_occupants p tr w
  reserved _ h := freed_reserved h w
  permit := .inl (freed_kept p tr w)
  off _ := freed_kept p tr w
  settings := by rw [freed_context]

theorem abandoned_freedIntoFault (empty : (w.routes.contexts.get p).slot = none) :
    Abandoned v p tr w (freedIntoFault v p tr w) := by
  have loose := freed_slot (tr := tr) empty
  obtain ⟨blocks, raised, ended, heldWalk, waitingWalk, -⟩ := freedIntoFault_frame v p tr w
  obtain ⟨faultHeldWalk, faultWalk, faultHeld, -⟩ := faultRoute_owed (v := v) loose
  have kept := freed_kept p tr w
  have behind : PermitKept p (faultRoute v p (freed p tr w)) (freedIntoFault v p tr w) :=
    permitKept_of_eq (congrArg Blocks.gate blocks) ended (waitingWalk.trans ·) raised
  have permit := faultRoute_permit (v := v) loose
  refine ⟨heldWalk.trans faultHeldWalk, waitingWalk.trans faultWalk, ?_, fun a => ?_, fun a h => ?_, ?_, fun off => ?_, ?_⟩
  · rw [blocks, faultHeld, (freed_frame p tr w).2.1]
  · rw [blocks, faultRoute_occupants loose, freed_occupants]
  · rw [blocks, faultRoute_reserved loose, freed_reserved h]
  · exact permit.imp (fun k => (kept.trans k).trans behind) fun ⟨r, taken⟩ => ⟨r, (kept.trans_taken taken).trans_kept behind⟩
  · rcases permit with k | ⟨r, taken⟩
    · exact (kept.trans k).trans behind
    · rw [kept.isOn.symm.trans taken.on] at off
      cases off
  · rw [freedIntoFault_context empty]

theorem abandoned (h : (w.routes.contexts.get p).transition = some tr) (empty : (w.routes.contexts.get p).slot = none) :
    Abandoned v p tr w (abandon v p w) := by
  by_cases fault : FaultsRoute w p tr
  · rw [abandon_of_fault h fault]
    exact abandoned_freedIntoFault empty
  · rw [abandon_of_sound h fault]
    exact abandoned_freed p tr w

theorem abandon_faults_of_sound (h : (w.routes.contexts.get p).transition = some tr) (sound : ¬ FaultsRoute w p tr) :
    (abandon v p w).abandonFaults = w.abandonFaults := by
  rw [abandon_of_sound h sound, (freed_frame p tr w).2.2.2.2.2.2]

theorem abandon_faults_of_fault (h : (w.routes.contexts.get p).transition = some tr) (fault : FaultsRoute w p tr) :
    (abandon v p w).abandonFaults = w.abandonFaults ++ [p] := by
  rw [abandon_of_fault h fault, freedIntoFault]

end

/-! ### The request that stays behind an abandonment (R49) -/

/-- A held request is placed behind an abandonment, HELD with no transition and else LATCHED; any other leaves nothing behind. -/
def behind (p : Pos) (kind : RequestKind) (cause : Cause) (sel : Selection) (w : Work) : Work :=
  if sel = .held then
    if (w.context p).transition = none then placeHeld p kind cause w else placeLatched p kind cause w
  else w

/-- The slot that a request of this outcome leaves behind. -/
def slotBehind (kind : RequestKind) (cause : Cause) (sel : Selection) (status : PendingStatus) : Option PendingRequest :=
  if sel = .held then some ⟨kind, status, cause⟩ else none

section
variable (p : Pos) (kind : RequestKind) (cause : Cause) (sel : Selection) (w : Work)

theorem behind_frame : (behind p kind cause sel w).routes.antennas = w.routes.antennas ∧
    (behind p kind cause sel w).image = w.image ∧ (behind p kind cause sel w).gate = w.gate ∧
    (behind p kind cause sel w).raised = w.raised ∧ (behind p kind cause sel w).ended = w.ended ∧
    (behind p kind cause sel w).heldWalk = w.heldWalk ∧ (behind p kind cause sel w).waitingWalk = w.waitingWalk ∧
    (behind p kind cause sel w).abandonFaults = w.abandonFaults ∧ (behind p kind cause sel w).examine = w.examine := by
  unfold behind
  split
  · split <;> simp [placeHeld]
  · simp

theorem touches_behind : Touches p w (behind p kind cause sel w) := by
  unfold behind
  split
  · split
    · exact touches_placeHeld ..
    · exact touches_placeLatched ..
  · exact Touches.refl p w

theorem behind_permit : PermitKept p w (behind p kind cause sel w) := by
  obtain ⟨-, -, gate, raised, ended, -, walk, -, -⟩ := behind_frame p kind cause sel w
  exact permitKept_of_eq gate ended (walk.trans ·) raised

theorem behind_antenna : ((behind p kind cause sel w).routes.contexts.get p).antenna = (w.routes.contexts.get p).antenna := by
  unfold behind
  split
  · split
    · simp [placeHeld, Work.setContext, Work.setHeld, Work.context]
    · simp [placeLatched, Work.setContext, Work.context]
  · rfl

variable {w}

theorem behind_of_loose (loose : (w.routes.contexts.get p).transition = none) (empty : (w.routes.contexts.get p).slot = none) :
    (behind p kind cause sel w).routes.contexts.get p =
        { w.routes.contexts.get p with slot := slotBehind kind cause sel .held } ∧
      (behind p kind cause sel w).routes.held = if sel = .held then w.routes.held ++ [p] else w.routes.held := by
  have loose : (w.context p).transition = none := loose
  unfold behind slotBehind
  by_cases h : sel = .held
  · simp only [if_pos h, if_pos loose]
    exact ⟨put_get_same _ _ _, rfl⟩
  · simp only [if_neg h]
    exact ⟨by rw [← empty], trivial⟩

theorem behind_of_moving (moving : (w.routes.contexts.get p).transition ≠ none)
    (empty : (w.routes.contexts.get p).slot = none) :
    (behind p kind cause sel w).routes.contexts.get p =
        { w.routes.contexts.get p with slot := slotBehind kind cause sel .latched } ∧
      (behind p kind cause sel w).routes.held = w.routes.held := by
  have moving : (w.context p).transition ≠ none := moving
  unfold behind slotBehind
  by_cases h : sel = .held
  · simp only [if_pos h, if_neg moving]
    exact ⟨put_get_same _ _ _, rfl⟩
  · simp only [if_neg h]
    exact ⟨by rw [← empty], trivial⟩

end

/-! ### The event of an abandonment -/

/-- The work in which `p` has abandoned its transition, and this request stands behind. -/
abbrev leftBehind (v : View) (p : Pos) (kind : RequestKind) (cause : Cause) (sel : Selection) (w : Work) : Work :=
  behind p kind cause sel (abandon v p w)

/-- The position `p`, at context `c` in the work that a request or the expiry finds, has its transition `tr` in WAIT, not forced. -/
structure Waiting (s : State) (p : Pos) (c : Context) (tr : Transition) : Prop where
  finds : Finds s p c
  transition : c.transition = some tr
  wait : tr.phase = .wait
  unforced : tr.cause.forced = false
  consistent : heldConsistent s

section
variable {s t : State} {p : Pos} {c : Context} {tr : Transition} {kind : RequestKind} {cause : Cause} {sel : Selection}
  {after : List Raised}

theorem Waiting.empty (i : Waiting s p c tr) : c.slot = none :=
  i.finds.slot.trans ((i.consistent.2 p).2.2 tr (i.finds.transition ▸ i.transition) i.wait i.unforced)

theorem Waiting.out (i : Waiting s p c tr) : p ∉ s.held := fun h => by
  obtain ⟨r, slot, -⟩ := (i.consistent.2 p).1.1 h
  rw [← i.finds.slot, i.empty] at slot
  cases slot

theorem Waiting.others_held (i : Waiting s p c tr) : s.held.filter (fun q => decide (q ≠ p)) = s.held :=
  List.filter_eq_self.2 fun q hq => decide_eq_true (p := q ≠ p) fun e => i.out (e ▸ hq)

theorem Waiting.here (i : Waiting s p c tr) : ((found s p c).routes.contexts.get p).transition = some tr := by
  rw [found_context, i.transition]

theorem Waiting.loose (i : Waiting s p c tr) : ((found s p c).routes.contexts.get p).slot = none := by
  rw [found_context, i.empty]

theorem faultsRoute_iff : FaultsRoute (found s p c) p tr ↔
    tr.start = .routed ∧ ∃ k ∈ (s.claims p).effective, (s.sense k.coil).latch ≠ .none := by
  refine and_congr_right fun _ => ?_
  rw [latchedRoute, List.any_eq_true]
  exact exists_congr fun k => and_congr_right fun _ => decide_eq_true_iff

/-- The abandonment as this request and this position find it. -/
theorem Waiting.abandoned (i : Waiting s p c tr) : Abandoned s.view p tr (found s p c) (abandon s.view p (found s p c)) :=
  Abandoning.abandoned i.here i.loose

theorem touches_leftBehind (s : State) (p : Pos) (c : Context) (kind : RequestKind) (cause : Cause) (sel : Selection) :
    Touches p (Work.start s.blocks) (leftBehind s.view p kind cause sel (found s p c)) :=
  ((touches_found s p c).trans (touches_abandon ..)).trans (touches_behind ..)

theorem Waiting.permit (i : Waiting s p c tr) :
    PermitKept p (Work.start s.blocks) (leftBehind s.view p kind cause sel (found s p c)) ∨
      ∃ r, PermitTaken s.view p r (Work.start s.blocks) (leftBehind s.view p kind cause sel (found s p c)) :=
  have found := found_kept s p c
  have behind := behind_permit p kind cause sel (abandon s.view p (Requesting.found s p c))
  i.abandoned.permit.imp (fun k => (found.trans k).trans behind) fun ⟨r, taken⟩ =>
    ⟨r, (found.trans_taken taken).trans_kept behind⟩

/-- The position as the abandonment of a sound route leaves it (R74). -/
theorem Waiting.leftSound (i : Waiting s p c tr) (sound : ¬ FaultsRoute (found s p c) p tr) :
    (leftBehind s.view p kind cause sel (found s p c)).routes.contexts.get p =
        { c with state := tr.start, transition := none, slot := slotBehind kind cause sel .held } ∧
      (leftBehind s.view p kind cause sel (found s p c)).routes.held = if sel = .held then s.held ++ [p] else s.held := by
  have context : (abandon s.view p (found s p c)).routes.contexts.get p = { c with state := tr.start, transition := none } := by
    rw [abandon_of_sound i.here sound, freed_context, found_context]
  obtain ⟨placed, list⟩ := behind_of_loose p kind cause sel (w := abandon s.view p (found s p c)) (by rw [context])
    (by rw [context]; exact i.empty)
  rw [context] at placed
  rw [i.abandoned.held] at list
  exact ⟨placed, list⟩

/-- The position as an abandonment that goes on into a fault leaves it (R58, R59). -/
theorem Waiting.leftFaulted (i : Waiting s p c tr) (fault : FaultsRoute (found s p c) p tr) :
    (leftBehind s.view p kind cause sel (found s p c)).routes.contexts.get p = { c with
        state := .faulted, mark := true, transition := some (faultRelease s.view c)
        slot := slotBehind kind cause sel .latched } ∧
      (leftBehind s.view p kind cause sel (found s p c)).routes.held = s.held ∧
      p ∈ (leftBehind s.view p kind cause sel (found s p c)).examine := by
  have context : (abandon s.view p (found s p c)).routes.contexts.get p = { c with
      state := .faulted, mark := true, transition := some (faultRelease s.view c) } := by
    rw [abandon_of_fault i.here fault, freedIntoFault_context i.loose, found_context]
  obtain ⟨placed, list⟩ := behind_of_moving p kind cause sel (w := abandon s.view p (found s p c)) (by rw [context]; exact nofun)
    (by rw [context]; exact i.empty)
  rw [context] at placed
  rw [i.abandoned.held] at list
  refine ⟨placed, list, ?_⟩
  rw [(behind_frame p kind cause sel _).2.2.2.2.2.2.2.2, abandon_of_fault i.here fault,
    (freedIntoFault_frame s.view p tr _).2.2.2.2.2, (faultRoute_owed (freed_slot i.loose)).2.2.2]
  exact List.mem_cons_self

theorem Waiting.list (i : Waiting s p c tr) : (leftBehind s.view p kind cause sel (found s p c)).routes.held.Sublist
    ((s.held.filter fun q => decide (q ≠ p)) ++ [p]) := by
  rw [i.others_held]
  by_cases fault : FaultsRoute (found s p c) p tr
  · rw [(i.leftFaulted fault).2.1]
    exact List.sublist_append_left _ _
  · rw [(i.leftSound fault).2]
    split
    · exact List.Sublist.refl _
    · exact List.sublist_append_left _ _

theorem Waiting.out_of_notHeld (i : Waiting s p c tr) (notHeld : sel ≠ .held ∨ FaultsRoute (found s p c) p tr) :
    p ∉ (leftBehind s.view p kind cause sel (found s p c)).routes.held := by
  by_cases fault : FaultsRoute (found s p c) p tr
  · rw [(i.leftFaulted fault).2.1]
    exact i.out
  · rw [(i.leftSound fault).2, if_neg (notHeld.resolve_right fault)]
    exact i.out

/-- A HELD request behind an abandonment is ready for the held walk, which holds it back (R49, R54). -/
theorem Waiting.ready (i : Waiting s p c tr) (sound : ¬ FaultsRoute (found s p c) p tr)
    (outcome : .held = selection s.view s.blocks p kind) :
    HeldReady s.view (leftBehind s.view p kind cause .held (found s p c)) p ⟨kind, .held, cause⟩ ∧
      selection s.view (leftBehind s.view p kind cause .held (found s p c)).toBlocks p kind = .held := by
  have context := (i.leftSound (kind := kind) (cause := cause) (sel := .held) sound).1
  have sel : selection s.view (leftBehind s.view p kind cause .held (found s p c)).toBlocks p kind = .held := by
    rw [(touches_leftBehind s p c kind cause .held).selection s.view kind ?_, outcome]
    · rfl
    · rw [Work.context_eq, context]
      exact i.finds.antenna
  exact ⟨⟨by rw [context]; rfl, rfl, by rw [context], .inl sel⟩, sel⟩

theorem Waiting.walk (i : Waiting s p c tr) (reserved : reservedInTransition s)
    (outcome : sel = .held → .held = selection s.view s.blocks p kind) :
    OneWalk s p (leftBehind s.view p kind cause sel (found s p c)) where
  consistent := i.consistent
  reserved := reserved
  list := i.list
  own held := by
    by_cases h : sel = .held ∧ ¬ FaultsRoute (found s p c) p tr
    · obtain ⟨rfl, sound⟩ := h
      exact ⟨_, (i.ready sound (outcome rfl)).1⟩
    · refine absurd held (i.out_of_notHeld ?_)
      by_cases hs : sel = .held
      · exact .inr (by_contra fun sound => h ⟨hs, sound⟩)
      · exact .inl hs

/-- The walk of the event leaves the position as the abandonment and the request behind it have it. -/
theorem OneEvent.keptAt_leftBehind (e : OneEvent s t p (leftBehind s.view p kind cause sel (found s p c)) after)
    (i : Waiting s p c tr) (reserved : sel = .held → reservedInTransition s)
    (outcome : sel = .held → .held = selection s.view s.blocks p kind) :
    KeptAt p (leftBehind s.view p kind cause sel (found s p c))
      (heldWalkIfOwed s.view (leftBehind s.view p kind cause sel (found s p c))) := by
  by_cases h : sel = .held ∧ ¬ FaultsRoute (found s p c) p tr
  · obtain ⟨rfl, sound⟩ := h
    obtain ⟨ready, held⟩ := i.ready (cause := cause) sound (outcome rfl)
    refine e.keptAt_of_held (i.walk (reserved rfl) outcome) ready ?_ held
    rw [(i.leftSound sound).2, if_pos rfl]
    exact List.mem_append_right _ List.mem_cons_self
  · refine keptAt_walk_of_notMem s.view (i.out_of_notHeld ?_)
    by_cases hs : sel = .held
    · exact .inr (by_contra fun sound => h ⟨hs, sound⟩)
    · exact .inl hs

/-- What every abandonment leaves (R54, R59, R74, R139). -/
structure LeftByAbandonment (s t : State) (p : Pos) (c : Context) (tr : Transition) (kind : RequestKind) (cause : Cause)
    (sel : Selection) : Prop where
  coils : coilsKept s t
  kept : othersKept s t (ownOrWalked s p True)
  walked : gateConsistent s → walked s t
  places : placesKept s t p (s.placesLess p .reserving tr.target)
  effective : (t.claims p).effective = (s.claims p).effective
  antenna : (t.context p).antenna = c.antenna
  history : (t.context p).history = c.history
  target : ∀ o ∈ tr.target, (t.claims p).reserved = [] ∧ p ∉ (t.antenna o).reservations
  off : (s.key p).state ≠ .on → p ∉ s.waiting → t.key p = s.key p
  sound : (tr.start ≠ .routed ∨ ∀ k ∈ (s.claims p).effective, (s.sense k.coil).latch = .none) →
    t.context p = { c with state := tr.start, transition := none, slot := slotBehind kind cause sel .held } ∧
    (p ∈ t.held ↔ sel = .held) ∧ (∀ o ∈ tr.old, (t.antenna o).holds.get p = false) ∧
    ∀ o ∈ tr.target, (t.antenna o).holds.get p = false
  faulted : tr.start = .routed → (∃ k ∈ (s.claims p).effective, (s.sense k.coil).latch ≠ .none) →
    (t.context p).state = .faulted ∧
    (∃ tr' ∈ (t.context p).transition, tr'.cause = .fault ∧ tr'.target = none ∧ tr'.phase = .wait) ∧
    startExamined s t p ∧ (t.context p).slot = slotBehind kind cause sel .latched

theorem OneEvent.leftByAbandonment (e : OneEvent s t p (leftBehind s.view p kind cause sel (found s p c)) after)
    (i : Waiting s p c tr) (kept : KeptAt p (leftBehind s.view p kind cause sel (found s p c))
      (heldWalkIfOwed s.view (leftBehind s.view p kind cause sel (found s p c)))) :
    LeftByAbandonment s t p c tr kind cause sel := by
  have a := i.abandoned
  have closed := e.act.closed
  have own := ownKept_of_keptAt closed kept
  obtain ⟨antennas, image, gate, -, -, -, walk, -, -⟩ := behind_frame p kind cause sel (abandon s.view p (found s p c))
  have occupants (n : Ant) : ((leftBehind s.view p kind cause sel (found s p c)).routes.antennas.get n).occupants =
      s.placesLess p .reserving tr.target n := by
    rw [antennas, a.occupants]
    rfl
  refine ⟨e.coilsKept, e.othersKept fun _ => trivial, e.walked (walk.trans a.waitingWalk), e.placesKept occupants i.list, ?_, ?_,
    ?_, fun o ho => ⟨?_, ?_⟩, fun off notWaiting => ?_, fun sound => ?_, fun routed latched => ?_⟩
  · rw [own.claims, e.effective]
  · have antenna : (t.context p).antenna =
        ((heldWalkIfOwed s.view (leftBehind s.view p kind cause sel (found s p c))).routes.contexts.get p).antenna := by
      rw [closed.context]
      unfold examinedContext
      split
      · rfl
      · split <;> rfl
    rw [antenna, kept.context, behind_antenna, a.settings, found_context]
  · rw [(e.settings p).2]
    by_cases fault : FaultsRoute (found s p c) p tr
    · rw [(i.leftFaulted fault).1]
    · rw [(i.leftSound fault).1]
  · rw [own.claims, image, a.reserved o ho]
  · rw [own.reserved, occupants, ← unreserved_eq_placesLess, Option.mem_def.1 ho]
    exact notMem_unreserved
  · have startOff : isOn (found s p c).toBlocks p = false := Bool.eq_false_iff.2 fun on => off (of_decide_eq_true on)
    rw [closed.key_of_notMem notWaiting, kept.key, gate, (a.off startOff).key]
    rfl
  · have sound : ¬ FaultsRoute (found s p c) p tr := fun fault => by
      obtain ⟨routed, k, hk, latched⟩ := faultsRoute_iff.1 fault
      exact sound.elim (· routed) fun none => latched (none k hk)
    obtain ⟨context, list⟩ := i.leftSound (kind := kind) (cause := cause) (sel := sel) sound
    have freed := abandon_of_sound (v := s.view) i.here sound
    refine ⟨(own.still (by rw [context])).trans context, ?_, fun o ho => ?_, fun o ho => ?_⟩
    · rw [own.held, list]
      by_cases h : sel = .held <;> simp [h, i.out]
    · rw [own.holds, antennas, freed, freed_holds _ _ _ _ (.inl ho)]
    · rw [own.holds, antennas, freed, freed_holds _ _ _ _ (.inr ho)]
  · have fault : FaultsRoute (found s p c) p tr := faultsRoute_iff.2 ⟨routed, latched⟩
    obtain ⟨context, -, examine⟩ := i.leftFaulted (kind := kind) (cause := cause) (sel := sel) fault
    obtain ⟨⟨due, final⟩, examined⟩ := examined_of_keptAt closed kept (tr := faultRelease s.view c) (by rw [context]) rfl rfl
      examine
    rw [context] at final
    exact ⟨congrArg Context.state final, ⟨_, congrArg Context.transition final, rfl, rfl, rfl⟩, examined,
      congrArg Context.slot final⟩

end

/-! ### The request in WAIT (R49) -/

/-- What a request of this outcome does for a position whose transition `tr` is in WAIT (R49). -/
def takenInWait (v : View) (p : Pos) (tr : Transition) (kind : RequestKind) (cause : Cause) (sel : Selection) (w : Work) : Work :=
  match sel with
  | .refused _ => w
  | .target a =>
    if a = tr.target then w.setContext p { w.context p with transition := some { tr with cause := cause } }
    else replaceTarget v p tr kind cause a w
  | .current => leftBehind v p kind cause .current w
  | .held => leftBehind v p kind cause .held w

theorem takeInWait_eq (v : View) (p : Pos) (tr : Transition) (kind : RequestKind) (cause : Cause) (w : Work) :
    takeInWait v p tr kind cause w =
      (takenInWait v p tr kind cause (selection v w.toBlocks p kind) w, (selection v w.toBlocks p kind).answer) := by
  unfold takeInWait
  cases selection v w.toBlocks p kind with
  | refused r => rfl
  | current => rfl
  | target a =>
    dsimp only [takenInWait]
    split <;> rfl
  | held =>
    dsimp only [takenInWait, leftBehind, behind]
    rw [if_pos rfl]
    split <;> rfl

theorem takenInWait_of_abandons {v : View} {p : Pos} {tr : Transition} {kind : RequestKind} {cause : Cause} {sel : Selection}
    {w : Work} (abandons : sel = .current ∨ sel = .held) :
    takenInWait v p tr kind cause sel w = leftBehind v p kind cause sel w := by
  rcases abandons with rfl | rfl <;> rfl

section
variable {s : State} {p : Pos} {c : Context} {tr : Transition} {kind : RequestKind} {cause : Cause} {sel : Selection}
  {cls : Byte}

theorem Waiting.takes (i : Waiting s p c tr) (outcome : sel = selection s.view s.blocks p kind) :
    takeRequest s.view p kind cause (found s p c) = (takenInWait s.view p tr kind cause sel (found s p c), sel.answer) := by
  have here : ((found s p c).context p).transition = some tr := i.here
  rw [takeRequest, here]
  dsimp only
  rw [if_pos ⟨i.wait, i.unforced⟩, takeInWait_eq, found_selection i.finds, ← outcome]

/-- Refused, or for the target it has, the transition carries on (R49). -/
theorem Waiting.carriesOn (_ : Waiting s p c tr) :
    (∀ r, sel = .refused r → (served s p cls (takenInWait s.view p tr kind cause sel (found s p c), sel.answer)).blocks =
        (s.withContext p c).blocks) ∧
      (sel = .target tr.target →
        (served s p cls (takenInWait s.view p tr kind cause sel (found s p c), sel.answer)).blocks =
          (s.withContext p { c with transition := some { tr with cause := cause } }).blocks) := by
  have clean : Clean (found s p c) := clean_start _
  refine ⟨?_, ?_⟩
  · rintro r rfl
    rw [served_blocks, takenInWait, (close_of_clean clean s.view).1]
    rfl
  · rintro rfl
    have same : takenInWait s.view p tr kind cause (.target tr.target) (found s p c) =
        (found s p c).setContext p { (found s p c).context p with transition := some { tr with cause := cause } } := if_pos rfl
    have context : (found s p c).context p = c := found_context s p c
    rw [served_blocks, same, (close_of_clean (clean_setContext clean p _) s.view).1, context,
      ← withContext_withContext s p c]
    rfl

theorem touches_takenInWait (s : State) (p : Pos) (c : Context) (tr : Transition) (kind : RequestKind) (cause : Cause)
    (sel : Selection) : Touches p (Work.start s.blocks) (takenInWait s.view p tr kind cause sel (found s p c)) := by
  cases sel with
  | refused r => exact touches_found s p c
  | target a =>
    dsimp only [takenInWait]
    split
    · exact (touches_found s p c).trans (touches_setContext ..)
    · exact (touches_found s p c).trans (touches_replaceTarget ..)
  | current => exact touches_leftBehind ..
  | held => exact touches_leftBehind ..

theorem Waiting.permitInWait (i : Waiting s p c tr) :
    PermitKept p (Work.start s.blocks) (takenInWait s.view p tr kind cause sel (found s p c)) ∨
      ∃ r, PermitTaken s.view p r (Work.start s.blocks) (takenInWait s.view p tr kind cause sel (found s p c)) := by
  have kept := found_kept s p c
  cases sel with
  | refused r => exact .inl kept
  | target a =>
    dsimp only [takenInWait]
    split
    · exact .inl (kept.trans (permitKept_of_eq rfl rfl id rfl))
    · exact .inl (kept.trans (replaceTarget_permit ..))
  | current => exact i.permit
  | held => exact i.permit

/-- The faults that a request in WAIT abandons its transition into (R59). -/
theorem Waiting.faults (i : Waiting s p c tr) : (takenInWait s.view p tr kind cause sel (found s p c)).abandonFaults = [] ∨
    ((sel = .current ∨ sel = .held) ∧ (takenInWait s.view p tr kind cause sel (found s p c)).abandonFaults = [p]) := by
  have behind (sel : Selection) := (behind_frame p kind cause sel (abandon s.view p (found s p c))).2.2.2.2.2.2.2.1
  have left : (abandon s.view p (found s p c)).abandonFaults = [] ∨ (abandon s.view p (found s p c)).abandonFaults = [p] := by
    by_cases fault : FaultsRoute (found s p c) p tr
    · exact .inr (abandon_faults_of_fault i.here fault)
    · exact .inl (abandon_faults_of_sound i.here fault)
  cases sel with
  | refused r => exact .inl rfl
  | target a =>
    dsimp only [takenInWait]
    split
    · exact .inl rfl
    · rw [(replaceTarget_frame ..).2.2.2.2.2.2.2.2.2.1]
      exact .inl rfl
  | current => exact left.imp (behind .current).trans fun h => ⟨.inl rfl, (behind .current).trans h⟩
  | held => exact left.imp (behind .held).trans fun h => ⟨.inr rfl, (behind .held).trans h⟩

theorem Waiting.event (i : Waiting s p c tr) (cls : Byte) (answer : Answer) :
    OneEvent s (served s p cls (takenInWait s.view p tr kind cause sel (found s p c), answer)) p
      (takenInWait s.view p tr kind cause sel (found s p c))
      ((takenInWait s.view p tr kind cause sel (found s p c)).abandonFaults.map fun q => .route q .fault none) := by
  refine oneEvent_served (touches_takenInWait ..) i.permitInWait fun q hq => ?_
  rcases i.faults (kind := kind) (cause := cause) (sel := sel) with h | ⟨-, h⟩
  · rw [h] at hq
    cases hq
  · rw [h] at hq
    exact List.mem_singleton.1 hq

/-- The request for another target replaces that of the transition (R75). -/
theorem Waiting.replacesTarget (i : Waiting s p c tr) (reserved : reservedInTransition s) {a : Option Ant} {t : State}
    {after : List Raised} (e : OneEvent s t p (replaceTarget s.view p tr kind cause a (found s p c)) after)
    (other : a ≠ tr.target) :
    (∃ tr' ∈ (t.context p).transition, tr' = { tr with
        target := a, kind := kind, cause := cause, quietTimer := some (s.bank.timing.quietWaitS * 1000), due := tr'.due } ∧
      t.context p = { c with transition := some tr' }) ∧ startExamined s t p ∧
    (∀ o ∈ tr.target, p ∉ (t.antenna o).reservations ∧ (tr.old ≠ some o → (t.antenna o).holds.get p = false)) ∧
    (∀ n ∈ a, p ∈ (t.antenna n).reservations ∧ (t.antenna n).holds.get p = true ∧
      (t.claims p).reserved = (path s.bank p n).claims) ∧
    (a = none → (t.claims p).reserved = []) ∧ (t.claims p).effective = (s.claims p).effective ∧
    placesKept s t p (fun n => reservedAtEnd p a n (s.placesLess p .reserving tr.target n)) ∧
    ((s.key p).state = .on → t.key p = s.key p) ∧ heldWalked s t p ∧ othersKept s t (ownOrWalked s p True) ∧
    (gateConsistent s → walked s t) := by
  have frame := replaceTarget_frame s.view p tr kind cause a (found s p c)
  have held : (replaceTarget s.view p tr kind cause a (found s p c)).routes.held = s.held := frame.2.2.1
  have out : p ∉ (replaceTarget s.view p tr kind cause a (found s p c)).routes.held := held ▸ i.out
  have list : (replaceTarget s.view p tr kind cause a (found s p c)).routes.held.Sublist
      ((s.held.filter fun q => decide (q ≠ p)) ++ [p]) := by
    rw [held, i.others_held]
    exact List.sublist_append_left _ _
  have kept := keptAt_walk_of_notMem s.view out
  have closed := e.act.closed
  have own := ownKept_of_keptAt closed kept
  have context : (replaceTarget s.view p tr kind cause a (found s p c)).routes.contexts.get p =
      { c with transition := some (replaced s.view tr kind cause a) } := by
    rw [replaceTarget_context, found_context]
  have occupants (n : Ant) : ((replaceTarget s.view p tr kind cause a (found s p c)).routes.antennas.get n).occupants =
      reservedAtEnd p a n (s.placesLess p .reserving tr.target n) := replaceTarget_occupants ..
  obtain ⟨heldWalk, waitingWalk, examine⟩ := replaceTarget_owed s.view p tr kind cause a (found s p c)
  obtain ⟨⟨due, final⟩, examined⟩ := examined_of_keptAt closed kept (tr := replaced s.view tr kind cause a) (by rw [context])
    i.wait rfl examine
  rw [context] at final
  refine ⟨⟨_, congrArg Context.transition final, rfl, final⟩, examined, fun o ho => ⟨?_, fun notOld => ?_⟩,
    fun n hn => ⟨?_, ?_, ?_⟩, fun none => ?_, by rw [own.claims, e.effective], e.placesKept occupants list, fun on => ?_,
    e.heldWalked ⟨i.consistent, reserved, list, fun h => absurd h out⟩ heldWalk, e.othersKept fun _ => trivial,
    e.walked waitingWalk⟩
  · have notHere : a ≠ some o := fun e => other (e.trans ho.symm)
    rw [own.reserved, occupants, reservedAtEnd, if_neg notHere, Option.mem_def.1 ho]
    exact notMem_unreserved
  · have notHere : a ≠ some o := fun e => other (e.trans ho.symm)
    rw [own.holds, replaceTarget_holds, untargeted_holds p tr _ ho notOld]
    simp [notHere]
  · obtain rfl := Option.mem_def.1 hn
    rw [own.reserved, occupants, reservedAtEnd, if_pos rfl]
    exact List.mem_append_right _ List.mem_cons_self
  · obtain rfl := Option.mem_def.1 hn
    rw [own.holds, replaceTarget_holds]
    simp
  · obtain rfl := Option.mem_def.1 hn
    rw [own.claims, replaceTarget_reserved]
    rfl
  · subst none
    obtain ⟨o, ho⟩ := Option.ne_none_iff_exists'.1 other.symm
    rw [own.claims, replaceTarget_reserved_none _ _ _ _ _ _ ho]
  · have key : (heldWalkIfOwed s.view (replaceTarget s.view p tr kind cause a (found s p c))).gate.keys.get p = s.key p := by
      rw [kept.key, (replaceTarget_permit ..).key]
      rfl
    rw [closed.key_of_not_waiting (closed.not_waiting (by simp [on])), key]

/-- A request in WAIT leaves what R49 says. -/
theorem Waiting.acted (i : Waiting s p c tr) (reserved : reservedInTransition s)
    (outcome : sel = selection s.view s.blocks p kind) :
    blocksOnly (s.answered p cls sel.answer.result)
        (served s p cls (takenInWait s.view p tr kind cause sel (found s p c), sel.answer)) ∧
      coilsKept s (served s p cls (takenInWait s.view p tr kind cause sel (found s p c), sel.answer)) ∧
      actedOnInWait sel s (served s p cls (takenInWait s.view p tr kind cause sel (found s p c), sel.answer)) p c tr kind
        cause := by
  have e := i.event (kind := kind) (cause := cause) (sel := sel) cls sel.answer
  have told : (takenInWait s.view p tr kind cause sel (found s p c)).commitTold = false := e.touches.commitTold
  obtain ⟨refused, same⟩ := i.carriesOn (kind := kind) (cause := cause) (sel := sel) (cls := cls)
  refine ⟨blocksOnly_served told, e.coilsKept, refused, same, fun a target other => ?_, fun abandons => ?_⟩
  · subst target
    have work : takenInWait s.view p tr kind cause (.target a) (found s p c) =
        replaceTarget s.view p tr kind cause a (found s p c) := if_neg other
    rw [work] at e ⊢
    exact i.replacesTarget reserved e other
  · have work := takenInWait_of_abandons (v := s.view) (p := p) (tr := tr) (kind := kind) (cause := cause)
      (w := found s p c) abandons
    have faulted (fault : FaultsRoute (found s p c) p tr) :
        (takenInWait s.view p tr kind cause sel (found s p c)).abandonFaults = [p] := by
      rw [work, (behind_frame p kind cause sel _).2.2.2.2.2.2.2.1]
      exact abandon_faults_of_fault i.here fault
    generalize (takenInWait s.view p tr kind cause sel (found s p c)).abandonFaults = faults at e faulted
    rw [work] at e ⊢
    have held (h : sel = .held) : .held = selection s.view s.blocks p kind := h ▸ outcome
    obtain ⟨-, kept, walked, places, effective, -, -, target, -, sound, fault⟩ :=
      OneEvent.leftByAbandonment e i (OneEvent.keptAt_leftBehind e i (fun _ => reserved) held)
    refine ⟨effective, target, sound, fun routed latched => ?_, e.heldWalked (i.walk reserved held) ?_, kept, places, walked⟩
    · obtain ⟨state, release, examined, slot⟩ := fault routed latched
      refine ⟨state, release, examined, fun few => ?_, slot⟩
      refine e.act.told (cause := .fault) (answer := none) ?_ few (by simp [routeNotice, Notice.isRoute])
      rw [faulted (faultsRoute_iff.2 ⟨routed, latched⟩)]
      exact lastOf_concat _ _ []
    · exact (behind_frame p kind cause sel _).2.2.2.2.2.1.trans i.abandoned.heldWalk

end

end Sys2Proof.Proofs.Abandoning

/-!
SUPPORT. ROUTE, REVERT, RELEASE and MODE FOLLOW (R38, R47 to R50) in the words of Safety.lean; they are settled here.
-/
namespace Sys2Proof.Proofs.Routing
open Sys2Proof Sys2Proof.Machine Sys2Proof.Proofs.Take Sys2Proof.Proofs.Delivery Sys2Proof.Proofs.Selecting Sys2Proof.Proofs.Acting
open Sys2Proof.Proofs.Closing Sys2Proof.Proofs.Following Sys2Proof.Proofs.Eventing Sys2Proof.Proofs.Serving
open Sys2Proof.Proofs.Choosing Sys2Proof.Proofs.Requesting Sys2Proof.Proofs.Abandoning

/-! ### The oldest held request behind a request that reserves nothing (R54, R55) -/

/-- A request that finds no target changes no place, no claim and no classifier record. -/
theorem chosen_of_notTarget (v : View) (p : Pos) (kind : RequestKind) (cause : Cause) {sel : Selection} (d : Work)
    (notTarget : ∀ n, sel ≠ .target n) : (chosen v p kind cause sel d).routes.antennas = d.routes.antennas ∧
      (chosen v p kind cause sel d).image = d.image ∧ (chosen v p kind cause sel d).classifier = d.classifier := by
  cases sel with
  | refused r => exact ⟨rfl, rfl, rfl⟩
  | held => exact ⟨rfl, rfl, rfl⟩
  | target n => exact absurd rfl (notTarget n)
  | current =>
    obtain ⟨state, h⟩ := chosen_current v p kind cause d
    rw [h]
    exact ⟨rfl, rfl, rfl⟩

theorem crowds_of_same (p : Pos) {w w' : Blocks} (antennas : w'.routes.antennas = w.routes.antennas)
    (image : w'.image = w.image) : Crowds p w w' where
  occupants a q _ h := by rwa [antennas]
  claims q _ k hk := by rwa [image]
  groups c h := by
    simp only [judgedExclusive] at h ⊢
    rwa [image]

/-- Selection reads no more of the other positions than their places and their claims. -/
theorem selection_of_same {v : View} {w w' : Blocks} {p : Pos} (kind : RequestKind)
    (antennas : w'.routes.antennas = w.routes.antennas) (image : w'.image = w.image) (classifier : w'.classifier = w.classifier)
    (context : w'.routes.contexts.get p = w.routes.contexts.get p) : selection v w' p kind = selection v w p kind :=
  selection_congr kind (crowds_of_same p antennas image) (crowds_of_same p antennas.symm image.symm) (by rw [context])
    (by rw [classifier])

/-- An entry of a held walk that is not held back does what a request of its kind does once it has left the list (R55). -/
theorem heldEntry_eq_chosen {v : View} {w : Work} {q : Pos} {r : PendingRequest} (ready : HeldReady v w q r)
    (notRelease : r.kind ≠ .release) (notHeld : selection v w.toBlocks q r.kind ≠ .held) :
    ∃ n, heldEntry v w q = (chosen v q r.kind r.cause (selection v w.toBlocks q r.kind) (leaveHeld q w)).raise n := by
  cases sel : selection v w.toBlocks q r.kind with
  | held => exact absurd sel notHeld
  | target a =>
    refine ⟨.route q .heldSelected (some (.accepted .started)), (heldEntry_of_target ready sel).trans ?_⟩
    have same : ((leaveHeld q w).context q).state = (w.context q).state := by
      rw [Work.context_eq, leaveHeld_context]
      rfl
    rw [chosen, same]
  | refused e =>
    obtain ⟨cause, answer, -, eq⟩ := heldEntry_of_neither ready notHeld (by simp [sel])
    exact ⟨_, eq⟩
  | current =>
    obtain ⟨cause, answer, -, eq⟩ := heldEntry_of_neither ready notHeld (by simp [sel])
    refine ⟨.route q cause answer, eq.trans ?_⟩
    rw [chosen, if_neg fun h => notRelease h.1]

section
variable {s : State} {p : Pos} {c : Context} {kind : RequestKind} {cause : Cause} {sel : Selection} {cls : Byte}

/-- The oldest held request, behind a request that drops its own and finds no target, is selected as the event found things. -/
theorem AtOnce.oldest (a : AtOnce s p c) (reserved : reservedInTransition s) (outcome : sel = selection s.view s.blocks p kind)
    (slot : (s.context p).slot ≠ none) (notTarget : ∀ n, sel ≠ .target n) {q : Pos}
    (oldest : q ∈ (s.held.filter fun q => decide (q ≠ p)).head?) {r : PendingRequest} (hr : r ∈ (s.context q).slot)
    (notRelease : r.kind ≠ .release) (unforced : r.cause.forced = false) :
    actedOn (selection s.view s.blocks q r.kind) s.bank
        (served s p cls (chosen s.view p kind cause sel (asked s p c), sel.answer)) q { s.context q with slot := none } r.kind
        r.cause ∧
      startExamined s (served s p cls (chosen s.view p kind cause sel (asked s p c), sel.answer)) q := by
  obtain ⟨rest, list⟩ := List.head?_eq_some_iff.1 oldest
  have mem : q ∈ s.held ∧ q ≠ p := by
    have h : q ∈ s.held.filter fun q => decide (q ≠ p) := list ▸ List.mem_cons_self
    simpa using h
  have other : only p q = false := decide_eq_false mem.2
  have e := event_atOnce s p cls c kind cause sel sel.answer
  have walks := (a.walk (cause := cause) reserved outcome).walks
  obtain ⟨antennas, image, classifier⟩ := chosen_of_notTarget s.view p kind cause (asked s p c) notTarget
  have frame := dropHeld_frame p (found s p c)
  have unmoved : (chosen s.view p kind cause sel (asked s p c)).routes.contexts.get q = s.context q :=
    e.touches.contexts q mem.2
  have same := selection_of_same (v := s.view) (w := s.blocks) (w' := (chosen s.view p kind cause sel (asked s p c)).toBlocks) r.kind
    (antennas.trans frame.2.2.1) (image.trans frame.2.2.2.1) (classifier.trans frame.1) unmoved
  have ready := e.act.ready walks other mem.1 hr
  have loose : (s.context q).transition = none := unmoved ▸ ready.transition
  have member := (e.act.before.mem_held other).2 mem.1
  by_cases held : selection s.view s.blocks q r.kind = .held
  · have kept := keptAt_walk_of_held walks.nodup (e.act.allReady walks) ready member (same.trans held)
    have own := ownKept_of_keptAt e.act.closed kept
    have final := (own.still (by rw [unmoved]; exact loose)).trans unmoved
    rw [held]
    refine ⟨⟨nofun, nofun, nofun, fun _ => ?_, iff_of_true (own.held.2 member) rfl⟩,
      startExamined_of_none (by rw [final]; exact loose)⟩
    have filled : (⟨r.kind, .held, r.cause⟩ : PendingRequest) = r := by rw [← ready.status]
    rw [final, filled, ← Option.mem_def.1 hr]
  · obtain ⟨n, first⟩ := heldEntry_eq_chosen ready notRelease (same ▸ held)
    rw [same] at first
    obtain ⟨rest', heldList⟩ : ∃ l, (chosen s.view p kind cause sel (asked s p c)).routes.held = q :: l := by
      rw [chosen_held, a.dropped.2.1, list]
      split
      · exact ⟨rest ++ [p], rfl⟩
      · exact ⟨rest, rfl⟩
    have later : q ∉ rest' := (List.nodup_cons.1 (heldList ▸ walks.nodup)).1
    have owed : (chosen s.view p kind cause sel (asked s p c)).heldWalk = true := (chosen_owed ..).1.trans (a.dropped.2.2.2 slot)
    have kept : KeptAt q (chosen s.view q r.kind r.cause (selection s.view s.blocks q r.kind)
        (leaveHeld q (chosen s.view p kind cause sel (asked s p c))))
        (heldWalkIfOwed s.view (chosen s.view p kind cause sel (asked s p c))) := by
      rw [heldWalkIfOwed_of_owed _ owed, heldList, List.foldl_cons, first]
      refine (?_ : KeptAt q _ (Work.raise n _)).trans (keptAt_of_outside (own := fun x => decide (x ∈ rest'))
        (outside_owed (heldEntries_outside s.view rest' _ fun x hx => decide_eq_true hx) false) (decide_eq_false later))
      exact ⟨rfl, rfl, fun _ => rfl, fun _ => Iff.rfl, Iff.rfl, rfl, fun _ => id⟩
    exact actedOn_of_chosen e.act.closed kept (by rw [leaveHeld_context, unmoved]) loose (leaveHeld_notMem q _) unforced

end

/-! ### ROUTE (R48, R49) -/

/-- A request takes the work of its frame as the context of the position gives it. -/
theorem takeRequest_start (s : State) (p : Pos) (kind : RequestKind) (cause : Cause) :
    takeRequest s.view p kind cause (Work.start s.blocks) = takeRequest s.view p kind cause (found s p (s.context p)) := by
  rw [found_self]

theorem not_release_of_byte {b : Byte} {kind : RequestKind}
    (h : (b = 0 ∧ kind = .byPreference) ∨ ∃ n : Ant, b.toNat = n.val + 1 ∧ kind = .antenna n) : kind ≠ .release := by
  rcases h with ⟨-, rfl⟩ | ⟨n, -, rfl⟩ <;> exact nofun

/-- Settles O17: the request is one event, selected at once or taken in WAIT. -/
theorem routeStartsTransition : Obligations.RouteStartsTransition := by
  intro s lp b kind a taken byte normal on consistent
  have admitted := admission_of_enabled normal on
  have notRelease := not_release_of_byte byte
  have runs : exec (.route lp [b]) s =
      .next (served s lp 0x02 (takeRequest s.view lp kind .request (found s lp (s.context lp)))) := by
    rw [exec_route taken (routeKind_eq byte), request_of_admitted admitted, takeRequest_start]
  refine ⟨fun none => ?_, fun tr at' wait unforced reserved => ?_⟩
  · have once : AtOnce s lp (s.context lp) := ⟨Finds.refl s lp, none, consistent⟩
    refine ⟨fun target => ?_, fun empty => ⟨fun r refused => ?_, fun current => ?_, fun held => ?_⟩, fun reserved slot => ?_⟩
    · rw [once.takes target.symm] at runs
      have acted := once.acted (kind := kind) (cause := .request) (sel := .target (some a)) (cls := 0x02)
      obtain ⟨⟨-, -, started, -, list⟩, examined⟩ := once.actedOn_of_notHeld (kind := kind) (cause := .request)
        (sel := .target (some a)) (cls := 0x02) rfl nofun
      obtain ⟨⟨tr, htr, record, context⟩, reserved, old⟩ := started _ rfl
      obtain ⟨place, holds, -⟩ := reserved a rfl
      obtain ⟨on, off⟩ := once.key_of_target (kind := kind) (cause := .request) (n := some a) (cls := 0x02)
      exact ⟨_, runs, acted.others, acted.coils, ⟨tr, htr, record, context⟩, place, (fun h => nomatch list.1 h), acted.places,
        fun empty n => once.occupants_of_empty empty n, once.claims_of_target, holds, old, examined, on, off, acted.walk, acted.kept⟩
    · rw [runs, once.takes refused.symm, once.served_of_clean (sel := .refused r) empty nofun, chosen, found_self]
      rfl
    · rw [runs, once.takes current.symm, once.served_of_clean (sel := .current) empty nofun, chosen, if_neg fun h => notRelease h.1, found_self]
      rfl
    · rw [once.takes held.symm, once.served_of_clean (sel := .held) empty nofun, chosen, found_self] at runs
      have context := put_get_same s.blocks.routes.contexts lp { s.context lp with slot := some ⟨kind, .held, .request⟩ }
      exact ⟨_, runs, rfl, context, congrArg (fun c => { s.answered lp 0x02 (.accepted (some .held)) with
        blocks := { s.blocks with routes := { s.blocks.routes with
          held := s.held ++ [lp], contexts := put s.blocks.routes.contexts lp c } } }) context.symm⟩
    · rw [once.takes rfl] at runs
      have acted := once.acted (kind := kind) (cause := .request) (sel := selection s.view s.blocks lp kind) (cls := 0x02)
      obtain ⟨own, examined⟩ := once.actedOn (cls := 0x02) (cause := .request) rfl reserved rfl
      exact ⟨_, runs, acted.others, acted.coils, own, examined, acted.places, once.heldWalked reserved rfl slot, acted.walk,
        othersKept_mono (fun _ o => o.imp_right fun h => ⟨trivial, h.2⟩) acted.kept,
        fun notTarget q oldest r hr notRelease unforced => AtOnce.oldest once reserved rfl slot notTarget oldest hr notRelease unforced⟩
  · have waiting : Waiting s lp (s.context lp) tr := ⟨Finds.refl s lp, at', wait, unforced, consistent⟩
    rw [waiting.takes rfl] at runs
    exact ⟨_, runs, waiting.acted reserved rfl⟩

/-! ### REVERT (R47) -/

/-- Settles O19: the pop leaves the rest of the history, and the request finds the position so. -/
theorem revertPopsHistory : Obligations.RevertPopsHistory := by
  intro s lp taken normal on
  have admitted := admission_of_enabled normal on
  refine ⟨fun empty => ?_, fun a rest top none consistent => ?_, fun a rest top tr at' wait unforced consistent reserved => ?_⟩
  · have empty : ((Work.start s.blocks).context lp).history = [] := empty
    rw [exec_revert taken, revertRequest, admitted]
    simp only [empty]
    exact congrArg _ (served_refused s lp 0x03 .empty)
  · have once : AtOnce s lp { s.context lp with history := rest } := ⟨⟨rfl, rfl, rfl, rfl⟩, none, consistent⟩
    have runs := exec_revert taken
    rw [revertRequest_popped admitted top, once.takes rfl] at runs
    have acted := once.acted (kind := .antenna a) (cause := .request) (sel := selection s.view s.blocks lp (.antenna a))
      (cls := 0x03)
    refine ⟨_, runs, acted.coils, acted.history, ?_, fun target => ?_, fun reserved => ?_⟩
    · have others := acted.others
      revert others
      cases selection s.view s.blocks lp (.antenna a) <;> exact id
    · rw [target]
      obtain ⟨⟨-, -, started, -, -⟩, -⟩ := once.actedOn_of_notHeld (kind := .antenna a) (cause := .request)
        (sel := .target (some a)) (cls := 0x03) rfl nofun
      obtain ⟨⟨tr, htr, record, context⟩, reserved, -⟩ := started _ rfl
      exact ⟨(reserved a rfl).1, by rw [context], tr, htr, by rw [record]; exact ⟨rfl, rfl, rfl⟩⟩
    · obtain ⟨own, examined⟩ := once.actedOn (cls := 0x03) (cause := .request) rfl reserved rfl
      exact ⟨own, examined, acted.places, acted.walk, acted.kept, once.heldWalked reserved rfl⟩
  · have waiting : Waiting s lp { s.context lp with history := rest } tr := ⟨⟨rfl, rfl, rfl, rfl⟩, at', wait, unforced, consistent⟩
    have runs := exec_revert taken
    rw [revertRequest_popped admitted top, waiting.takes rfl] at runs
    exact ⟨_, runs, waiting.acted reserved rfl⟩

/-! ### RELEASE (R48, R60) -/

theorem withContext_self (s : State) (p : Pos) : s.withContext p (s.context p) = s := by simp [State.withContext]

/-- A release leaves an antenna, and is current without one. -/
theorem selection_release (s : State) (p : Pos) : selection s.view s.blocks p .release =
    if (s.context p).antenna.isSome then .target none else .current := by
  unfold selection
  cases h : (s.context p).antenna with
  | none =>
    have h : (s.blocks.routes.contexts.get p).antenna = none := h
    simp
  | some a =>
    have h : (s.blocks.routes.contexts.get p).antenna = some a := h
    simp

/-- Settles O20: a release is a request whose selection turns on the antenna alone. -/
theorem releaseStartsOrEndsFault : Obligations.ReleaseStartsOrEndsFault := by
  intro s lp taken normal on consistent
  have admitted := admission_of_enabled normal on
  have runs : exec (.release lp []) s =
      .next (served s lp 0x04 (takeRequest s.view lp .release .request (found s lp (s.context lp)))) := by
    rw [exec_release taken, request_of_admitted admitted, takeRequest_start]
  refine ⟨fun none => ?_, fun tr at' wait unforced reserved => ?_⟩
  · have once : AtOnce s lp (s.context lp) := ⟨Finds.refl s lp, none, consistent⟩
    refine ⟨fun a antenna => ?_, fun antenna empty => ?_, fun reserved slot => ?_⟩
    · have target : selection s.view s.blocks lp .release = .target Option.none := by
        rw [selection_release, Option.mem_def.1 antenna]
        rfl
      rw [once.takes target.symm] at runs
      have acted := once.acted (kind := .release) (cause := .request) (sel := .target Option.none) (cls := 0x04)
      obtain ⟨⟨-, -, started, -, -⟩, examined⟩ := once.actedOn_of_notHeld (kind := .release) (cause := .request)
        (sel := .target Option.none) (cls := 0x04) rfl nofun
      obtain ⟨⟨tr, htr, record, context⟩, -, old⟩ := started _ rfl
      obtain ⟨on, off⟩ := once.key_of_target (kind := .release) (cause := .request) (n := Option.none) (cls := 0x04)
      have record : tr = ⟨some a, Option.none, .release, .request, .wait, Option.none,
          some (s.bank.timing.quietWaitS * 1000), (s.context lp).state, tr.due, []⟩ := by
        have same : (s.context lp).antenna = some a := antenna
        exact same ▸ record
      exact ⟨_, runs, acted.others, acted.coils, by rw [context], by rw [context]; exact antenna, by rw [context],
        ⟨tr, htr, record⟩, examined, old a antenna, on, off, acted.walk, acted.kept⟩
    · have current : selection s.view s.blocks lp .release = .current := by
        rw [selection_release, antenna]
        rfl
      rw [runs, once.takes current.symm, once.served_of_clean (sel := .current) empty nofun, answered_withContext, found_self]
      by_cases faulted : (s.context lp).state = .faulted
      · rw [chosen, if_pos ⟨rfl, faulted⟩, if_pos faulted]
        rfl
      · rw [chosen, if_neg fun h => faulted h.2, if_neg faulted]
        exact congrArg _ (withContext_self (s.answered lp 0x04 (.accepted (some .unchanged))) lp).symm
    · have release : reservedLast s (served s lp 0x04 (chosen s.view lp .release .request
          (selection s.view s.blocks lp .release) (asked s lp (s.context lp)),
          (selection s.view s.blocks lp .release).answer)) lp .current := by
        have places := (once.acted (kind := .release) (cause := .request)
          (sel := selection s.view s.blocks lp .release) (cls := 0x04)).places
        revert places
        rw [selection_release]
        split <;> exact id
      rw [once.takes rfl] at runs
      have acted := once.acted (kind := .release) (cause := .request) (sel := selection s.view s.blocks lp .release)
        (cls := 0x04)
      obtain ⟨own, examined⟩ := once.actedOn (cls := 0x04) (cause := .request) rfl reserved rfl
      exact ⟨_, runs, acted.others, acted.coils, own, examined, release, once.heldWalked reserved rfl slot, acted.walk,
        othersKept_mono (fun _ o => o.imp_right fun h => ⟨trivial, h.2⟩) acted.kept⟩
  · have waiting : Waiting s lp (s.context lp) tr := ⟨Finds.refl s lp, at', wait, unforced, consistent⟩
    rw [waiting.takes rfl] at runs
    exact ⟨_, runs, waiting.acted reserved rfl⟩

/-! ### MODE (R38) -/

/-- The mode set and the reply given, with no request behind. -/
theorem setMode_answered (s : State) (lp : Pos) (m : Mode) :
    ((s.take lp).setMode lp m).placeReply lp 0x05 (.done []) =
      (s.answered lp 0x05 (.done [])).withContext lp { s.context lp with mode := m } := by
  rw [setMode_eq, ← placeReply_take]
  simp only [State.placeReply, State.setPort, State.withContext]
  rfl

/-- Settles O21: the mode is set, and a FOLLOW position with a band goes on as a request that finds it so. -/
theorem modeRequestsSetMode : Obligations.ModeRequestsSetMode := by
  intro s lp normal on
  have admitted := admission_of_enabled normal on
  have admitted' : admission (s.take lp).view lp = none := admitted
  refine ⟨fun taken => ?_, fun taken empty => ?_, fun taken band consistent none => ?_, fun taken band consistent reserved => ?_⟩
  · rw [exec_modeManual taken, State.modeManual, admitted']
    exact congrArg _ (setMode_answered s lp .manual)
  · have empty : (((s.take lp).setMode lp .follow).blocks.classifier.get lp).entry = none := by
      rw [setMode_eq]
      exact empty
    rw [exec_modeFollow taken, State.modeFollow, admitted']
    simp only [empty]
    exact congrArg _ (setMode_answered s lp .follow)
  · have once : AtOnce s lp { s.context lp with mode := .follow } := ⟨⟨rfl, rfl, rfl, rfl⟩, none, consistent⟩
    have runs := modeFollow_requests taken admitted band
    rw [once.takes rfl] at runs
    have acted := once.acted (kind := .byPreference) (cause := .follow) (sel := selection s.view s.blocks lp .byPreference)
      (cls := 0x05)
    refine ⟨_, runs, acted.mode, acted.coils, ?_, fun a target => ?_⟩
    · have others := acted.others
      revert others
      cases selection s.view s.blocks lp .byPreference <;> exact id
    · rw [target]
      obtain ⟨⟨-, -, started, -, -⟩, -⟩ := once.actedOn_of_notHeld (kind := .byPreference) (cause := .follow)
        (sel := .target (some a)) (cls := 0x05) rfl nofun
      obtain ⟨⟨tr, htr, record, -⟩, -⟩ := started _ rfl
      exact ⟨tr, htr, by rw [record]; exact ⟨rfl, rfl, rfl⟩⟩
  · have runs := modeFollow_requests taken admitted band
    refine ⟨fun none => ?_, fun tr at' => ⟨fun wait unforced => ?_, fun other => ?_⟩⟩
    · have once : AtOnce s lp { s.context lp with mode := .follow } := ⟨⟨rfl, rfl, rfl, rfl⟩, none, consistent⟩
      rw [once.takes rfl] at runs
      have acted := once.acted (kind := .byPreference) (cause := .follow) (sel := selection s.view s.blocks lp .byPreference)
        (cls := 0x05)
      obtain ⟨own, examined⟩ := once.actedOn (cls := 0x05) (cause := .follow) rfl reserved rfl
      exact ⟨_, runs, own, examined, acted.places, acted.walk, acted.kept, once.heldWalked reserved rfl⟩
    · have waiting : Waiting s lp { s.context lp with mode := .follow } tr := ⟨⟨rfl, rfl, rfl, rfl⟩, at', wait, unforced, consistent⟩
      rw [waiting.takes rfl] at runs
      exact ⟨_, runs, waiting.acted reserved rfl⟩
    · rw [runs]
      exact congrArg _ (served_latched (c := { s.context lp with mode := .follow }) _ _ at' other)

end Sys2Proof.Proofs.Routing

/-!
SUPPORT. QUIET_WAIT_EXPIRY (R57, R73, R74), the abandonment without a request, in the words of Safety.lean; it is settled here.
-/
namespace Sys2Proof.Proofs.Expiring
open Sys2Proof Sys2Proof.Machine Sys2Proof.Proofs.Delivery Sys2Proof.Proofs.Acting Sys2Proof.Proofs.Closing
open Sys2Proof.Proofs.Following Sys2Proof.Proofs.Reports Sys2Proof.Proofs.Eventing Sys2Proof.Proofs.Serving
open Sys2Proof.Proofs.Choosing Sys2Proof.Proofs.Requesting Sys2Proof.Proofs.Abandoning

/-- An event of one position whose notices stand behind its close. -/
theorem oneEvent_finish {s : State} {p : Pos} {w w' : Work} {after : List Raised} (touches : Touches p (Work.start s.blocks) w)
    (permit : PermitKept p (Work.start s.blocks) w ∨ ∃ r, PermitTaken s.view p r (Work.start s.blocks) w)
    (blocks : w'.toBlocks = (close s.view w).toBlocks) (raised : w'.raised = (close s.view w).raised ++ after)
    (behind : ∀ n ∈ after, isRouteOf p n) : OneEvent s (s.finish w') p w after where
  view := finish_view s w'
  touches := touches
  permit := permit
  blocks := (finish_frame s w').2.2.2.2.2.2.2.2.2.1.trans blocks
  behind := behind
  reports := by
    rw [← raised]
    refine reports_finish (fun _ => rfl) fun n hn => ?_
    rw [raised] at hn
    rcases List.mem_append.1 hn with hn | hn
    · exact noAlls_close (heldWalkIfOwed_gate (gateStage_of_one touches permit)) n hn
    · exact behind _ hn

/-- The quiet wait timer of a transition in WAIT expires (R73). -/
theorem exec_quietWaitExpiry {s : State} {p : Pos} {tr : Transition} (at' : (s.context p).transition = some tr)
    (wait : tr.phase = .wait) (runs : tr.quietTimer.isSome = true) :
    exec (.quietWaitExpiry p) s = .next (s.finish (quietWaitEnd s.view p tr (Work.start s.blocks))) := by
  have at' : (s.blocks.routes.contexts.get p).transition = some tr := at'
  have here : s.quietWaitExpiry p = s.finish (quietWaitEnd s.view p tr (Work.start s.blocks)) := by
    rw [State.quietWaitExpiry, at']
    exact if_pos ⟨wait, runs⟩
  exact congrArg _ here

/-- A forced release stays in WAIT, its timer restarted, and is told (R57). -/
theorem quietWaitExpiry_forced {s : State} {p : Pos} {tr : Transition} (at' : (s.context p).transition = some tr)
    (wait : tr.phase = .wait) (runs : tr.quietTimer.isSome = true) (forced : tr.cause.forced = true) :
    ∃ t, exec (.quietWaitExpiry p) s = .next t ∧
      t = { s.withContext p { s.context p with transition := some { tr with
        quietTimer := some (s.bank.timing.quietWaitS * 1000) } } with ports := t.ports } ∧
      noticesOnly s.ports t.ports ∧
      ((s.port p).notices.length ≤ 4 → holdsNotice t p fun n => n.isRoute p .quietTimeout) := by
  have restarts : quietWaitEnd s.view p tr (Work.start s.blocks) =
      ((Work.start s.blocks).setContext p { s.context p with transition := some { tr with
        quietTimer := some (s.bank.timing.quietWaitS * 1000) } }).raise (.route p .quietTimeout none) := if_pos forced
  have run := exec_quietWaitExpiry at' wait runs
  rw [restarts] at run
  have reports := reports_finish (s := s) (s₀ := s) (w := ((Work.start s.blocks).setContext p
      { s.context p with transition := some { tr with quietTimer := some (s.bank.timing.quietWaitS * 1000) } }).raise
        (.route p .quietTimeout none)) (fun _ => rfl) fun n hn => nomatch List.mem_singleton.1 hn
  refine ⟨_, run, ?_, noticesOnly_finish s _, fun few =>
    reports.route (lastOf_concat _ _ []) few (by simp [routeNotice, Notice.isRoute])⟩
  rw [finish_of_untold s rfl]
  rfl

/-- The work in which the position has abandoned its transition: no request stands behind. -/
abbrev expired (s : State) (p : Pos) : Work :=
  leftBehind s.view p .release .request .current (found s p (s.context p))

/-- The close of an expiry, with its notice and that of the fault it went on into (R59, R74). -/
def expiryClosed (v : View) (p : Pos) (w : Work) : Work :=
  raiseAbandonFaults ((close v w).raise (.route p .quietTimeout none))

section
variable {s : State} {p : Pos} {tr : Transition}

theorem quietWaitEnd_of_unforced (unforced : tr.cause.forced = false) :
    quietWaitEnd s.view p tr (Work.start s.blocks) = expiryClosed s.view p (expired s p) := by
  have work : expired s p = abandon s.view p (Work.start s.blocks) := by
    rw [expired, found_self]
    exact if_neg nofun
  rw [work, quietWaitEnd, unforced]
  exact if_neg nofun

theorem expired_faults (s : State) (p : Pos) :
    (expired s p).abandonFaults = (abandon s.view p (found s p (s.context p))).abandonFaults :=
  (behind_frame p _ _ _ _).2.2.2.2.2.2.2.1

theorem Waiting.faultsExpired (i : Waiting s p (s.context p) tr) {q : Pos} (hq : q ∈ (expired s p).abandonFaults) : q = p := by
  rw [expired_faults] at hq
  by_cases fault : FaultsRoute (found s p (s.context p)) p tr
  · rw [abandon_faults_of_fault i.here fault] at hq
    exact List.mem_singleton.1 hq
  · rw [abandon_faults_of_sound i.here fault] at hq
    cases hq

theorem raise_raised (n : Raised) (w : Work) : (w.raise n).raised = w.raised ++ [n] := rfl

theorem raise_blocks (n : Raised) (w : Work) : (w.raise n).toBlocks = w.toBlocks := rfl

theorem expiryClosed_raised (v : View) (p : Pos) (w : Work) : (expiryClosed v p w).raised =
    (close v w).raised ++ (.route p .quietTimeout none :: w.abandonFaults.map fun q => .route q .fault none) := by
  have faults : ((close v w).raise (.route p .quietTimeout none)).abandonFaults = w.abandonFaults :=
    (Work.raise_abandonFaults ..).trans (close_frame v w).2.2.2.2.2.1
  rw [expiryClosed, raiseAbandonFaults_raised, faults, List.append_cons]
  rw [raise_raised]

theorem expiryClosed_blocks (v : View) (p : Pos) (w : Work) : (expiryClosed v p w).toBlocks = (close v w).toBlocks :=
  (raiseAbandonFaults_blocks _).trans (raise_blocks ..)

theorem expiryClosed_told (v : View) (p : Pos) (w : Work) : (expiryClosed v p w).commitTold = w.commitTold := by
  rw [expiryClosed, (raiseAbandonFaults_frame _).2.2.2.2.2.2.2.2.2.2, Work.raise_commitTold]
  exact (close_frame v w).2.2.2.2.2.2

/-- The expiry is an event of its position. -/
theorem Waiting.expiry (i : Waiting s p (s.context p) tr) : OneEvent s (s.finish (expiryClosed s.view p (expired s p))) p
    (expired s p) (.route p .quietTimeout none :: (expired s p).abandonFaults.map fun q => .route q .fault none) := by
  refine oneEvent_finish (touches_leftBehind ..) i.permit (expiryClosed_blocks ..) (expiryClosed_raised ..) fun n hn => ?_
  rcases List.mem_cons.1 hn with rfl | hn
  · exact rfl
  · obtain ⟨q, hq, rfl⟩ := List.mem_map.1 hn
    exact Waiting.faultsExpired i hq

end

/-- Settles O25: a forced release waits on, and any other transition is abandoned as by a request that leaves nothing behind. -/
theorem quietWaitExpiryAbandons : Obligations.QuietWaitExpiryAbandons := by
  intro s p tr at' wait runs consistent
  refine ⟨fun forced => quietWaitExpiry_forced at' wait runs (by rcases forced with h | h <;> rw [h] <;> rfl), fun unforced => ?_⟩
  have unforced : tr.cause.forced = false := by rcases unforced with h | h <;> rw [h] <;> rfl
  have i : Waiting s p (s.context p) tr := ⟨Finds.refl s p, at', wait, unforced, consistent⟩
  have run := exec_quietWaitExpiry at' wait runs
  rw [quietWaitEnd_of_unforced unforced] at run
  have e := Waiting.expiry i
  obtain ⟨coils, kept, walked, places, effective, antenna, history, target, off, sound, faulted⟩ :=
    OneEvent.leftByAbandonment e i (OneEvent.keptAt_leftBehind e i nofun nofun)
  have told : (expiryClosed s.view p (expired s p)).commitTold = false :=
    (expiryClosed_told ..).trans e.touches.commitTold
  refine ⟨_, run, blocksOnly_finish s told, coils, fun reserved => e.heldWalked (i.walk reserved nofun) ?_, walked, kept, off,
    effective, antenna, history, target, places, fun still => ?_, fun routed latched => ?_⟩
  · exact (behind_frame p _ _ _ _).2.2.2.2.2.1.trans i.abandoned.heldWalk
  · obtain ⟨context, -, old, target⟩ := sound still
    refine ⟨by rw [context], by rw [context], old, target, fun few => ?_⟩
    have sound : ¬ FaultsRoute (found s p (s.context p)) p tr := fun fault => by
      obtain ⟨routed, k, hk, latched⟩ := faultsRoute_iff.1 fault
      exact still.elim (· routed) fun none => latched (none k hk)
    refine e.act.told (cause := .quietTimeout) (answer := none) ?_ few (by simp [routeNotice, Notice.isRoute])
    rw [expired_faults, abandon_faults_of_sound i.here sound]
    exact lastOf_concat _ _ []
  · obtain ⟨state, release, examined, -⟩ := faulted routed latched
    refine ⟨state, release, examined, fun few => ?_⟩
    refine e.act.told (cause := .fault) (answer := none) ?_ few (by simp [routeNotice, Notice.isRoute])
    rw [expired_faults, abandon_faults_of_fault i.here (faultsRoute_iff.2 ⟨routed, latched⟩)]
    exact lastOf_concat _ _ [_]

end Sys2Proof.Proofs.Expiring

/-!
SUPPORT. The phases of a transition (R76 to R78): the start of BREAK and of MAKE, as events of one position that change its claims,
its places and the coils of its route; DEPARTURE is settled here.
-/
namespace Sys2Proof.Proofs.Moving
open Sys2Proof Sys2Proof.Machine Sys2Proof.Proofs.Delivery Sys2Proof.Proofs.Acting Sys2Proof.Proofs.Closing
open Sys2Proof.Proofs.Following Sys2Proof.Proofs.Reports Sys2Proof.Proofs.Eventing Sys2Proof.Proofs.Choosing
open Sys2Proof.Proofs.Requesting Sys2Proof.Proofs.Resuming

/-! ### The recompute of the coils of a route (R97) -/

/-- A recompute of coils recomputes each of them once, however often it is named. -/
theorem recomputeAll_get (v : View) (l : List Coil) (w : Work) (c : Coil) : (recomputeAll v l w).image.coils.get c =
    if c ∈ l then recomputedCoil v w.toBlocks c else w.image.coils.get c := by
  induction l generalizing w with
  | nil => rfl
  | cons d l ih =>
    have frame := recompute_frame v w d
    have effective (q : Pos) : ((recompute v w d).image.claims.get q).effective = (w.image.claims.get q).effective := by
      rw [frame.2.2.2.1]
    rw [show recomputeAll v (d :: l) w = recomputeAll v l (recompute v w d) from rfl, ih]
    by_cases own : c = d
    · subst own
      have coil := recompute_own v w c
      obtain ⟨trip, frozen, commanded⟩ := recomputedCoil_record v w.toBlocks c
      have again : recomputedCoil v (recompute v w c).toBlocks c = recomputedCoil v w.toBlocks c := by
        have derived : derivedValue v (recompute v w c).toBlocks c = derivedValue v w.toBlocks c :=
          derivedValue_congr frame.2.2.2.2.2.1 effective (by rw [coil, trip]) (by rw [coil, frozen])
        rw [recomputedCoil, derived, coil, if_pos commanded.symm]
      rw [again, coil, ite_self, if_pos List.mem_cons_self]
    · rw [recomputedCoil_congr (w := w.toBlocks) frame.2.2.2.2.2.1 effective (recompute_other v w own), recompute_other v w own]
      simp only [List.mem_cons, own, false_or]

theorem outside_recomputeAll (own : Pos → Bool) (v : View) (l : List Coil) (w : Work) : Outside own w (recomputeAll v l w) := by
  obtain ⟨classifier, monitor, routes, claims, groups, source, gate, raised, heldWalk, waitingWalk, examineAll, examine, ended,
    -⟩ := recomputeAll_frame v l w
  exact {
    classifier := classifier
    contexts := fun _ _ => by rw [routes]
    held := by rw [routes]
    claims := fun _ _ => by rw [claims]
    holds := fun _ _ _ => by rw [routes]
    occupants := fun _ => by rw [routes]
    groups := fun _ => .inl (by rw [groups])
    keys := fun _ _ => by rw [gate]
    waiting := by rw [gate]
    examineAll := examineAll
    examine := fun _ _ => by rw [examine]
    ended := fun _ _ => by rw [ended]
    raised := ⟨[], by rw [raised, List.append_nil], by simp⟩ }

theorem outside_setClaims {own : Pos → Bool} {p : Pos} (o : own p = true) (c : ClaimLists) (w : Work) :
    Outside own w (w.setClaims p c) :=
  { Outside.refl own w with claims := fun q n => put_get_other _ _ fun e => by rw [e, o] at n; cases n }

section
variable {own : Pos → Bool} {p : Pos} (o : own p = true) (v : View) (w : Work)
include o

theorem outside_dropEffective : Outside own w (dropEffective v p w) :=
  ((outside_setClaims o _ w).trans (outside_recomputeAll own v _ _)).trans (outside_of_touches (touches_settleGroups p _ _) o)

theorem outside_effectClaims : Outside own w (effectClaims v p w) :=
  (outside_setClaims o _ w).trans (outside_recomputeAll own v _ _)

end

theorem dropEffective_coil (v : View) (p : Pos) (w : Work) (c : Coil) : (dropEffective v p w).image.coils.get c =
    if c ∈ (w.claims p).effective.map Claim.coil then
      recomputedCoil v (w.setClaims p { w.claims p with effective := [] }).toBlocks c else w.image.coils.get c := by
  have same : (dropEffective v p w).image.coils = (recomputeAll v ((w.claims p).effective.map Claim.coil)
      (w.setClaims p { w.claims p with effective := [] })).image.coils :=
    (settleGroups_frame _ _).2.2.2.2.2.1
  rw [same]
  exact recomputeAll_get ..

theorem effectClaims_coil (v : View) (p : Pos) (w : Work) (c : Coil) : (effectClaims v p w).image.coils.get c =
    if c ∈ (w.claims p).reserved.map Claim.coil then
      recomputedCoil v (w.setClaims p ⟨(w.claims p).reserved, []⟩).toBlocks c else w.image.coils.get c := recomputeAll_get ..

/-! ### The places of a position that moves (R39, R77, R78) -/

theorem touches_dropHolder (p : Pos) (a : Ant) (w : Work) : Touches p w (dropHolder p a w) := by
  refine touches_setAntenna (fun _ _ => rfl) ?_
  dsimp only
  rw [List.filter_filter]
  refine List.filter_congr fun o _ => ?_
  by_cases e : o.pos = p <;> simp [e]

theorem touches_reservationToHolder (p : Pos) (a : Ant) (w : Work) : Touches p w (reservationToHolder p a w) := by
  refine touches_setAntenna (fun _ _ => rfl) ?_
  dsimp only
  induction (w.antenna a).occupants with
  | nil => rfl
  | cons o l ih =>
    by_cases e : o.pos = p
    · simpa [e] using ih
    · simpa [e] using ih

/-- The places `l` on antenna `a` without the holding of `p`, when `a` is the antenna it leaves. -/
def vacated (p : Pos) (left : Option Ant) (a : Ant) (l : List Occupant) : List Occupant :=
  if left = some a then l.filter fun o => decide (o ≠ ⟨p, .holding⟩) else l

/-- The places `l` on antenna `a` with the reservation of `p` made a holding, when `a` is its target. -/
def occupied (p : Pos) (target : Option Ant) (a : Ant) (l : List Occupant) : List Occupant :=
  l.map fun o => if target = some a ∧ o = ⟨p, .reserving⟩ then ⟨p, .holding⟩ else o

theorem vacated_eq_placesLess (s : State) (p : Pos) (left : Option Ant) (a : Ant) :
    vacated p left a (s.antenna a).occupants = s.placesLess p .holding left a := rfl

theorem occupied_vacated_eq_placesAtMake (s : State) (p : Pos) (old target : Option Ant) (a : Ant) :
    occupied p target a (vacated p old a (s.antenna a).occupants) = s.placesAtMake p old target a := rfl

theorem vacated_none (p : Pos) (a : Ant) (l : List Occupant) : vacated p none a l = l := if_neg nofun

theorem dropHolder_occupants (p : Pos) (n : Ant) (w : Work) (a : Ant) :
    ((dropHolder p n w).routes.antennas.get a).occupants = vacated p (some n) a (w.routes.antennas.get a).occupants := by
  change ((put w.routes.antennas n _).get a).occupants = _
  rw [put_get, vacated]
  by_cases e : a = n
  · subst e
    simp only [if_true]
    refine List.filter_congr fun o _ => ?_
    obtain ⟨q, role⟩ := o
    by_cases own : q = p <;> simp [own]
  · simp [e, Ne.symm e]

theorem reservationToHolder_occupants (p : Pos) (n : Ant) (w : Work) (a : Ant) :
    ((reservationToHolder p n w).routes.antennas.get a).occupants =
      occupied p (some n) a (w.routes.antennas.get a).occupants := by
  change ((put w.routes.antennas n _).get a).occupants = _
  rw [put_get, occupied]
  by_cases e : a = n
  · subst e
    simp only [if_true]
    refine List.map_congr_left fun o _ => ?_
    obtain ⟨q, role⟩ := o
    by_cases own : q = p
    · cases role <;> simp [own]
    · simp [own]
  · simp [e, Ne.symm e]

theorem mem_occupied_iff {p : Pos} {a : Ant} {l : List Occupant} (h : (⟨p, .reserving⟩ : Occupant) ∈ l) :
    (⟨p, .holding⟩ : Occupant) ∈ occupied p (some a) a l ∧ (⟨p, .reserving⟩ : Occupant) ∉ occupied p (some a) a l := by
  refine ⟨List.mem_map.2 ⟨_, h, by simp⟩, fun m => ?_⟩
  obtain ⟨o, -, e⟩ := List.mem_map.1 m
  by_cases own : o = ⟨p, .reserving⟩
  · simp [own] at e
  · simp [own] at e

theorem mem_holders {r : AntennaRecord} {q : Pos} : q ∈ r.holders ↔ (⟨q, .holding⟩ : Occupant) ∈ r.occupants := by
  simp only [AntennaRecord.holders, List.mem_map, List.mem_filter]
  constructor
  · rintro ⟨⟨p, role⟩, ⟨mem, holds⟩, rfl⟩
    cases role with
    | holding => exact mem
    | reserving => simp at holds
  · exact fun mem => ⟨_, ⟨mem, by simp⟩, rfl⟩

/-! ### The event of a phase -/

/-- The work `w` of position `p` alone moves its transition on: nothing is withdrawn or raised, and a held walk is owed. -/
structure Moved (s : State) (p : Pos) (w : Work) : Prop where
  before : Outside (only p) (Work.start s.blocks) w
  monitor : w.monitor = s.blocks.monitor
  source : w.image.source = s.blocks.image.source
  gate : w.gate = s.blocks.gate
  held : w.routes.held = s.held
  raised : w.raised = []
  ended : w.ended = []
  waitingWalk : w.waitingWalk = false
  commitTold : w.commitTold = false
  heldWalk : w.heldWalk = true

theorem gateStage_of_same {v : View} {b : Blocks} {w : Work} (gate : w.gate = b.gate) (ended : w.ended = []) (raised : w.raised = [])
    (examineAll : w.examineAll = false) : GateStage v b w where
  waiting := by rw [gate]
  keys q := .inl (by rw [gate, ended]; exact ⟨rfl, List.not_mem_nil⟩)
  noAlls := by
    rw [raised]
    exact fun _ => List.not_mem_nil
  examineAll := examineAll

/-- The held walk changes no effective claim. -/
theorem heldWalkIfOwed_effective (v : View) (w : Work) (q : Pos) :
    ((heldWalkIfOwed v w).image.claims.get q).effective = (w.image.claims.get q).effective := by
  refine heldWalkIfOwed_induction (fun w' => (w'.image.claims.get q).effective = (w.image.claims.get q).effective) v w rfl id
    fun _ => ?_
  refine foldl_keeps (fun w' : Work => (w'.image.claims.get q).effective = (w.image.claims.get q).effective) (heldEntry v)
    (fun w' p h => ?_) _ w rfl
  have touches := touches_heldEntry v w' p
  by_cases own : q = p
  · subst own
    exact touches.effective.trans h
  · rw [touches.claims q own]
    exact h

/-- A transition that is not in WAIT stands through the close. -/
theorem Closed.context_of_running {s t : State} {w : Work} (c : Closed s t w) {q : Pos} {tr : Transition}
    (h : (w.routes.contexts.get q).transition = some tr) (running : tr.phase ≠ .wait) :
    t.context q = w.routes.contexts.get q := by
  have h : (w.context q).transition = some tr := h
  rw [c.context]
  unfold examinedContext
  rw [h]
  exact if_neg fun e => running e.1

section
variable {s : State} {p : Pos} {w : Work}

theorem Moved.stage (m : Moved s p w) : GateStage s.view s.blocks w :=
  gateStage_of_same m.gate m.ended m.raised m.before.examineAll

theorem Moved.act (m : Moved s p w) : ActEvent s (s.finish (close s.view w)) (only p) w (heldWalkIfOwed s.view w) [] where
  view := finish_view ..
  before := m.before
  behind := Outside.refl _ _
  gate := heldWalkIfOwed_gate m.stage
  blocks := (finish_frame s _).2.2.2.2.2.2.2.2.2.1
  noKeys _ hn := nomatch hn
  amid _ hn := nomatch hn
  reports := by
    rw [closeRaised, List.append_nil]
    exact reports_finish (fun _ => rfl) (noAlls_close (heldWalkIfOwed_gate m.stage))

theorem Moved.kept (m : Moved s p w) (out : p ∉ s.held) : KeptAt p w (heldWalkIfOwed s.view w) :=
  keptAt_walk_of_notMem s.view (m.held ▸ out)

/-- What an event that moves a transition on leaves beside its own position (R54). -/
structure LeftByMove (s t : State) (p : Pos) : Prop where
  only : blocksOnly s t
  heldWalked : reservedInTransition s → heldWalked s t p
  othersKept : othersKept s t (ownOrWalked s p True)
  walked : walkedIfWithdrawn s t
  key : p ∉ s.waiting → t.key p = s.key p
  classifier : t.blocks.classifier = s.blocks.classifier
  monitor : t.blocks.monitor = s.blocks.monitor
  source : t.source = s.source

theorem Moved.left (m : Moved s p w) (out : p ∉ s.held) (consistent : heldConsistent s) :
    LeftByMove s (s.finish (close s.view w)) p := by
  have e := m.act
  have c := e.closed
  have frame := heldWalkIfOwed_frame s.view w
  have others : s.held.filter (fun q => decide (q ≠ p)) = s.held :=
    List.filter_eq_self.2 fun q hq => decide_eq_true (p := q ≠ p) fun e => out (e ▸ hq)
  refine ⟨blocksOnly_finish s ((close_frame s.view w).2.2.2.2.2.2.trans m.commitTold), fun reserved => ?_,
    e.othersKept fun q o => o.imp of_decide_eq_true fun h => ⟨trivial, h.2⟩, ?_, fun notWaiting => ?_,
    c.classifier.trans (frame.1.trans m.before.classifier), c.monitor.trans (frame.2.1.trans m.monitor), ?_⟩
  · refine e.heldWalkedBy (OneWalk.walks ⟨consistent, reserved, ?_, fun h => absurd (m.held ▸ h) out⟩) m.heldWalk
    rw [m.held, others]
    exact List.sublist_append_left _ _
  · exact e.walkedIfWithdrawn (heldWalkIfOwed_walkOwed m.stage fun owed => by rw [m.waitingWalk] at owed; cases owed)
  · rw [c.key_of_notMem notWaiting, (m.kept out).key, m.gate]
  · rw [State.source, c.image, frame.2.2.2.1]
    exact m.source

theorem Moved.places (m : Moved s p w) (out : p ∉ s.held) {base : Ant → List Occupant}
    (h : ∀ a, (w.routes.antennas.get a).occupants = base a) : placesKept s (s.finish (close s.view w)) p base := by
  refine placesKeptBy_of_event m.act h fun a => ⟨[], (List.append_nil _).symm, by simp, ?_⟩
  have others : s.held.filter (fun q => !decide (q = p)) = s.held :=
    List.filter_eq_self.2 fun q hq => by simpa using fun e : q = p => out (e ▸ hq)
  rw [m.held, positions_own, List.map_nil, List.append_nil, others]
  exact List.sublist_append_left _ _

theorem Moved.coil (m : Moved s p w) (c : Coil) : (s.finish (close s.view w)).coil c = w.image.coils.get c := by
  rw [State.coil, m.act.closed.image, (heldWalkIfOwed_frame s.view w).2.2.2.2.1]

/-- A coil that the event recomputes over the work `mid` is recomputed (R97). -/
theorem Moved.recomputed (m : Moved s p w) {mid : Work} {c : Coil} (own : w.image.coils.get c = recomputedCoil s.view mid.toBlocks c)
    (coil : mid.image.coils.get c = s.coil c) (source : mid.image.source = s.source)
    (effective : ∀ q, (mid.image.claims.get q).effective = (w.image.claims.get q).effective) :
    recomputed s (s.finish (close s.view w)) c := by
  have closed := m.act.closed
  have final := (m.coil c).trans own
  obtain ⟨trip, frozen, -⟩ := recomputedCoil_record s.view mid.toBlocks c
  have derived : derivedValue s.view (s.finish (close s.view w)).blocks c = derivedValue s.view mid.toBlocks c := by
    refine derivedValue_congr ?_ (fun q => ?_) ?_ ?_
    · rw [source, closed.image, (heldWalkIfOwed_frame s.view w).2.2.2.1]
      exact m.source
    · rw [closed.image, heldWalkIfOwed_effective, effective]
    · rw [← trip]
      exact congrArg CoilRecord.trip final
    · rw [← frozen]
      exact congrArg CoilRecord.frozen final
  have view : (s.finish (close s.view w)).view = s.view := closed.view
  have bank : (s.finish (close s.view w)).bank = s.bank := closed.bank
  change (s.finish (close s.view w)).coil c = if derivedValue (s.finish (close s.view w)).view _ c = (s.coil c).commanded
    then s.coil c else { s.coil c with
      commanded := derivedValue (s.finish (close s.view w)).view _ c
      drive := derivedValue (s.finish (close s.view w)).view _ c
      blank := some (s.finish (close s.view w)).bank.timing.blankMs }
  rw [view, derived, final, bank, recomputedCoil, coil]
  rfl

end

/-! ### The start of BREAK (R76) -/

/-- The transition `tr` at the start of its BREAK, over these claims. -/
def breaking (b : Bank) (tr : Transition) (broken : List Claim) : Transition :=
  { tr with phase := .brk, due := false, quietTimer := none, phaseTimer := some b.timing.breakMs, broken := broken }

section
variable {s : State} {p : Pos} {tr : Transition}

theorem moved_beginBreak (s : State) (p : Pos) (tr : Transition) :
    Moved s p (beginBreak s.view p tr (Work.start s.blocks)) := by
  obtain ⟨-, monitor, -, held, source, gate, raised, waitingWalk, -, -, ended, -, commitTold⟩ :=
    beginBreak_frame s.view p tr (Work.start s.blocks)
  exact ⟨outside_owed (((outside_of_touches (touches_setContext p _ _) (decide_eq_true rfl)).trans
    (outside_dropEffective (decide_eq_true rfl) s.view _))) true, monitor, source, gate, held, raised, ended, waitingWalk,
    commitTold, rfl⟩

theorem beginBreak_context (s : State) (p : Pos) (tr : Transition) :
    (beginBreak s.view p tr (Work.start s.blocks)).routes.contexts.get p =
      { s.context p with transition := some (breaking s.bank tr (s.claims p).effective) } := by
  have routes := (dropEffective_frame s.view p ((Work.start s.blocks).setContext p { (Work.start s.blocks).context p with
    transition := some (breaking s.bank tr (s.claims p).effective) })).2.2.1
  exact (congrArg (fun r : Routes => r.contexts.get p) routes).trans (put_get_same _ _ _)

theorem beginBreak_claims (s : State) (p : Pos) (tr : Transition) :
    (beginBreak s.view p tr (Work.start s.blocks)).image.claims =
      put s.blocks.image.claims p { s.claims p with effective := [] } := dropEffective_claims ..

theorem beginBreak_coil (s : State) (p : Pos) (tr : Transition) (c : Coil) :
    (beginBreak s.view p tr (Work.start s.blocks)).image.coils.get c =
      if c ∈ (s.claims p).effective.map Claim.coil then recomputedCoil s.view
        (((Work.start s.blocks).setContext p { s.context p with transition := some (breaking s.bank tr (s.claims p).effective) }).setClaims p
          { s.claims p with effective := [] }).toBlocks c
      else s.coil c := dropEffective_coil ..

end

/-! ### The start of MAKE (R78) -/

/-- The transition `tr` at the start of its MAKE. -/
def making (b : Bank) (tr : Transition) : Transition :=
  { tr with phase := .make, due := false, quietTimer := none, phaseTimer := some b.timing.makeMs }

section
variable (v : View) (p : Pos) (tr : Transition) (a : Ant) (w : Work)

theorem outside_beginMake : Outside (only p) w (beginMake v p tr a w) :=
  outside_owed ((outside_of_touches ((touches_setContext p _ w).trans (touches_reservationToHolder p a _))
    (decide_eq_true rfl)).trans (outside_effectClaims (decide_eq_true rfl) v _)) true

theorem beginMake_context : (beginMake v p tr a w).routes.contexts.get p =
    { w.routes.contexts.get p with transition := some (making v.bank tr), antenna := some a } := by
  have effect := (effectClaims_frame v p (reservationToHolder p a (w.setContext p
    { w.context p with transition := some (making v.bank tr), antenna := some a }))).2.2.1
  have place := (reservationToHolder_frame p a (w.setContext p
    { w.context p with transition := some (making v.bank tr), antenna := some a })).2.2.1
  exact (congrArg (fun r : Routes => r.contexts.get p) effect).trans
    ((congrArg (fun c : Vector Context 6 => c.get p) place).trans (put_get_same _ _ _))

theorem beginMake_claims : (beginMake v p tr a w).image.claims =
    put w.image.claims p ⟨(w.image.claims.get p).reserved, []⟩ := by
  have image := (reservationToHolder_frame p a (w.setContext p
    { w.context p with transition := some (making v.bank tr), antenna := some a })).2.2.2.2.1
  exact (effectClaims_claims ..).trans
    (congrArg (fun i : CoilImage => put i.claims p ⟨(i.claims.get p).reserved, []⟩) image)

theorem beginMake_occupants (n : Ant) : ((beginMake v p tr a w).routes.antennas.get n).occupants =
    occupied p (some a) n (w.routes.antennas.get n).occupants := by
  have effect := (effectClaims_frame v p (reservationToHolder p a (w.setContext p
    { w.context p with transition := some (making v.bank tr), antenna := some a }))).2.2.1
  exact (congrArg (fun r : Routes => (r.antennas.get n).occupants) effect).trans (reservationToHolder_occupants ..)

/-- The work that the coils of a MAKE are recomputed over. -/
def beforeMake : Work :=
  (reservationToHolder p a (w.setContext p { w.context p with transition := some (making v.bank tr), antenna := some a })).setClaims
    p ⟨(w.image.claims.get p).reserved, []⟩

theorem beforeMake_image : (beforeMake v p tr a w).image =
    { w.image with claims := put w.image.claims p ⟨(w.image.claims.get p).reserved, []⟩ } := rfl

theorem beginMake_coil (c : Coil) : (beginMake v p tr a w).image.coils.get c =
    if c ∈ (w.image.claims.get p).reserved.map Claim.coil then recomputedCoil v (beforeMake v p tr a w).toBlocks c
    else w.image.coils.get c := effectClaims_coil ..

end

/-! ### What the start of MAKE leaves -/

/-- The holdings of an event whose places stand on `base` are those of `base`. -/
theorem mem_holders_of_placesKept {s t : State} {p : Pos} {base : Ant → List Occupant} (h : placesKept s t p base) {a : Ant} {q : Pos} :
    q ∈ (t.antenna a).holders ↔ (⟨q, .holding⟩ : Occupant) ∈ base a := by
  obtain ⟨⟨rest, joined⟩, reserving, -⟩ := h a
  rw [mem_holders, ← joined, List.mem_append, or_iff_left fun joins => ?_]
  rw [← joined, List.drop_left] at reserving
  exact nomatch reserving _ joins

theorem mem_vacated_reserving {p q : Pos} {old : Option Ant} {a : Ant} {l : List Occupant} :
    (⟨q, .reserving⟩ : Occupant) ∈ vacated p old a l ↔ (⟨q, .reserving⟩ : Occupant) ∈ l := by
  unfold vacated
  split <;> simp

/-- The work `w` that a MAKE of position `p` begins on: the position has left its old antenna, and nothing else has moved. -/
structure ReadyToMake (s : State) (p : Pos) (tr : Transition) (w : Work) : Prop where
  before : Outside (only p) (Work.start s.blocks) w
  monitor : w.monitor = s.blocks.monitor
  claims : w.image.claims = s.blocks.image.claims
  coils : w.image.coils = s.blocks.image.coils
  source : w.image.source = s.blocks.image.source
  gate : w.gate = s.blocks.gate
  held : w.routes.held = s.held
  raised : w.raised = []
  ended : w.ended = []
  waitingWalk : w.waitingWalk = false
  commitTold : w.commitTold = false
  places : ∀ a, (w.routes.antennas.get a).occupants = vacated p tr.old a (s.antenna a).occupants

/-- What the start of MAKE on antenna `a` leaves, the context apart (R78). -/
structure LeftByMake (s t : State) (p : Pos) (tr : Transition) (a : Ant) : Prop extends LeftByMove s t p where
  claims : t.claims p = ⟨(s.claims p).reserved, []⟩
  holds : p ∈ (s.antenna a).reservations → p ∈ (t.antenna a).holders ∧ p ∉ (t.antenna a).reservations
  places : placesKept s t p (s.placesAtMake p tr.old tr.target)
  coilsKept : ∀ c : Coil, (∀ k ∈ (s.claims p).reserved, k.coil ≠ c) → t.coil c = s.coil c
  recomputed : ∀ k ∈ (s.claims p).reserved, recomputed s t k.coil

section
variable {s : State} {p : Pos} {tr : Transition} {a : Ant} {w : Work}

theorem ReadyToMake.moved (r : ReadyToMake s p tr w) : Moved s p (beginMake s.view p tr a w) := by
  obtain ⟨-, monitor, held, -, source, gate, raised, waitingWalk, -, -, ended, -, commitTold⟩ := beginMake_frame s.view p tr a w
  exact ⟨r.before.trans (outside_beginMake ..), monitor.trans r.monitor, source.trans r.source, gate.trans r.gate,
    held.trans r.held, raised.trans r.raised, ended.trans r.ended, waitingWalk.trans r.waitingWalk,
    commitTold.trans r.commitTold, rfl⟩

theorem ReadyToMake.context (r : ReadyToMake s p tr w) (out : p ∉ s.held) :
    (s.finish (close s.view (beginMake s.view p tr a w))).context p =
      { w.routes.contexts.get p with transition := some (making s.bank tr), antenna := some a } := by
  have m : Moved s p (beginMake s.view p tr a w) := r.moved
  have kept := (m.kept out).context.trans (beginMake_context s.view p tr a w)
  rw [Closed.context_of_running m.act.closed (tr := making s.bank tr) (by rw [kept]; rfl) nofun, kept]
  rfl

theorem ReadyToMake.left (r : ReadyToMake s p tr w) (target : tr.target = some a) (out : p ∉ s.held)
    (consistent : heldConsistent s) : LeftByMake s (s.finish (close s.view (beginMake s.view p tr a w))) p tr a := by
  have m : Moved s p (beginMake s.view p tr a w) := r.moved
  have c := m.act.closed
  have claims := (beginMake_claims s.view p tr a w).trans (by rw [r.claims])
  have occupants (n : Ant) : ((beginMake s.view p tr a w).routes.antennas.get n).occupants = s.placesAtMake p tr.old tr.target n := by
    rw [beginMake_occupants, r.places, target]
    exact occupied_vacated_eq_placesAtMake ..
  have places := m.places out occupants
  have coil := beginMake_coil s.view p tr a w
  rw [r.claims] at coil
  refine ⟨m.left out consistent, ?_, fun reserves => ?_, places, fun d unclaimed => ?_, fun k hk => ?_⟩
  · rw [c.claims, (m.kept out).claims, claims]
    exact put_get_same _ _ _
  · have here : (⟨p, .holding⟩ : Occupant) ∈ s.placesAtMake p tr.old tr.target a ∧
        (⟨p, .reserving⟩ : Occupant) ∉ s.placesAtMake p tr.old tr.target a := by
      rw [← occupied_vacated_eq_placesAtMake, target]
      exact mem_occupied_iff (mem_vacated_reserving.2 (mem_reservations.1 reserves))
    refine ⟨(mem_holders_of_placesKept places).2 here.1, fun still => here.2 ?_⟩
    rw [c.antenna, mem_reservations, (m.kept out).places, occupants] at still
    exact still
  · rw [m.coil, coil, if_neg fun mem => (List.mem_map.1 mem).elim fun k hk => unclaimed k hk.1 hk.2, r.coils]
  · refine m.recomputed (mid := beforeMake s.view p tr a w) ?_ ?_ ?_ fun q => ?_
    · rw [coil, if_pos (List.mem_map_of_mem hk)]
    · rw [beforeMake_image]
      exact congrArg (fun c : Vector CoilRecord 64 => c.get k.coil) r.coils
    · rw [beforeMake_image]
      exact r.source
    · rw [beforeMake_image, beginMake_claims]

end

/-! ### DEPARTURE (R72) -/

theorem exec_departure {s : State} {p : Pos} {tr : Transition} (at' : (s.context p).transition = some tr)
    (wait : tr.phase = .wait) (due : tr.due = true) :
    exec (.departure p) s = .next (s.finish (close s.view (depart s.view p tr (Work.start s.blocks)))) := by
  have at' : (s.blocks.routes.contexts.get p).transition = some tr := at'
  have here : s.departure p = s.finish (close s.view (depart s.view p tr (Work.start s.blocks))) := by
    rw [State.departure, at']
    exact if_pos ⟨wait, due⟩
  exact congrArg Host.Outcome.next here

/-- An event that owes and tells nothing changes the blocks it names. -/
theorem finish_close_of_clean (s : State) {w : Work} (clean : Clean w) (quiet : w.raised = []) (told : w.commitTold = false) :
    s.finish (close s.view w) = { s with blocks := w.toBlocks } := by
  obtain ⟨blocks, raised⟩ := close_of_clean clean s.view
  have told : (close s.view w).commitTold = false := (close_frame s.view w).2.2.2.2.2.2.trans told
  rw [finish_of_untold s told, blocks, raised, quiet]
  simp only [List.foldl_nil]

/-- A departure that finds its transition not quiet takes the due mark away (R72). -/
theorem departure_unquiet {s : State} {p : Pos} {tr : Transition} (at' : (s.context p).transition = some tr)
    (wait : tr.phase = .wait) (due : tr.due = true) (loud : ¬ quietCondition s p tr) : exec (.departure p) s =
      .next (s.withContext p { s.context p with transition := some { tr with due := false } }) := by
  have stays : depart s.view p tr (Work.start s.blocks) =
      (Work.start s.blocks).setContext p { s.context p with transition := some { tr with due := false } } :=
    if_neg fun still => loud ((quiet_iff s p tr).1 still)
  rw [exec_departure at' wait due, stays,
    finish_close_of_clean s ⟨rfl, rfl, rfl, rfl, rfl, rfl, fun _ => List.not_mem_nil⟩ rfl rfl]
  rfl

theorem notMem_held_of_notHeld {s : State} {p : Pos} (consistent : heldConsistent s) (notHeld : notHeld (s.context p)) :
    p ∉ s.held := fun h => by
  obtain ⟨r, hr, held⟩ := (consistent.2 p).1.1 h
  exact nomatch held.symm.trans (notHeld r hr)

theorem readyToMake_start {s : State} {p : Pos} {tr : Transition} (fresh : tr.old = none) :
    ReadyToMake s p tr (Work.start s.blocks) :=
  ⟨Outside.refl _ _, rfl, rfl, rfl, rfl, rfl, rfl, rfl, rfl, rfl, rfl, fun _ => by rw [fresh, vacated_none]; rfl⟩

/-- Settles O22: a departure begins BREAK over the effective claims, or MAKE where no antenna is left. -/
theorem departureBeginsBreakOrMake : Obligations.DepartureBeginsBreakOrMake := by
  intro s p tr at' wait due consistent notHeld
  have out := notMem_held_of_notHeld consistent notHeld
  have run := exec_departure at' wait due
  refine ⟨departure_unquiet at' wait due, fun still o old => ?_, fun still fresh a target => ?_⟩
  · have still := (quiet_iff s p tr).2 still
    have departs : depart s.view p tr (Work.start s.blocks) = beginBreak s.view p tr (Work.start s.blocks) := by
      rw [depart, Option.mem_def.1 old]
      exact if_pos still
    rw [departs] at run
    have m := moved_beginBreak s p tr
    have c := m.act.closed
    have kept := (m.kept out).context.trans (beginBreak_context s p tr)
    have context := (Closed.context_of_running c (tr := breaking s.bank tr (s.claims p).effective) (by rw [kept]) nofun).trans kept
    have coil := beginBreak_coil s p tr
    obtain ⟨only, walk, others, walked, key, classifier, monitor, source⟩ := m.left out consistent
    refine ⟨_, run, only, context, ?_, m.places out fun n => ?_, fun d unclaimed => ?_, fun d claimed => ?_, walk, others, walked,
      key, classifier, monitor, source⟩
    · rw [c.claims, (m.kept out).claims, beginBreak_claims]
      exact put_get_same _ _ _
    · exact congrArg (fun v : Vector AntennaRecord 16 => (v.get n).occupants) (beginBreak_frame s.view p tr _).2.2.1
    · rw [m.coil, coil, if_neg fun mem => unclaimed (List.mem_map.1 mem)]
    · refine m.recomputed ((coil d).trans (if_pos (List.mem_map.2 claimed))) rfl rfl fun q => ?_
      rw [beginBreak_claims]
      rfl
  · have still := (quiet_iff s p tr).2 still
    have departs : depart s.view p tr (Work.start s.blocks) = beginMake s.view p tr a (Work.start s.blocks) := by
      rw [depart, fresh, Option.mem_def.1 target]
      exact if_pos still
    rw [departs] at run
    have r := readyToMake_start (s := s) (p := p) fresh
    obtain ⟨⟨only, walk, others, walked, key, classifier, monitor, source⟩, claims, holds, places, coils, recomputed⟩ :=
      r.left target out consistent
    exact ⟨_, run, only, r.context out, claims, holds, places, coils, recomputed, walk, others, walked, key, classifier,
      monitor, source⟩

end Sys2Proof.Proofs.Moving

/-!
SUPPORT. BREAK_EXPIRY, MAKE_EXPIRY and BLANK_EXPIRY as they are stated are refuted here (R51, R54). Of the position whose transition
ends they do not suppose that its reserved claims belong to a target, which `contextConsistent` says: then the start of its latched
request, behind the held walk, takes away claims that held back a HELD request in the walk.
-/
namespace Sys2Proof.Proofs.Stray
open Sys2Proof Sys2Proof.Machine

/-- A1, A2 and A3 can be selected; the path of P1 to A2 claims coil 4, that of P2 to A3 claims coil 5 ON. -/
def bank : Bank := { Bank.empty with
  positions := Vector.replicate 6 ⟨true, .link, .follow⟩
  antennas := Vector.replicate 16 ⟨true, 0xFFF, .exclusive, 2⟩
  paths := put (put Bank.empty.paths (pathIndex 0 1) ⟨true, [⟨4, true⟩]⟩) (pathIndex 1 2) ⟨true, [⟨5, true⟩]⟩ }

/-- P1 holds A1 and is in this transition with a request for A2 latched behind it; P2 has a HELD request for A3, which only the
reserved claim of P1 on coil 5 OFF keeps from it: a claim of no target. Coil 3 has this blank and this latch. -/
def stray (tr : Transition) (effective : List Claim) (blank : Timer) (latch : Latch) : State := { State.reset with
  station := { Station.reset .power with mode := .normal }
  supply := ⟨138, .good, true⟩
  banks := { Banks.reset with active := bank, staging := bank, valid := true }
  blocks := { State.reset.blocks with
    monitor := put State.reset.blocks.monitor 3 ⟨0, .normal, latch⟩
    routes := { State.reset.blocks.routes with
      contexts := put (put State.reset.blocks.routes.contexts 0
          ⟨.switching, some 0, some tr, some ⟨.antenna 1, .latched, .request⟩, .follow, [], false⟩) 1
        ⟨.idle, none, none, some ⟨.antenna 2, .held, .request⟩, .follow, [], false⟩
      antennas := put State.reset.blocks.routes.antennas 0 ⟨[⟨0, .holding⟩], PosSet.empty⟩
      held := [1] }
    image := { CoilImage.reset with
      source := .routing
      coils := put CoilImage.reset.coils 3 ⟨false, true, false, blank, true⟩
      claims := put CoilImage.reset.claims 0 ⟨effective, [⟨5, false⟩]⟩ } } }

/-- The release of P1 from A1, in BREAK. -/
def leaving : Transition := ⟨some 0, none, .release, .request, .brk, some 20, none, .routed, false, []⟩

/-- The transition of P1 to A1, in MAKE. -/
def arriving : Transition := ⟨none, some 0, .byPreference, .request, .make, some 20, none, .idle, false, []⟩

/-- The transition of P1 to A1, in CHECK. -/
def checking : Transition := { arriving with phase := .check, phaseTimer := none }

/-- What the refutations turn on: after the event the HELD request of P2 stands, though selection would find it its target. -/
def leftWaiting (t : State) : Prop := (1 : Pos) ∈ t.held ∧ selection t.view t.blocks 1 (.antenna 2) = .target (some 2)

/-- A held walk has looked at every held request that stands, so none of them would be selected (R54, R55). -/
theorem not_heldWalkedBy_of_leftWaiting {tr : Transition} {effective : List Claim} {blank : Timer} {latch : Latch}
    {t : State} {own : Pos → Bool} (other : own 1 = false) (view : t.view = (stray tr effective blank latch).view)
    (waiting : leftWaiting t) : ¬ heldWalkedBy (stray tr effective blank latch) t own := by
  rintro ⟨-, each⟩
  obtain ⟨-, stands, -⟩ := each 1 other (List.mem_singleton.2 rfl) ⟨.antenna 2, .held, .request⟩ rfl rfl
  obtain ⟨-, held⟩ := stands waiting.1
  rw [← view, waiting.2] at held
  cases held

theorem leaving_leftWaiting : ((stray leaving [] none .none).breakExpiry 0).view = (stray leaving [] none .none).view ∧
    leftWaiting ((stray leaving [] none .none).breakExpiry 0) :=
  ⟨rfl, by decide +kernel, by decide +kernel⟩

theorem arriving_leftWaiting : ((stray arriving [⟨3, true⟩] none .open).makeExpiry 0).view = (stray arriving [⟨3, true⟩] none .open).view ∧
    leftWaiting ((stray arriving [⟨3, true⟩] none .open).makeExpiry 0) :=
  ⟨rfl, by decide +kernel, by decide +kernel⟩

theorem checking_leftWaiting :
    ((stray checking [⟨3, true⟩] (some 10) .open).blankExpiry 3).view = (stray checking [⟨3, true⟩] (some 10) .open).view ∧
    leftWaiting ((stray checking [⟨3, true⟩] (some 10) .open).blankExpiry 3) :=
  ⟨rfl, by decide +kernel, by decide +kernel⟩

/-- Refutes O23: P1 ends its release, its latched request takes A2 and with it other reserved claims, and the HELD request of P2
is free behind the held walk. -/
theorem not_breakExpiryLeavesOldAntenna : ¬ Obligations.BreakExpiryLeavesOldAntenna := by
  intro h
  obtain ⟨-, ends⟩ := h (stray leaving [] none .none) 0 leaving 0 rfl rfl rfl rfl (by decide +kernel)
  obtain ⟨t, run, -, -, -, walked, -⟩ := ends rfl
  obtain rfl : (stray leaving [] none .none).breakExpiry 0 = t := Host.Outcome.next.inj run
  obtain ⟨view, waiting⟩ := leaving_leftWaiting
  exact not_heldWalkedBy_of_leftWaiting rfl view waiting (walked (by decide +kernel))

/-- Refutes O24: as O23, behind a CHECK that fails over a latched coil. -/
theorem not_makeExpiryChecks : ¬ Obligations.MakeExpiryChecks := by
  intro h
  obtain ⟨-, -, latched⟩ := h (stray arriving [⟨3, true⟩] none .open) 0 arriving rfl rfl rfl
  obtain ⟨-, fails⟩ := latched (by decide +kernel) rfl (by decide +kernel) (by decide +kernel) ⟨.antenna 1, .latched, .request⟩ rfl rfl
  obtain ⟨t, run, -, walked, -⟩ := fails (by decide +kernel)
  obtain rfl : (stray arriving [⟨3, true⟩] none .open).makeExpiry 0 = t := Host.Outcome.next.inj run
  obtain ⟨view, waiting⟩ := arriving_leftWaiting
  exact not_heldWalkedBy_of_leftWaiting rfl view waiting walked

/-- Refutes O27: as O24, where the blank of the latched coil is the last of the CHECK. -/
theorem not_blankExpiryExaminesAndEndsCheck : ¬ Obligations.BlankExpiryExaminesAndEndsCheck := by
  intro h
  obtain ⟨-, -, expires⟩ := h (stray checking [⟨3, true⟩] (some 10) .open) 3
  obtain ⟨t, run, -, -, -, -, -, -, -, -, -, -, -, walk, -⟩ := expires (by decide +kernel)
  obtain rfl : (stray checking [⟨3, true⟩] (some 10) .open).blankExpiry 3 = t := Host.Outcome.next.inj run
  obtain ⟨view, waiting⟩ := checking_leftWaiting
  obtain ⟨walked, -⟩ := walk (by decide +kernel) (by decide +kernel)
  exact not_heldWalkedBy_of_leftWaiting (by decide +kernel) view waiting (walked (by decide +kernel))

end Sys2Proof.Proofs.Stray

/-!
SUPPORT. What the events keep. A law of the operating blocks under a bank and a mode (`Law`) that the operations of an event keep
(`Keeps`) is kept by every event and every command: the composition of the operations is followed once, here, and each invariant is
proved by the operations alone.
-/
namespace Sys2Proof.Proofs.Keeping
open Sys2Proof Sys2Proof.Machine Sys2Proof.Proofs.Acting Sys2Proof.Proofs.Eventing Sys2Proof.Proofs.Choosing
open Sys2Proof.Proofs.Requesting Sys2Proof.Proofs.Moving

/-- A property of the operating blocks under the Active bank and the mode of the station. It may be relaxed for the positions whose
transition has ended in the event under way and whose latched request has not started yet (R81, steps 3 to 6). -/
abbrev Law := Bank → StationMode → (Pos → Prop) → Blocks → Prop

/-- No position is between the end of its transition and the start of its latched request. -/
abbrev nobody : Pos → Prop := fun _ => False

/-- The context of position `p` with its transition replaced. -/
def withTransition (w : Work) (p : Pos) (t : Transition) : Work := w.setContext p { w.context p with transition := some t }

/-- The end of the transitions in CHECK of the positions `ps`: each read and shed, and then all of them cleared (R80, R81). -/
def checksEnded (v : View) (ps : List Pos) (w : Work) : Work :=
  (ps.foldl (checkOutcome v) (w, [])).2.foldl clearTransition (ps.foldl (checkOutcome v) (w, [])).1

/-- A latch of coil `c` as it reaches the routes (R116, steps 1 and 2). -/
def latched (v : View) (c : Coil) (k : Latch) (w : Work) : Work :=
  positions.foldl (takeFault v c) (if k = .short then tripCoil v c (setLatch c k w) else setLatch c k w)

/-- Steps A to D of an apply (R160 to R163). -/
def applyAtoD (old : Bank) (v : View) (w : Work) : Work :=
  (applyD old v (applyC v (applyB v (applyA old v (keptRequests w.toBlocks) w))).1).1

/-- The operations that need nothing of the other positions keep the law `I`; `ok` holds of the causes of the requests. -/
structure KeepsOwn (I : Law) (ok : Cause → Prop) : Prop where
  request : ok .request
  follow : ok .follow
  slot : ∀ {b m e} {w : Blocks} {p : Pos} {r : PendingRequest}, I b m e w → (w.routes.contexts.get p).slot = some r → ok r.cause
  /-- no law reads the coils, the groups, the output source or the senses, and each one stands when a latch is cleared. -/
  frame : ∀ {b m e} {w w' : Blocks}, I b m e w → w'.classifier = w.classifier → w'.routes = w.routes →
    w'.image.claims = w.image.claims → w'.gate = w.gate →
    (∀ c, (w'.monitor.get c).latch ≠ .none → (w'.monitor.get c).latch = (w.monitor.get c).latch) → I b m e w'
  record : ∀ {v : View} {w : Work} {p : Pos} {r : ClassRecord}, r.entry = (w.record p).entry → I v.bank v.mode nobody w.toBlocks →
    I v.bank v.mode nobody (w.setRecord p r).toBlocks
  classify : ∀ {v : View} {w : Work} {p : Pos} (x : Option PlanIx), I v.bank v.mode nobody w.toBlocks →
    I v.bank v.mode nobody (recheck v p (w.setRecord p { w.record p with entry := x })).toBlocks
  mode : ∀ {b m} {w : Work} {p : Pos} (x : Mode), I b m nobody w.toBlocks →
    I b m nobody (w.setContext p { w.context p with mode := x }).toBlocks
  pop : ∀ {b m} {w : Work} {p : Pos} {a : Ant} {rest : List Ant}, (w.context p).history = a :: rest → I b m nobody w.toBlocks →
    I b m nobody (w.setContext p { w.context p with history := rest }).toBlocks
  keyUp : ∀ {v : View} {w : Work} {p : Pos}, I v.bank v.mode nobody w.toBlocks →
    I v.bank v.mode nobody (Machine.keyUp v p w).toBlocks
  tailEnd : ∀ {b m} {w : Work} {p : Pos}, I b m nobody w.toBlocks → I b m nobody (Machine.tailEnd p w).toBlocks
  keyWaitEnd : ∀ {b m} {w : Work} {p : Pos} {r : Reason}, (w.key p).state = .waiting r → I b m nobody w.toBlocks →
    I b m nobody (Machine.keyWaitEnd p w).toBlocks
  /-- the quiet wait timer and the due mark of a transition in WAIT are free. -/
  retime : ∀ {b m} {w : Work} {p : Pos} {t : Transition} (x : Timer) (y : Bool), (w.context p).transition = some t →
    t.phase = .wait → I b m nobody w.toBlocks → I b m nobody (withTransition w p { t with quietTimer := x, due := y }).toBlocks
  check : ∀ {b m} {w : Work} {p : Pos} {t : Transition}, (w.context p).transition = some t → t.phase = .make →
    I b m nobody w.toBlocks → I b m nobody (withTransition w p { t with phase := .check, phaseTimer := none }).toBlocks
  latch : ∀ {b m} {w : Work} {p : Pos} {t : Transition} {kind : RequestKind} {cause : Cause},
    (w.context p).transition = some t → ¬ (t.phase = .wait ∧ t.cause.forced = false) → ok cause → I b m nobody w.toBlocks →
    I b m nobody (placeLatched p kind cause w).toBlocks
  recause : ∀ {b m} {w : Work} {p : Pos} {t : Transition} {cause : Cause}, (w.context p).transition = some t →
    t.phase = .wait → t.cause.forced = false → ok cause → I b m nobody w.toBlocks →
    I b m nobody (withTransition w p { t with cause := cause }).toBlocks
  abandon : ∀ {v : View} {w : Work} {p : Pos} {t : Transition}, (w.context p).transition = some t → t.phase = .wait →
    t.cause.forced = false → I v.bank v.mode nobody w.toBlocks → I v.bank v.mode nobody (Machine.abandon v p w).toBlocks
  abandonHold : ∀ {v : View} {w : Work} {p : Pos} {t : Transition} {kind : RequestKind} {cause : Cause},
    (w.context p).transition = some t → t.phase = .wait → t.cause.forced = false → ok cause →
    ((Machine.abandon v p w).context p).transition = none → I v.bank v.mode nobody w.toBlocks →
    I v.bank v.mode nobody (placeHeld p kind cause (Machine.abandon v p w)).toBlocks
  abandonLatch : ∀ {v : View} {w : Work} {p : Pos} {t : Transition} {kind : RequestKind} {cause : Cause},
    (w.context p).transition = some t → t.phase = .wait → t.cause.forced = false → ok cause →
    ((Machine.abandon v p w).context p).transition ≠ none → I v.bank v.mode nobody w.toBlocks →
    I v.bank v.mode nobody (placeLatched p kind cause (Machine.abandon v p w)).toBlocks
  leaveToMake : ∀ {v : View} {w : Work} {p : Pos} {t : Transition} {a : Ant}, (w.context p).transition = some t →
    t.phase = .brk → t.target = some a → I v.bank v.mode nobody w.toBlocks →
    I v.bank v.mode nobody (Machine.beginMake v p t a (leaveOld p t w)).toBlocks
  leaveToEnd : ∀ {v : View} {w : Work} {p : Pos} {t : Transition} (n : RouteCause) (x : Bool),
    (w.context p).transition = some t → t.phase = .brk → t.target = none → I v.bank v.mode nobody w.toBlocks →
    I v.bank v.mode (fun q => q = p) (clearTransition (leaveOld p t w)
      ⟨p, if t.cause = .fault then .faulted else restState v.bank p, n, x⟩).toBlocks
  checksEnded : ∀ {v : View} {w : Work} {ps : List Pos}, ps.Nodup →
    (∀ p ∈ ps, ∃ t, (w.context p).transition = some t ∧ t.phase = .check) → I v.bank v.mode nobody w.toBlocks →
    I v.bank v.mode (fun q => q ∈ ps) (Keeping.checksEnded v ps w).toBlocks
  latched : ∀ {v : View} {w : Work} (c : Coil) (k : Latch), I v.bank v.mode nobody w.toBlocks →
    I v.bank v.mode nobody (Keeping.latched v c k w).toBlocks
  entry : ∀ {v : View} {w : Work}, I v.bank v.mode nobody w.toBlocks → I v.bank .failsafe nobody (entryBlocks v w).toBlocks
  resume : ∀ {b} {w : Blocks}, I b .failsafe nobody w → I b .normal nobody w

/-- The operations that a test over the other positions lets pass keep the law `I`, and so do the reset and the apply. -/
structure KeepsShared (I : Law) (ok : Cause → Prop) : Prop where
  keyDown : ∀ {v : View} {w : Work} {p : Pos}, (w.key p).state.acceptsDown = true → v.mode ≠ .starting →
    I v.bank v.mode nobody w.toBlocks → I v.bank v.mode nobody (Machine.keyDown v p w).toBlocks
  walkEntry : ∀ {v : View} {w : Work} {p : Pos}, I v.bank v.mode nobody w.toBlocks →
    I v.bank v.mode nobody (Machine.walkEntry v w p).toBlocks
  choose : ∀ {v : View} {w : Work} {p : Pos} {kind : RequestKind} {cause : Cause}, admission v p = none →
    (w.context p).transition = none → ok cause → I v.bank v.mode nobody w.toBlocks →
    I v.bank v.mode nobody (chosen v p kind cause (selection v (dropHeld p w).toBlocks p kind) (dropHeld p w)).toBlocks
  heldEntry : ∀ {v : View} {e} {w : Work} {p : Pos}, I v.bank v.mode e w.toBlocks →
    I v.bank v.mode e (Machine.heldEntry v w p).toBlocks
  startLatched : ∀ {v : View} {e} {w : Work} {p : Pos}, e p → I v.bank v.mode e w.toBlocks →
    I v.bank v.mode (fun q => e q ∧ q ≠ p) (Machine.startLatched v p w).1.toBlocks
  replace : ∀ {v : View} {w : Work} {p : Pos} {t : Transition} {kind : RequestKind} {cause : Cause} {a : Option Ant},
    (w.context p).transition = some t → t.phase = .wait → t.cause.forced = false → ok cause →
    selection v w.toBlocks p kind = .target a → a ≠ t.target → I v.bank v.mode nobody w.toBlocks →
    I v.bank v.mode nobody (replaceTarget v p t kind cause a w).toBlocks
  beginBreak : ∀ {v : View} {w : Work} {p : Pos} {t : Transition} {o : Ant}, (w.context p).transition = some t →
    t.phase = .wait → quiet v w.toBlocks p t = true → t.old = some o → I v.bank v.mode nobody w.toBlocks →
    I v.bank v.mode nobody (Machine.beginBreak v p t w).toBlocks
  beginMake : ∀ {v : View} {w : Work} {p : Pos} {t : Transition} {a : Ant}, (w.context p).transition = some t →
    t.phase = .wait → quiet v w.toBlocks p t = true → t.old = none → t.target = some a → I v.bank v.mode nobody w.toBlocks →
    I v.bank v.mode nobody (Machine.beginMake v p t a w).toBlocks
  reset : ∀ current, I Bank.empty .starting nobody (Blocks.reset current)
  apply : ∀ {old : Bank} {v : View} {w : Work}, (∀ p t, (w.context p).transition = some t → t.phase = .wait) →
    I old v.mode nobody w.toBlocks → I v.bank v.mode nobody (applyAtoD old v w).toBlocks

/-- The operations of the events keep the law `I`; `ok` holds of the causes of the requests. -/
structure Keeps (I : Law) (ok : Cause → Prop) : Prop extends KeepsOwn I ok, KeepsShared I ok

theorem law_of_blocks {I : Law} {b : Bank} {m : StationMode} {e : Pos → Prop} {w w' : Blocks} (same : w' = w) (h : I b m e w) :
    I b m e w' := same ▸ h

theorem law_raise {I : Law} {b : Bank} {m : StationMode} {e : Pos → Prop} {w : Work} (n : Raised) (h : I b m e w.toBlocks) :
    I b m e (w.raise n).toBlocks := h

theorem law_foldl {α : Type} {I : Law} {b : Bank} {m : StationMode} {e : Pos → Prop} {f : Work → α → Work}
    (step : ∀ {w : Work} (a : α), I b m e w.toBlocks → I b m e (f w a).toBlocks) (l : List α) {w : Work} (h : I b m e w.toBlocks) :
    I b m e (l.foldl f w).toBlocks :=
  foldl_keeps (fun w : Work => I b m e w.toBlocks) f (fun _ a => step a) l w h

theorem law_nobody {I : Law} {b : Bank} {m : StationMode} {w : Blocks} (h : I b m (fun q => q ∈ ([] : List Pos)) w) :
    I b m nobody w := by
  have none : (fun q : Pos => q ∈ ([] : List Pos)) = nobody := by
    funext q
    simp
  exact none ▸ h

/-- The ends of an event behind their clearing, the close and the notices apart. -/
def startedBehind (v : View) (l : List Ending) (removed : Bool) (w : Work) : Work :=
  l.foldl (commitReleaseFollow v) (startLatchedAll v l (heldWalkIfOwed v
    { l.foldl clearTransition w with commitTold := true, heldWalk := (l.foldl clearTransition w).heldWalk || removed })).1

theorem endTransitions_blocks (v : View) (x : Ending) (l : List Ending) (removed : Bool) (w : Work) :
    (endTransitions v (x :: l) removed w).toBlocks =
      (close v { startedBehind v (x :: l) removed w with waitingWalk := true }).toBlocks :=
  foldl_frame (fun w : Work => w.toBlocks) (fun w (e : Ending × Option Answer) => w.raise (.route e.1.pos e.1.notice e.2))
    (fun _ _ => rfl) _ _

theorem outside_failCheck {own : Pos → Bool} {p : Pos} (o : own p = true) (v : View) (t : Transition) (w : Work) :
    Outside own w (failCheck v p t w) := by
  have left : Outside own w (match t.target with
      | none => dropEffective v p w
      | some a => dropHolder p a (dropEffective v p w)) := by
    split
    · exact outside_dropEffective o v w
    · exact (outside_dropEffective o v w).trans (outside_of_touches (touches_dropHolder p _ _) o)
  exact left.trans (outside_of_touches (touches_setContext p _ _) o)

theorem checkOutcome_context (v : View) (r : Work × List Ending) (p q : Pos) (ne : q ≠ p) :
    (checkOutcome v r p).1.context q = r.1.context q := by
  unfold checkOutcome
  split
  · rfl
  · split
    · exact (outside_failCheck (own := only p) (decide_eq_true rfl) v _ r.1).contexts q (decide_eq_false ne)
    · rfl

/-- Each of the positions in CHECK gets its ending, in their order. -/
theorem checkOutcomes_pos (v : View) (ps : List Pos) (r : Work × List Ending) (nodup : ps.Nodup)
    (h : ∀ p ∈ ps, (r.1.context p).transition ≠ none) :
    (ps.foldl (checkOutcome v) r).2.map Ending.pos = r.2.map Ending.pos ++ ps := by
  induction ps generalizing r with
  | nil => exact (List.append_nil _).symm
  | cons p ps ih =>
    obtain ⟨later, nodup⟩ := List.nodup_cons.1 nodup
    have here : (checkOutcome v r p).2.map Ending.pos = r.2.map Ending.pos ++ [p] := by
      obtain ⟨t, at'⟩ := Option.ne_none_iff_exists'.1 (h p List.mem_cons_self)
      unfold checkOutcome
      rw [at']
      dsimp only
      split <;> simp
    rw [List.foldl_cons, ih _ nodup fun q hq => ?_, here, List.append_assoc, List.singleton_append]
    rw [checkOutcome_context v r p q fun e => later (e ▸ hq)]
    exact h q (List.mem_cons_of_mem _ hq)

/-- A CHECK that ends is one that runs (R79). -/
theorem checkEnds_transition {w : Work} {p : Pos} (h : checkEnds w.toBlocks p = true) :
    ∃ t, (w.context p).transition = some t ∧ t.phase = .check := by
  unfold checkEnds at h
  split at h
  · cases h
  · rename_i t at'
    rw [Bool.and_eq_true] at h
    exact ⟨t, at', of_decide_eq_true h.1⟩

/-- The causes of the requests that step A keeps are those of transitions no forced release started. -/
theorem keptRequests_cause {w : Blocks} {k : Kept} (h : k ∈ keptRequests w) : k.cause.forced = false := by
  obtain ⟨p, -, keeps⟩ := List.mem_filterMap.1 h
  unfold keptOf at keeps
  split at keeps
  · cases keeps
  · split at keeps
    · rename_i waits
      cases keeps
      exact waits.2
    · cases keeps

theorem applyBlocks_eq (old : Bank) (v : View) (level : SupplyLevel) (measured : Nat) (issuer : Option Pos) (w : Work) :
    ∃ (follows : List Pos) (released : Nat), applyBlocks old v level measured issuer w =
      applyG { v with supply := level } issuer released (applySupply { v with supply := level } v.supply measured
        (applyF old v (positions.foldl (reselect v follows (keptRequests w.toBlocks)) (applyAtoD old v w)))) :=
  ⟨_, _, rfl⟩

section
variable {I : Law} {ok : Cause → Prop} (K : Keeps I ok)
include K

/-! ### The walks and the close of an event -/

theorem kept_heldWalkIfOwed {v : View} {e : Pos → Prop} {w : Work} (h : I v.bank v.mode e w.toBlocks) :
    I v.bank v.mode e (heldWalkIfOwed v w).toBlocks :=
  Eventing.heldWalkIfOwed_induction (fun w => I v.bank v.mode e w.toBlocks) v w h id fun _ =>
    foldl_keeps (fun w : Work => I v.bank v.mode e w.toBlocks) (heldEntry v) (fun _ _ => K.heldEntry) _ w h

theorem kept_examineOne {v : View} {w : Work} {p : Pos} (h : I v.bank v.mode nobody w.toBlocks) :
    I v.bank v.mode nobody (examineOne v w p).toBlocks := by
  unfold examineOne
  split
  · exact h
  · rename_i t at'
    split
    · rename_i still
      exact K.retime t.quietTimer true at' still.1 h
    · exact h

theorem kept_examineOwed {v : View} {w : Work} (h : I v.bank v.mode nobody w.toBlocks) :
    I v.bank v.mode nobody (examineOwed v w).toBlocks := by
  have each := foldl_keeps (fun w : Work => I v.bank v.mode nobody w.toBlocks) (examineOne v) (fun _ _ => kept_examineOne K)
    positions w h
  generalize e : positions.foldl (examineOne v) w = w' at each
  rw [examineOwed, e]
  exact each

theorem kept_waitingWalkIfOwed {v : View} {w : Work} (h : I v.bank v.mode nobody w.toBlocks) :
    I v.bank v.mode nobody (waitingWalkIfOwed v w).toBlocks := by
  unfold waitingWalkIfOwed
  split
  · exact foldl_keeps (fun w : Work => I v.bank v.mode nobody w.toBlocks) (walkEntry v) (fun _ _ => K.walkEntry) _ w h
  · exact h

theorem kept_close {v : View} {w : Work} (h : I v.bank v.mode nobody w.toBlocks) : I v.bank v.mode nobody (close v w).toBlocks :=
  kept_waitingWalkIfOwed K (kept_examineOwed K (kept_heldWalkIfOwed K h))

omit K in
theorem kept_raiseAbandonFaults {b : Bank} {m : StationMode} {e : Pos → Prop} {w : Work} (h : I b m e w.toBlocks) :
    I b m e (raiseAbandonFaults w).toBlocks := law_of_blocks (Following.raiseAbandonFaults_blocks w) h

/-! ### Requests -/

theorem kept_takeInWait {v : View} {w : Work} {p : Pos} {t : Transition} {kind : RequestKind} {cause : Cause}
    (at' : (w.context p).transition = some t) (wait : t.phase = .wait) (unforced : t.cause.forced = false) (c : ok cause)
    (h : I v.bank v.mode nobody w.toBlocks) : I v.bank v.mode nobody (takeInWait v p t kind cause w).1.toBlocks := by
  unfold takeInWait
  split
  · exact h
  · rename_i a sel
    split
    · exact K.recause at' wait unforced c h
    · rename_i other
      exact K.replace at' wait unforced c sel other h
  · exact K.abandon at' wait unforced h
  · dsimp only
    split
    · rename_i none
      exact K.abandonHold at' wait unforced c none h
    · rename_i moving
      exact K.abandonLatch at' wait unforced c moving h

theorem kept_takeRequest {v : View} {w : Work} {p : Pos} {kind : RequestKind} {cause : Cause} (admitted : admission v p = none)
    (c : ok cause) (h : I v.bank v.mode nobody w.toBlocks) : I v.bank v.mode nobody (takeRequest v p kind cause w).1.toBlocks := by
  unfold takeRequest
  split
  · rename_i loose
    rw [actOnSelection_eq]
    exact K.choose admitted loose c h
  · rename_i t at'
    split
    · rename_i waits
      exact kept_takeInWait K at' waits.1 waits.2 c h
    · rename_i passed
      exact K.latch at' passed c h

theorem kept_requested {v : View} {w : Work} {p : Pos} {kind : RequestKind} {cause : Cause} (c : ok cause)
    (h : I v.bank v.mode nobody w.toBlocks) : I v.bank v.mode nobody (request v p kind cause w).1.toBlocks := by
  unfold request
  split
  · exact h
  · rename_i admitted
    exact kept_takeRequest K admitted c h

theorem kept_revertRequest {v : View} {w : Work} {p : Pos} (h : I v.bank v.mode nobody w.toBlocks) :
    I v.bank v.mode nobody (revertRequest v p w).1.toBlocks := by
  unfold revertRequest
  split
  · exact h
  · rename_i admitted
    split
    · exact h
    · rename_i a rest history
      exact kept_takeRequest K admitted K.request (K.pop history h)

theorem kept_closeRequest {v : View} {r : Work × Answer} (h : I v.bank v.mode nobody r.1.toBlocks) :
    I v.bank v.mode nobody (closeRequest v r).1.toBlocks := kept_raiseAbandonFaults (kept_close K h)

omit K in
theorem kept_raiseFollow {b : Bank} {m : StationMode} {e : Pos → Prop} {w : Work} {p : Pos} {answer : Answer} (h : I b m e w.toBlocks) :
    I b m e (raiseFollow p answer w).toBlocks := by
  unfold raiseFollow
  split <;> exact h

theorem kept_followRequest {v : View} {w : Work} {p : Pos} (h : I v.bank v.mode nobody w.toBlocks) :
    I v.bank v.mode nobody (followRequest v p w).toBlocks :=
  kept_raiseAbandonFaults (kept_raiseFollow (kept_close K (kept_requested K K.follow h)))

/-! ### The end of transitions (R77 to R82) -/

theorem kept_startLatchedAll {v : View} {l : List Ending} {w : Work} (nodup : (l.map Ending.pos).Nodup)
    (h : I v.bank v.mode (fun q => q ∈ l.map Ending.pos) w.toBlocks) :
    I v.bank v.mode nobody (startLatchedAll v l w).1.toBlocks := by
  induction l generalizing w with
  | nil =>
    have none : (fun q : Pos => q ∈ ([] : List Ending).map Ending.pos) = nobody := by
      funext q
      simp
    exact none ▸ h
  | cons x l ih =>
    obtain ⟨later, nodup⟩ := List.nodup_cons.1 nodup
    have rest : (fun q => q ∈ (x :: l).map Ending.pos ∧ q ≠ x.pos) = fun q => q ∈ l.map Ending.pos := by
      funext q
      refine propext ⟨fun ⟨mem, ne⟩ => (List.mem_cons.1 mem).resolve_left ne, fun mem => ⟨List.mem_cons_of_mem _ mem, ?_⟩⟩
      rintro rfl
      exact later mem
    exact ih nodup (rest ▸ K.startLatched (e := fun q => q ∈ (x :: l).map Ending.pos) List.mem_cons_self h)

theorem kept_commitReleaseFollow {v : View} {w : Work} {x : Ending} (h : I v.bank v.mode nobody w.toBlocks) :
    I v.bank v.mode nobody (commitReleaseFollow v w x).toBlocks := by
  unfold commitReleaseFollow
  dsimp only
  split
  · exact kept_raiseFollow (kept_requested K K.follow h)
  · exact h

theorem kept_endTransitions {v : View} {l : List Ending} {removed : Bool} {w : Work} (nodup : (l.map Ending.pos).Nodup)
    (h : I v.bank v.mode (fun q => q ∈ l.map Ending.pos) (l.foldl clearTransition w).toBlocks) :
    I v.bank v.mode nobody (endTransitions v l removed w).toBlocks := by
  cases l with
  | nil => exact law_nobody h
  | cons x l =>
    refine law_of_blocks (endTransitions_blocks v x l removed w) (kept_close K ?_)
    refine foldl_keeps (fun w : Work => I v.bank v.mode nobody w.toBlocks) (commitReleaseFollow v)
      (fun _ _ => kept_commitReleaseFollow K) _ _ ?_
    exact kept_startLatchedAll K nodup (kept_heldWalkIfOwed K h)

theorem kept_endChecks {v : View} {w : Work} {ps : List Pos} (nodup : ps.Nodup)
    (checks : ∀ p ∈ ps, ∃ t, (w.context p).transition = some t ∧ t.phase = .check) (h : I v.bank v.mode nobody w.toBlocks) :
    I v.bank v.mode nobody (endChecks v ps w).toBlocks := by
  have ends : (ps.foldl (checkOutcome v) (w, [])).2.map Ending.pos = ps :=
    checkOutcomes_pos v ps (w, []) nodup fun p hp none => by
      obtain ⟨t, at', -⟩ := checks p hp
      rw [none] at at'
      cases at'
  exact kept_endTransitions K (by rw [ends]; exact nodup) (by rw [ends]; exact K.checksEnded nodup checks h)

/-! ### The other work of the events -/

/-- Work that leaves the classifier, the routes, the claims and the gate, and sets no latch. -/
theorem kept_image {b : Bank} {m : StationMode} {e : Pos → Prop} {w w' : Work} (h : I b m e w.toBlocks)
    (classifier : w'.classifier = w.classifier) (monitor : w'.monitor = w.monitor) (routes : w'.routes = w.routes)
    (claims : w'.image.claims = w.image.claims) (gate : w'.gate = w.gate) : I b m e w'.toBlocks :=
  K.frame h classifier routes claims gate fun c _ => by rw [monitor]

theorem kept_recomputeAll {v : View} {b : Bank} {m : StationMode} {e : Pos → Prop} {l : List Coil} {w : Work}
    (h : I b m e w.toBlocks) : I b m e (recomputeAll v l w).toBlocks := by
  obtain ⟨classifier, monitor, routes, claims, groups, source, gate, -⟩ := recomputeAll_frame v l w
  exact kept_image K h classifier monitor routes claims gate

theorem kept_recordSense {v : View} {b : Bank} {m : StationMode} {e : Pos → Prop} {c : Coil} {current : Nat} {w : Work}
    (h : I b m e w.toBlocks) : I b m e (recordSense v c current w).toBlocks := by
  refine K.frame (w' := (recordSense v c current w).toBlocks) h rfl rfl rfl rfl fun d _ => ?_
  change ((put w.monitor c _).get d).latch = _
  rw [put_get]
  split
  · rename_i own
    subst own
    rfl
  · rfl

theorem kept_changeEntry {v : View} {p : Pos} {x : Option PlanIx} {w : Work} (h : I v.bank v.mode nobody w.toBlocks) :
    I v.bank v.mode nobody (changeEntry v p x w).toBlocks := by
  unfold changeEntry
  dsimp only
  split
  · exact h
  · have closed : I v.bank v.mode nobody
        (close v { recheck v p (w.setRecord p { w.record p with entry := x }) with waitingWalk := true }).toBlocks :=
      kept_close K (K.classify x h)
    split
    · exact kept_followRequest K closed
    · exact closed

theorem kept_takeReport {v : View} {p : Pos} {f : Nat} {w : Work} (h : I v.bank v.mode nobody w.toBlocks) :
    I v.bank v.mode nobody (takeReport v p f w).toBlocks := by
  have reported : I v.bank v.mode nobody (w.setRecord p { w.record p with frequency := some f }).toBlocks := K.record rfl h
  unfold takeReport
  dsimp only
  split
  · exact kept_changeEntry K reported
  · exact reported

theorem kept_drainEnd {v : View} {b : Bank} {m : StationMode} {st : Station} {w : Work} (h : I b m nobody w.toBlocks) :
    I b m nobody (drainEnd v st w).toBlocks := by
  unfold drainEnd
  split
  · exact law_raise _ (kept_recomputeAll K (kept_image K (w' := w.setSource .safe) h rfl rfl rfl rfl rfl))
  · exact h

theorem kept_examineCoil {v : View} {walk : Bool} {c : Coil} {w : Work} (h : I v.bank v.mode nobody w.toBlocks) :
    I v.bank v.mode nobody (examineCoil v walk c w).toBlocks := by
  unfold examineCoil
  split
  · exact h
  · rename_i k _
    have handed : I v.bank v.mode nobody (latched v c k w).toBlocks := K.latched c k h
    have walked : I v.bank v.mode nobody (if walk then heldWalkIfOwed v (latched v c k w) else latched v c k w).toBlocks := by
      split
      · exact kept_heldWalkIfOwed K handed
      · exact handed
    generalize e : (if walk then heldWalkIfOwed v (latched v c k w) else latched v c k w) = w' at walked
    have on : handOn v walk c k w = raiseLatch v c (w.senseOf c).latch k w' := by
      rw [← e, handOn, latched]
    rw [on, raiseLatch]
    split <;> exact walked

theorem kept_senseChange {v : View} {c : Coil} {current : Nat} {w : Work} (h : I v.bank v.mode nobody w.toBlocks) :
    I v.bank v.mode nobody (senseChange v c current w).toBlocks := by
  have recorded : I v.bank v.mode nobody (recordSense v c current w).toBlocks := kept_recordSense K h
  unfold senseChange
  dsimp only
  split
  · exact recorded
  · exact kept_examineCoil K recorded

theorem kept_endChecksOver {v : View} {c : Coil} {w : Work} (h : I v.bank v.mode nobody w.toBlocks) :
    I v.bank v.mode nobody (endChecksOver v c w).toBlocks := by
  unfold endChecksOver
  split
  · exact kept_close K h
  · rename_i p ps ending
    refine kept_endChecks K (ending ▸ (List.nodup_finRange 6).filter _) (fun q hq => ?_) h
    have ends : q ∈ checksEnding w.toBlocks c := ending ▸ hq
    have done := (List.mem_filter.1 ends).2
    rw [Bool.and_eq_true] at done
    exact checkEnds_transition done.2

theorem kept_blankEnd {v : View} {c : Coil} {w : Work} (h : I v.bank v.mode nobody w.toBlocks) :
    I v.bank v.mode nobody (blankEnd v c w).toBlocks :=
  kept_endChecksOver K (kept_examineCoil K (kept_image K
    (w' := w.setCoil c { w.coil c with blank := none }) h rfl rfl rfl rfl rfl))

theorem kept_depart {v : View} {p : Pos} {t : Transition} {w : Work} (at' : (w.context p).transition = some t)
    (wait : t.phase = .wait) (h : I v.bank v.mode nobody w.toBlocks) : I v.bank v.mode nobody (depart v p t w).toBlocks := by
  unfold depart
  split
  · rename_i still
    split
    · rename_i old
      exact K.beginBreak at' wait still old h
    · rename_i a old target
      exact K.beginMake at' wait still old target h
    · exact h
  · exact K.retime t.quietTimer false at' wait h

theorem kept_quietWaitEnd {v : View} {p : Pos} {t : Transition} {w : Work} (at' : (w.context p).transition = some t)
    (wait : t.phase = .wait) (h : I v.bank v.mode nobody w.toBlocks) :
    I v.bank v.mode nobody (quietWaitEnd v p t w).toBlocks := by
  unfold quietWaitEnd
  split
  · exact law_raise _ (K.retime (quietWait v) t.due at' wait h)
  · rename_i unforced
    exact kept_raiseAbandonFaults (law_raise _ (kept_close K (K.abandon at' wait (Bool.eq_false_iff.2 unforced) h)))

theorem kept_breakEnd {v : View} {p : Pos} {t : Transition} {w : Work} (at' : (w.context p).transition = some t)
    (brk : t.phase = .brk) (h : I v.bank v.mode nobody w.toBlocks) : I v.bank v.mode nobody (breakEnd v p t w).toBlocks := by
  unfold breakEnd
  dsimp only
  split
  · rename_i a target
    exact kept_close K (K.leaveToMake at' brk target h)
  · rename_i target
    have ended := K.leaveToEnd .released (decide (t.cause = .commit)) at' brk target h
    have own : (fun q : Pos => q = p) = fun q => q ∈ [p] := by
      funext q
      exact propext List.mem_singleton.symm
    rw [own] at ended
    exact kept_endTransitions K (List.nodup_singleton p) ended

theorem kept_makeEnd {v : View} {p : Pos} {t : Transition} {w : Work} (at' : (w.context p).transition = some t)
    (make : t.phase = .make) (h : I v.bank v.mode nobody w.toBlocks) : I v.bank v.mode nobody (makeEnd v p t w).toBlocks := by
  have checks : I v.bank v.mode nobody (withTransition w p { t with phase := .check, phaseTimer := none }).toBlocks :=
    K.check at' make h
  unfold makeEnd
  dsimp only
  split
  · rename_i done
    refine kept_endChecks K (List.nodup_singleton p) (fun q hq => ?_) checks
    obtain rfl := List.mem_singleton.1 hq
    exact checkEnds_transition done
  · exact checks

/-! ### Modes, clears and the apply -/

theorem kept_clearCoil {v : View} {b : Bank} {m : StationMode} {w : Work} {c : Coil} (h : I b m nobody w.toBlocks) :
    I b m nobody (clearCoil v w c).toBlocks := by
  have cleared : I b m nobody (setLatch c .none w).toBlocks := by
    refine K.frame (w' := (setLatch c .none w).toBlocks) h rfl rfl rfl rfl fun d set => ?_
    change ((put w.monitor c _).get d).latch ≠ .none at set
    change ((put w.monitor c _).get d).latch = _
    rw [put_get] at set ⊢
    split at set
    · exact absurd rfl set
    · rename_i other
      rw [if_neg other]
  unfold clearCoil
  split
  · split
    · exact kept_image K (w' := releaseTrip v c (setLatch c .none w)) cleared rfl rfl rfl rfl rfl
    · exact cleared
  · exact h

theorem kept_selectorChange {v : View} {b : Bank} {m : StationMode} {line : Selector} {w : Work} (h : I b m nobody w.toBlocks) :
    I b m nobody (selectorChange v line w).toBlocks := by
  unfold selectorChange
  split
  · exact kept_recomputeAll K h
  · exact h

theorem kept_resumeBlocks {v : View} {st : Station} {lp : Pos} {w : Work} (h : I v.bank v.mode nobody w.toBlocks) :
    I v.bank v.mode nobody (resumeBlocks v st lp w).toBlocks := by
  have modes : I v.bank v.mode nobody (positions.foldl (takeDefaultMode v.bank) w).toBlocks := law_foldl (fun _ => K.mode _) positions h
  unfold resumeBlocks
  refine law_foldl (fun _ h => ?_) positions (law_raise _ (kept_recomputeAll K (kept_image K
    (w' := (positions.foldl (takeDefaultMode v.bank) w).setSource .routing) modes rfl rfl rfl rfl rfl)))
  unfold resumeFollow
  split
  · exact kept_followRequest K h
  · exact h

theorem kept_reselect {v : View} {follows : List Pos} {kept : List Kept} (causes : ∀ k ∈ kept, ok k.cause) {w : Work} {p : Pos}
    (h : I v.bank v.mode nobody w.toBlocks) : I v.bank v.mode nobody (reselect v follows kept w p).toBlocks := by
  unfold reselect
  split
  · exact kept_raiseFollow (kept_requested K K.follow h)
  · split
    · exact h
    · rename_i k found
      have asked := kept_requested K (p := p) (kind := k.kind) (causes k (List.mem_of_find?_eq_some found)) h
      dsimp only
      rw [raiseKept]
      split <;> exact asked

theorem kept_applyF {old : Bank} {v : View} {w : Work} (h : I v.bank v.mode nobody w.toBlocks) :
    I v.bank v.mode nobody (applyF old v w).toBlocks := by
  unfold applyF
  exact law_foldl (fun _ => kept_examineCoil K) coils (law_foldl (fun _ => kept_recordSense K) coils (kept_recomputeAll K h))

omit K in
theorem kept_applySupply {v : View} {b : Bank} {m : StationMode} {before : SupplyLevel} {measured : Nat} {w : Work}
    (h : I b m nobody w.toBlocks) : I b m nobody (applySupply v before measured w).toBlocks := by
  unfold applySupply raiseSupply
  split
  · exact h
  · split <;> exact h

theorem kept_applyG {v : View} {level : SupplyLevel} {issuer : Option Pos} {released : Nat} {w : Work}
    (h : I v.bank v.mode nobody w.toBlocks) :
    I v.bank v.mode nobody (applyG { v with supply := level } issuer released w).toBlocks := by
  have closed := kept_close K (v := { v with supply := level })
    (w := { w with heldWalk := true, examineAll := true, waitingWalk := true }) h
  generalize e : close { v with supply := level } { w with heldWalk := true, examineAll := true, waitingWalk := true } = w' at closed
  rw [applyG, e]
  exact law_raise _ closed

theorem kept_applyBlocks (unforced : ∀ c : Cause, c.forced = false → ok c) {old : Bank} {v : View} {level : SupplyLevel}
    {measured : Nat} {issuer : Option Pos} {w : Work} (still : ∀ p t, (w.context p).transition = some t → t.phase = .wait)
    (h : I old v.mode nobody w.toBlocks) : I v.bank v.mode nobody (applyBlocks old v level measured issuer w).toBlocks := by
  have kept (k : Kept) (hk : k ∈ keptRequests w.toBlocks) : ok k.cause := unforced _ (keptRequests_cause hk)
  have begun : I v.bank v.mode nobody (applyAtoD old v w).toBlocks := K.apply still h
  obtain ⟨follows, released, eq⟩ := applyBlocks_eq old v level measured issuer w
  rw [eq]
  exact kept_applyG K (kept_applySupply (kept_applyF K (law_foldl (fun _ => kept_reselect K kept) positions begun)))

end

end Sys2Proof.Proofs.Keeping

/-!
SUPPORT. What the commands keep: a law of the operating blocks that the events keep (`Keeps`), with a law of the link ports that
the operations of a port keep (`KeepsPort`), is kept by every command but load completion, which takes the law of its own.
-/
namespace Sys2Proof.Proofs.Keeping
open Sys2Proof Sys2Proof.Machine Sys2Proof.Proofs.Choosing Sys2Proof.Proofs.Entries

/-- The operations of a link port keep the law `B` (R183 to R188, R201). -/
structure KeepsPort (B : Port → Prop) : Prop where
  deliver : ∀ {pt} (n : Notice), B pt → B (pt.deliver n)
  start : ∀ {pt}, B pt → B pt.start
  complete : ∀ {pt}, B pt → B pt.complete
  receive : ∀ {pt} (b : Byte), B pt → B (pt.receive b)
  discard : ∀ {pt}, B pt → B pt.discard
  take : ∀ {pt}, B pt → B { pt with inbound := pt.inbound.tail }
  reply : ∀ {pt} (r : Option Reply), B pt → B { pt with reply := r }
  cursor : ∀ {pt} (c : Option Cursor), B pt → B { pt with cursor := c }
  clear : ∀ {pt}, B pt → B { pt with discarded := 0, dropped := false }
  reset : B Port.reset

/-- The ports hold to the law `B`, and the blocks to the law `I` under the Active bank and the mode. -/
def Stands (I : Law) (B : Port → Prop) (s : State) : Prop :=
  (∀ lp, B (s.ports.get lp)) ∧ I s.banks.active s.station.mode nobody s.blocks

/-- The level an apply comes to (R165). -/
def appliedLevel (s : State) : SupplyLevel := nextLevel s.banks.staging.diagnostics s.supply.level s.supply.measured

/-- What the operating blocks read at an apply. -/
def applyView (s : State) : View := ⟨s.banks.staging, s.station.mode, s.supply.level, false, s.pins.sa, s.pins.sb⟩

theorem apply_eq (s : State) : s.apply = State.finish
    { s with
      banks := s.banks.applied
      supply := { s.supply with level := appliedLevel s }
      station := { s.station with
        failEntryDue := s.station.failEntryDue ||
          (decide (appliedLevel s ≠ s.supply.level) && decide (appliedLevel s = SupplyLevel.fail)) } }
    (applyBlocks s.banks.active (applyView s) (appliedLevel s) s.supply.measured s.banks.issuer (Work.start s.blocks)) := rfl

/-- What the operating blocks read at load completion. -/
def loadView (s : State) : View :=
  let bank := (loadedBanks s.store.image.loaded).active
  let level := freshLevel bank.diagnostics s.supply.measured
  ⟨bank, (loadedStation s.station s.store.image.loaded.isSome level).mode, level, false, s.pins.sa, s.pins.sb⟩

section
variable {I : Law} {ok : Cause → Prop} {B : Port → Prop}

/-- What a command leaves besides the ports, the Active bank, the mode and the blocks is free. -/
theorem Stands.same {s t : State} (h : Stands I B s) (ports : t.ports = s.ports) (bank : t.banks.active = s.banks.active)
    (mode : t.station.mode = s.station.mode) (blocks : t.blocks = s.blocks) : Stands I B t := by
  obtain ⟨ports', law⟩ := h
  exact ⟨by rwa [ports], by rwa [bank, mode, blocks]⟩

variable (P : KeepsPort B)
include P

theorem deliverOne_keeps {b : Bank} {w : Blocks} {ports : Vector Port 6} (h : ∀ lp, B (ports.get lp)) (n : Raised) :
    ∀ lp, B ((deliverOne b w ports n).get lp) := by
  have one (p : Pos) (n : Notice) (lp : Pos) : B ((put ports p ((ports.get p).deliver n)).get lp) := by
    rw [put_get]
    split
    · exact P.deliver n (h p)
    · exact h lp
  unfold deliverOne
  split
  · exact one _ _
  · exact one _ _
  · intro lp
    rw [ofFn_get]
    exact P.deliver _ (h lp)

/-- The end of an event keeps the laws that its work came to. -/
theorem stands_finish {s : State} {w : Work} (ports : ∀ lp, B (s.ports.get lp))
    (h : I s.banks.active s.station.mode nobody w.toBlocks) : Stands I B (s.finish w) := by
  have delivered : ∀ lp, B ((w.raised.foldl (deliverOne s.banks.active w.toBlocks) s.ports).get lp) :=
    foldl_keeps (fun ports : Vector Port 6 => ∀ lp, B (ports.get lp)) (deliverOne s.banks.active w.toBlocks)
      (fun _ n h => deliverOne_keeps P h n) _ _ ports
  unfold State.finish
  dsimp only
  split <;> exact ⟨delivered, h⟩

theorem stands_event {s : State} {f : View → Work → Work} (h : Stands I B s)
    (keeps : I s.view.bank s.view.mode nobody (Work.start s.blocks).toBlocks →
      I s.view.bank s.view.mode nobody (f s.view (Work.start s.blocks)).toBlocks) : Stands I B (s.event f) :=
  stands_finish P h.1 (keeps h.2)

omit P in
theorem stands_setPort {s : State} {lp : Pos} {pt : Port} (h : Stands I B s) (port : B pt) : Stands I B (s.setPort lp pt) := by
  refine ⟨fun q => ?_, h.2⟩
  change B ((put s.ports lp pt).get q)
  rw [put_get]
  split
  · exact port
  · exact h.1 q

/-! ### Frames (R186) -/

theorem stands_handle {s : State} {lp : Pos} {cls : Byte} {body : List Byte} {f : State → State × Result} (h : Stands I B s)
    (hf : ∀ u : State, Stands I B u → Stands I B (f u).1) : Stands I B (s.handle lp cls body f) := by
  unfold State.handle
  split
  · have taken : Stands I B (s.take lp) :=
      (stands_setPort (lp := lp) h (P.take (h.1 lp))).same rfl rfl rfl rfl
    have served := hf (s.take lp) taken
    exact stands_setPort served (P.reply _ (served.1 lp))
  · exact h

omit P in
theorem stands_oneByte {s : State} {body : List Byte} {f : Byte → State → State × Result} (h : Stands I B s)
    (hf : ∀ b, Stands I B (f b s).1) : Stands I B (oneByte body f s).1 := by
  unfold oneByte
  split
  · exact hf _
  · exact h

omit P in
theorem stands_emptyBody {s : State} {body : List Byte} {f : State → State × Result} (h : Stands I B s)
    (hf : Stands I B (f s).1) : Stands I B (emptyBody body f s).1 := by
  unfold emptyBody
  split
  · exact hf
  · exact h

omit P in
theorem stands_ite {c : Prop} [Decidable c] {t u : State} (ht : Stands I B t) (hu : Stands I B u) :
    Stands I B (if c then t else u) := by
  split
  · exact ht
  · exact hu

theorem stands_setCursor {s : State} {lp : Pos} {c : Option Cursor} (h : Stands I B s) : Stands I B (s.setCursor lp c) :=
  stands_setPort h (P.cursor c (h.1 lp))

theorem stands_select {s : State} {lp : Pos} {body : List Byte} (h : Stands I B s) : Stands I B (s.select lp body).1 := by
  unfold State.select
  split
  · split
    · split
      · exact stands_setCursor P h
      · exact h
    · exact h
  · exact h

theorem stands_write {s : State} {lp : Pos} {body : List Byte} (h : Stands I B s) : Stands I B (s.write lp body).1 := by
  unfold State.write
  split
  · exact h
  · split_ifs
    · exact h
    · exact h
    · exact h
    · split
      · exact h
      · exact stands_setCursor P (s := { s with banks := _ }) (h.same rfl rfl rfl rfl)
    · exact h

theorem stands_read {s : State} {lp : Pos} {count : Nat} (h : Stands I B s) : Stands I B (s.read lp count).1 := by
  unfold State.read
  split
  · split
    · exact h
    · exact stands_setCursor P h
  · exact h

theorem stands_query {s : State} {lp : Pos} {target : Byte} {body : List Byte} {f : State → Nat → Option (List Byte)}
    (h : Stands I B s) : Stands I B (s.query lp target body f).1 := by
  have unset : Stands I B (s.setCursor lp none) := stands_setCursor P h
  unfold State.query
  dsimp only
  split
  · split
    · split <;> exact unset
    · exact unset
  · exact unset

theorem stands_queryLink {s : State} {lp : Pos} {body : List Byte} (h : Stands I B s) : Stands I B (s.queryLink lp body).1 := by
  have asked : Stands I B (s.query lp 4 body fun s n => whenZero (s.linkBytes lp) n).1 := stands_query P h
  unfold State.queryLink
  dsimp only
  split
  · exact stands_setPort asked (P.clear (asked.1 lp))
  · exact asked

omit P in
theorem stands_commit {s : State} {lp : Pos} (h : Stands I B s) : Stands I B (s.commit lp).1 := by
  unfold State.commit
  split
  · exact h
  · split
    · exact h
    · dsimp only
      unfold State.testApply
      split <;> exact h.same rfl rfl rfl rfl

omit P in
theorem stands_discard {s : State} (h : Stands I B s) : Stands I B s.discard.1 := by
  unfold State.discard
  split
  · exact h
  · exact h.same rfl rfl rfl rfl

omit P in
theorem stands_storeRequest {s : State} {lp : Pos} (h : Stands I B s) : Stands I B (s.storeRequest lp).1 := by
  unfold State.storeRequest
  split
  · exact h.same rfl rfl rfl rfl
  · exact h

omit P in
theorem stands_restart {s : State} {lp : Pos} (h : Stands I B s) : Stands I B (s.restart lp).1 := by
  unfold State.restart
  split
  · exact h.same rfl rfl rfl rfl
  · exact h

omit P in
theorem stands_lineSet {s : State} {body : List Byte} (h : Stands I B s) : Stands I B (s.lineSet body).1 := by
  unfold State.lineSet
  split
  · split
    · exact h.same rfl rfl rfl rfl
    · exact h
  · exact h

omit P in
theorem loadedStation_mode (st : Station) (checks : Bool) (level : SupplyLevel) : (loadedStation st checks level).mode ≠ .starting := by
  unfold loadedStation
  dsimp only
  split <;> exact nofun

/-- Load completion keeps the laws when its blocks come to that of the blocks (R181). -/
theorem stands_loadCompletion {s : State} (h : Stands I B s)
    (load : s.station.mode = .starting → ∀ (v : View) (st : Station) (measured : Nat) (valid : Bool), v.mode ≠ .starting →
      I v.bank v.mode nobody (loadBlocks v st measured s.pins.keys valid (Work.start s.blocks)).toBlocks) :
    Stands I B s.loadCompletion := by
  unfold State.loadCompletion
  split
  · rename_i starts
    exact stands_finish P h.1 (load starts.2 (loadView s) _ _ _ (loadedStation_mode s.station _ _))
  · exact h

variable (K : Keeps I ok)
include K

omit K in
theorem stands_routing {s : State} {f : View → Work → Work × Answer} (h : Stands I B s)
    (keeps : I s.view.bank s.view.mode nobody (Work.start s.blocks).toBlocks →
      I s.view.bank s.view.mode nobody (f s.view (Work.start s.blocks)).1.toBlocks) : Stands I B (s.routing f).1 :=
  stands_finish P h.1 (keeps h.2)

theorem stands_request {s : State} {lp : Pos} {kind : RequestKind} {cause : Cause} (c : ok cause) (h : Stands I B s) :
    Stands I B (s.routing fun v w => closeRequest v (request v lp kind cause w)).1 :=
  stands_routing P h fun law => kept_closeRequest K (kept_requested K c law)

theorem stands_route {s : State} {lp : Pos} {b : Byte} (h : Stands I B s) : Stands I B (s.route lp b).1 := by
  unfold State.route
  split
  · exact h
  · exact stands_request P K K.request h

theorem stands_revert {s : State} {lp : Pos} (h : Stands I B s) : Stands I B (s.revert lp).1 :=
  stands_routing P h fun law => kept_closeRequest K (kept_revertRequest K law)

theorem stands_setMode {s : State} {lp : Pos} {x : Mode} (h : Stands I B s) : Stands I B (s.setMode lp x) :=
  stands_event P h fun law => K.mode x law

theorem stands_modeFollow {s : State} {lp : Pos} (h : Stands I B s) : Stands I B (s.modeFollow lp).1 := by
  have set : Stands I B (s.setMode lp .follow) := stands_setMode P K h
  unfold State.modeFollow
  split
  · exact h
  · dsimp only
    split
    · exact set
    · exact stands_request P K K.follow set

theorem stands_modeManual {s : State} {lp : Pos} (h : Stands I B s) : Stands I B (s.modeManual lp).1 := by
  unfold State.modeManual
  split
  · exact h
  · exact stands_setMode P K h

theorem stands_bandReport {s : State} {lp : Pos} {body : List Byte} (h : Stands I B s) : Stands I B (s.bandReport lp body).1 := by
  unfold State.bandReport
  split
  · exact stands_event P h fun law => kept_takeReport K law
  · exact h

theorem stands_clearNamed {s : State} {b : Byte} (h : Stands I B s) : Stands I B (s.clearNamed b).1 := by
  unfold State.clearNamed
  split
  · exact h
  · exact stands_event P h fun law => kept_clearCoil K law

theorem stands_clears (l : List Coil) {s : State} (h : Stands I B s) :
    Stands I B (s.event fun v w => l.foldl (clearCoil v) w) :=
  stands_event P h fun law => law_foldl (fun _ => kept_clearCoil K) l law

theorem stands_clearAll {s : State} (h : Stands I B s) : Stands I B s.clearAll.1 := by
  unfold State.clearAll
  dsimp only
  exact stands_clears P K coils h

/-! ### Modes (chapter 9) -/

theorem stands_raiseCause {s : State} {k : SafeCause} {w : Work} (h : Stands I B s)
    (law : I s.banks.active s.station.mode nobody w.toBlocks) : Stands I B (s.raiseCause k w) := by
  unfold State.raiseCause
  split
  · exact stands_finish P h.1 law
  · have entered : I s.banks.active .failsafe nobody (entryBlocks s.view w).toBlocks :=
      K.entry (v := s.view) law
    exact stands_finish P (s := { s with station := _ }) h.1 (law_raise _ entered)
  · unfold State.addCause
    split
    · exact stands_finish P h.1 law
    · exact stands_finish P (s := { s with station := _ }) h.1 (law_raise _ law)

theorem stands_forceSafe {s : State} (h : Stands I B s) : Stands I B s.forceSafe.1 := stands_raiseCause P K h h.2

theorem stands_resumeRequest {s : State} {lp : Pos} (h : Stands I B s) : Stands I B (s.resumeRequest lp).1 := by
  unfold State.resumeRequest
  split
  · exact h
  · rename_i taken
    have failsafe : s.station.mode = .failsafe := by
      by_contra other
      exact taken (by simp [State.resumeRefused, other])
    have resumed : I s.banks.active .normal nobody s.blocks := K.resume (failsafe ▸ h.2)
    exact stands_event P (s := { s with station := { s.station with mode := .normal, causes := CauseSet.empty } }) ⟨h.1, resumed⟩
      fun law => kept_resumeBlocks K law

theorem stands_applySupplyFailEntry {s : State} (h : Stands I B s) : Stands I B s.applySupplyFailEntry := by
  unfold State.applySupplyFailEntry
  split
  · exact stands_raiseCause P K (s := { s with station := _ }) (h.same rfl rfl rfl rfl) h.2
  · exact h

theorem stands_levelChanged {s : State} {before : SupplyLevel} (h : Stands I B s) : Stands I B (s.levelChanged before) := by
  have told : I s.view.bank s.view.mode nobody
      (raiseSupply s.banks.active before s.supply.level s.supply.measured (Work.start s.blocks)).toBlocks := by
    unfold raiseSupply
    split <;> exact h.2
  have leveled : I s.view.bank s.view.mode nobody (levelEffects s.view
      (raiseSupply s.banks.active before s.supply.level s.supply.measured (Work.start s.blocks))).toBlocks := by
    unfold levelEffects
    split
    · exact kept_close K told
    · exact told
    · exact told
  unfold State.levelChanged
  dsimp only
  split
  · exact stands_raiseCause P K h told
  · exact stands_finish P h.1 leveled
  · exact stands_finish P h.1 leveled

theorem stands_supplyEvent {s : State} {tenths : Nat} (h : Stands I B s) : Stands I B (s.supplyEvent tenths) := by
  have supplied (level : SupplyLevel) (x : Bool) : Stands I B (s.withSupply tenths level x) := h.same rfl rfl rfl rfl
  unfold State.supplyEvent
  dsimp only
  split
  · exact supplied _ _
  · split
    · exact supplied _ _
    all_goals
      split
      · exact supplied _ _
      · exact stands_levelChanged P K (supplied _ _)

/-! ### Keys, coils and transitions -/

theorem stands_keyDown {s : State} {p : Pos} (h : Stands I B s) : Stands I B (s.keyDown p) := by
  unfold State.keyDown
  split
  · exact h
  · dsimp only
    have pinned : Stands I B { s with pins := s.pins.withKey p true } := h.same rfl rfl rfl rfl
    split
    · rename_i taken
      rw [Bool.and_eq_true] at taken
      refine stands_event P pinned fun law => K.keyDown taken.2 ?_ law
      have keyed := taken.1
      rw [State.keyed, Bool.and_eq_true] at keyed
      exact of_decide_eq_true keyed.2
    · exact pinned

theorem stands_keyUp {s : State} {p : Pos} (h : Stands I B s) : Stands I B (s.keyUp p) := by
  unfold State.keyUp
  split
  · dsimp only
    have pinned : Stands I B { s with pins := s.pins.withKey p false } := h.same rfl rfl rfl rfl
    split
    · exact stands_event P pinned fun law => kept_close K (K.keyUp law)
    · exact pinned
  · exact h

theorem stands_tailExpiry {s : State} {p : Pos} (h : Stands I B s) : Stands I B (s.tailExpiry p) := by
  unfold State.tailExpiry
  split
  · exact h
  · exact stands_event P h fun law => kept_drainEnd K (kept_close K (K.tailEnd law))

theorem stands_keyWaitExpiry {s : State} {p : Pos} (h : Stands I B s) : Stands I B (s.keyWaitExpiry p) := by
  unfold State.keyWaitExpiry
  split
  · rename_i waiting
    exact stands_event P h fun law => K.keyWaitEnd waiting law
  · exact h

theorem stands_senseEvent {s : State} {c : Coil} {current : Nat} (h : Stands I B s) : Stands I B (s.senseEvent c current) := by
  unfold State.senseEvent
  split
  · refine ⟨h.1, K.frame h.2 rfl rfl rfl rfl fun d _ => ?_⟩
    dsimp only
    rw [put_get]
    split
    · rename_i own
      rw [own]
    · rfl
  · exact stands_event P h fun law => kept_close K (kept_senseChange K law)

theorem stands_blankExpiry {s : State} {c : Coil} (h : Stands I B s) : Stands I B (s.blankExpiry c) := by
  unfold State.blankExpiry
  split
  · exact h
  · exact stands_event P h fun law => kept_blankEnd K law

theorem stands_selectorLineChange {s : State} {line : Selector} {level : Bool} (h : Stands I B s) :
    Stands I B (s.selectorLineChange line level) := by
  unfold State.selectorLineChange
  split
  · exact h
  · exact stands_event P (s := { s with pins := s.pins.withSelector line level }) (h.same rfl rfl rfl rfl) fun law =>
      kept_selectorChange K law

theorem stands_settleExpiry {s : State} {p : Pos} (h : Stands I B s) : Stands I B (s.settleExpiry p) := by
  unfold State.settleExpiry
  split
  · exact h
  · exact stands_event P h fun law => kept_changeEntry K (K.record rfl law)

theorem stands_positionLineChange {s : State} {p : Pos} {k : LineNo} {level : Bool} (h : Stands I B s) :
    Stands I B (s.positionLineChange p k level) := by
  unfold State.positionLineChange
  split
  · exact h
  · dsimp only
    have pinned : Stands I B { s with pins := s.pins.withLine p k level } := h.same rfl rfl rfl rfl
    split
    · exact pinned
    · exact stands_event P pinned fun law => K.record rfl law

theorem stands_quietWaitExpiry {s : State} {p : Pos} (h : Stands I B s) : Stands I B (s.quietWaitExpiry p) := by
  unfold State.quietWaitExpiry
  split
  · exact h
  · rename_i t at'
    split
    · rename_i waits
      exact stands_event P h fun law => kept_quietWaitEnd K at' waits.1 law
    · exact h

theorem stands_departure {s : State} {p : Pos} (h : Stands I B s) : Stands I B (s.departure p) := by
  unfold State.departure
  split
  · exact h
  · rename_i t at'
    split
    · rename_i waits
      exact stands_event P h fun law => kept_close K (kept_depart K at' waits.1 law)
    · exact h

theorem stands_breakExpiry {s : State} {p : Pos} (h : Stands I B s) : Stands I B (s.breakExpiry p) := by
  unfold State.breakExpiry
  split
  · exact h
  · rename_i t at'
    split
    · rename_i breaks
      exact stands_event P h fun law => kept_breakEnd K at' breaks.1 law
    · exact h

theorem stands_makeExpiry {s : State} {p : Pos} (h : Stands I B s) : Stands I B (s.makeExpiry p) := by
  unfold State.makeExpiry
  split
  · exact h
  · rename_i t at'
    split
    · rename_i makes
      exact stands_event P h fun law => kept_makeEnd K at' makes.1 law
    · exact h

/-! ### Commits, stores and resets -/

theorem stands_commitTimerExpiry {s : State} (h : Stands I B s) : Stands I B s.commitTimerExpiry := by
  unfold State.commitTimerExpiry
  split
  · exact stands_event P (s := { s with banks := s.banks.abandoned }) (h.same rfl rfl rfl rfl) fun law => kept_close K law
  · exact h

theorem stands_apply (unforced : ∀ c : Cause, c.forced = false → ok c) {s : State}
    (still : ∀ p : Pos, ∀ tr ∈ (s.context p).transition, tr.phase = .wait) (h : Stands I B s) : Stands I B s.apply := by
  have applied := kept_applyBlocks K unforced (w := Work.start s.blocks) (v := applyView s) (level := appliedLevel s) (measured := s.supply.measured)
    (issuer := s.banks.issuer) still h.2
  generalize e : applyBlocks s.banks.active (applyView s) (appliedLevel s) s.supply.measured s.banks.issuer (Work.start s.blocks) = w
    at applied
  rw [apply_eq, e]
  exact stands_finish P h.1 applied

theorem stands_commitApply (unforced : ∀ c : Cause, c.forced = false → ok c) {s : State} (h : Stands I B s) :
    Stands I B s.commitApply := by
  unfold State.commitApply
  split
  · dsimp only
    have due : Stands I B { s with banks := { s.banks with due := false } } := h.same rfl rfl rfl rfl
    split
    · rename_i ready
      obtain ⟨-, -, still⟩ := (applyReady_iff _).2 ready
      exact stands_apply P K unforced still due
    · exact due
  · exact h

theorem stands_reset {s : State} (cause : StartCause) : Stands I B (s.atReset cause) := by
  refine ⟨fun lp => ?_, K.reset _⟩
  change B ((Vector.replicate 6 Port.reset).get lp)
  rw [replicate_get]
  exact P.reset

theorem stands_restartReset {s : State} {straps : Straps} : Stands I B (s.restartReset straps) :=
  (stands_reset P K (s := s) .command).same rfl rfl rfl rfl

theorem stands_powerOn {s : State} {resetLow : Bool} {straps : Straps} : Stands I B (s.powerOn resetLow straps) := by
  have reset := stands_reset P K (s := s) .power
  unfold State.powerOn
  dsimp only
  split <;> exact reset.same rfl rfl rfl rfl

theorem stands_resetLineLow {s : State} (h : Stands I B s) : Stands I B s.resetLineLow := by
  unfold State.resetLineLow
  split
  · exact h
  · exact (stands_reset P K (s := s) .line).same rfl rfl rfl rfl

omit P K in
theorem stands_resetLineHigh {s : State} {straps : Straps} (h : Stands I B s) : Stands I B (s.resetLineHigh straps) := by
  unfold State.resetLineHigh
  split
  · exact h.same rfl rfl rfl rfl
  · exact h

theorem stands_storeCompletion {s : State} {verified : Bool} {straps : Straps} (h : Stands I B s) :
    Stands I B (s.storeCompletion verified straps) := by
  unfold State.storeCompletion
  split
  · exact h
  · rename_i taken lp _
    dsimp only
    split
    · exact stands_restartReset P K
    · unfold State.storeDone
      refine stands_event P (s := { s with store := _, station := { s.station with storeFlag := _ } })
        (h.same rfl rfl rfl rfl) fun law => ?_
      dsimp only
      split <;> exact law

theorem stands_transmitCompletion {s : State} {lp : Pos} {straps : Straps} (h : Stands I B s) :
    Stands I B (s.transmitCompletion lp straps) := by
  have sent : Stands I B (s.setPort lp (s.ports.get lp).complete) := stands_setPort h (P.complete (h.1 lp))
  unfold State.transmitCompletion
  dsimp only
  split
  · unfold State.restartReplySent
    split
    · exact stands_restartReset P K
    · exact sent.same rfl rfl rfl rfl
  · exact sent

/-! ### Every command -/

/-- Every command keeps a law of the operating blocks that the events keep, and a law of the ports that their operations keep; load
completion has to keep them by itself. -/
theorem exec_keeps (unforced : ∀ c : Cause, c.forced = false → ok c) (c : Instr) {s : State} (h : Stands I B s)
    (load : Stands I B s.loadCompletion) : ∃ t, exec c s = .next t ∧ Stands I B t := by
  cases c
  case byteReceived lp data =>
    exact ⟨_, rfl, stands_ite (stands_setPort h (P.receive data (h.1 lp))) h⟩
  case gapTimerExpiry lp =>
    refine ⟨_, rfl, ?_⟩
    unfold State.gapTimerExpiry
    split
    · exact h
    · exact stands_setPort h (P.discard (h.1 lp))
  case transmitStart lp =>
    exact ⟨_, rfl, stands_setPort h (P.start (h.1 lp))⟩
  case transmitCompletion lp straps =>
    exact ⟨_, rfl, stands_transmitCompletion P K h⟩
  case unknownClass lp cls body =>
    exact ⟨_, rfl, stands_ite h (stands_handle P h fun _ h => h)⟩
  case bandReport lp body =>
    exact ⟨_, rfl, stands_handle P h fun _ h => stands_bandReport P K h⟩
  case route lp body =>
    exact ⟨_, rfl, stands_handle P h fun _ h => stands_oneByte h fun _ => stands_route P K h⟩
  case revert lp body =>
    exact ⟨_, rfl, stands_handle P h fun _ h => stands_emptyBody h (stands_revert P K h)⟩
  case release lp body =>
    exact ⟨_, rfl, stands_handle P h fun _ h => stands_emptyBody h (stands_request P K K.request h)⟩
  case modeFollow lp body =>
    exact ⟨_, rfl, stands_ite (stands_handle P h fun _ h => stands_oneByte h fun _ => stands_modeFollow P K h) h⟩
  case modeManual lp body =>
    refine ⟨_, rfl, stands_ite h (stands_handle P h fun _ h => stands_oneByte h fun _ => ?_)⟩
    split
    · exact stands_modeManual P K h
    · exact h
  case select lp body =>
    exact ⟨_, rfl, stands_handle P h fun _ h => stands_select P h⟩
  case write lp body =>
    exact ⟨_, rfl, stands_handle P h fun _ h => stands_write P h⟩
  case read lp body =>
    exact ⟨_, rfl, stands_handle P h fun _ h => stands_oneByte h fun _ => stands_read P h⟩
  case queryPosition lp body =>
    exact ⟨_, rfl, stands_ite (stands_handle P h fun _ h => stands_query P h) h⟩
  case queryAntenna lp body =>
    exact ⟨_, rfl, stands_ite (stands_handle P h fun _ h => stands_query P h) h⟩
  case queryStation lp body =>
    exact ⟨_, rfl, stands_ite (stands_handle P h fun _ h => stands_query P h) h⟩
  case queryLink lp body =>
    exact ⟨_, rfl, stands_ite (stands_handle P h fun _ h => stands_queryLink P h) h⟩
  case queryLines lp body =>
    exact ⟨_, rfl, stands_ite (stands_handle P h fun _ h => stands_query P h) h⟩
  case queryCoil lp body =>
    exact ⟨_, rfl, stands_ite (stands_handle P h fun _ h => stands_query P h) h⟩
  case commit lp body =>
    exact ⟨_, rfl, stands_handle P h fun _ h => stands_emptyBody h (stands_commit h)⟩
  case discard lp body =>
    exact ⟨_, rfl, stands_handle P h fun _ h => stands_emptyBody h (stands_discard h)⟩
  case store lp body =>
    exact ⟨_, rfl, stands_handle P h fun _ h => stands_emptyBody h (stands_storeRequest h)⟩
  case clearFault lp body =>
    exact ⟨_, rfl, stands_ite h (stands_handle P h fun _ h => stands_oneByte h fun _ => stands_clearNamed P K h)⟩
  case clearFaultAll lp body =>
    exact ⟨_, rfl, stands_ite (stands_handle P h fun _ h => stands_clearAll P K h) h⟩
  case resume lp body =>
    exact ⟨_, rfl, stands_handle P h fun _ h => stands_emptyBody h (stands_resumeRequest P K h)⟩
  case forceSafe lp body =>
    exact ⟨_, rfl, stands_handle P h fun _ h => stands_emptyBody h (stands_forceSafe P K h)⟩
  case restart lp body =>
    exact ⟨_, rfl, stands_handle P h fun _ h => stands_emptyBody h (stands_restart h)⟩
  case lineSet lp body =>
    exact ⟨_, rfl, stands_handle P h fun _ h => stands_lineSet h⟩
  case keyDown p => exact ⟨_, rfl, stands_keyDown P K h⟩
  case keyUp p => exact ⟨_, rfl, stands_keyUp P K h⟩
  case positionLineChange p k level => exact ⟨_, rfl, stands_positionLineChange P K h⟩
  case selectorLineChange line level => exact ⟨_, rfl, stands_selectorLineChange P K h⟩
  case senseEvent c current => exact ⟨_, rfl, stands_senseEvent P K h⟩
  case supplyEvent tenths => exact ⟨_, rfl, stands_supplyEvent P K h⟩
  case powerOn resetLow straps => exact ⟨_, rfl, stands_powerOn P K⟩
  case resetLineLow => exact ⟨_, rfl, stands_resetLineLow P K h⟩
  case resetLineHigh straps => exact ⟨_, rfl, stands_resetLineHigh h⟩
  case loadCompletion => exact ⟨_, rfl, load⟩
  case settleExpiry p => exact ⟨_, rfl, stands_settleExpiry P K h⟩
  case quietWaitExpiry p => exact ⟨_, rfl, stands_quietWaitExpiry P K h⟩
  case departure p => exact ⟨_, rfl, stands_departure P K h⟩
  case breakExpiry p => exact ⟨_, rfl, stands_breakExpiry P K h⟩
  case makeExpiry p => exact ⟨_, rfl, stands_makeExpiry P K h⟩
  case blankExpiry c => exact ⟨_, rfl, stands_blankExpiry P K h⟩
  case tailExpiry p => exact ⟨_, rfl, stands_tailExpiry P K h⟩
  case keyWaitExpiry p => exact ⟨_, rfl, stands_keyWaitExpiry P K h⟩
  case commitTimerExpiry => exact ⟨_, rfl, stands_commitTimerExpiry P K h⟩
  case storeCompletion verified straps => exact ⟨_, rfl, stands_storeCompletion P K h⟩
  case commitApply => exact ⟨_, rfl, stands_commitApply P K unforced h⟩
  case applySupplyFailEntry => exact ⟨_, rfl, stands_applySupplyFailEntry P K h⟩

/-- The part idles, or runs the command at the front of its queue. -/
theorem step_keeps (unforced : ∀ c : Cause, c.forced = false → ok c) {s t : State} (h : Stands I B s)
    (load : ∀ rest, Stands I B ({ s with pending := rest } : State).loadCompletion) (run : step s = .next t) : Stands I B t := by
  unfold step at run
  split at run
  · cases run
    exact h
  · rename_i c rest _
    obtain ⟨t', run', stands⟩ := exec_keeps P K unforced c (s := { s with pending := rest }) (h.same rfl rfl rfl rfl) (load rest)
    cases run'.symm.trans run
    exact stands

end

end Sys2Proof.Proofs.Keeping

/-!
SUPPORT. The seat of a position: what the blocks say of it, its context, its places and holds on the antennas, its claims, its key
and its band entry. An operation on one position moves its seat alone, and one equation per operation says to what.
-/
namespace Sys2Proof.Proofs.Seats
open Sys2Proof Sys2Proof.Machine Sys2Proof.Proofs.Acting Sys2Proof.Proofs.Eventing Sys2Proof.Proofs.Choosing
open Sys2Proof.Proofs.Requesting Sys2Proof.Proofs.Moving Sys2Proof.Proofs.Following

/-- What the blocks say of one position. The entries in the held list and the places on an antenna are counted. -/
@[ext] structure Seat where
  context : Context
  held : Nat
  reserved : List Claim
  holding : Ant → Nat
  reserving : Ant → Nat
  hold : Ant → Bool
  key : KeyRecord
  entry : Option PlanIx
  /-- a coil of its effective claims holds a latch. -/
  latched : Bool

/-- The seat of position `p` in the blocks `w`. -/
def seat (w : Blocks) (p : Pos) : Seat where
  context := w.routes.contexts.get p
  held := w.routes.held.count p
  reserved := (w.image.claims.get p).reserved
  holding a := (w.routes.antennas.get a).occupants.count ⟨p, .holding⟩
  reserving a := (w.routes.antennas.get a).occupants.count ⟨p, .reserving⟩
  hold a := (w.routes.antennas.get a).holds.get p
  key := w.gate.keys.get p
  entry := (w.classifier.get p).entry
  latched := latchedRoute w p

/-- An operation outside position `q`, over the same latches, leaves its seat. -/
theorem seat_of_outside {own : Pos → Bool} {w w' : Work} (h : Outside own w w') (monitor : w'.monitor = w.monitor) {q : Pos}
    (n : own q = false) : seat w'.toBlocks q = seat w.toBlocks q := by
  have place (a : Ant) (r : Role) : (w'.routes.antennas.get a).occupants.count ⟨q, r⟩ =
      (w.routes.antennas.get a).occupants.count ⟨q, r⟩ := by
    have f : (fun o : Occupant => !own o.pos) ⟨q, r⟩ = true := by simp [n]
    rw [← List.count_filter (p := fun o : Occupant => !own o.pos) f, h.occupants a,
      List.count_filter (p := fun o : Occupant => !own o.pos) f]
  have held : w'.routes.held.count q = w.routes.held.count q := by
    have f : (fun q : Pos => !own q) q = true := by simp [n]
    rw [← List.count_filter (p := fun q : Pos => !own q) f, h.held, List.count_filter (p := fun q : Pos => !own q) f]
  unfold seat latchedRoute
  rw [h.contexts q n, held, h.claims q n, h.keys q n, h.classifier, monitor]
  simp only [place, h.holds _ q n]

/-! ### The operations of the state -/

section
variable (p : Pos) (w : Work)

theorem count_removed (l : List Pos) : (l.filter (· ≠ p)).count p = 0 := by simp [List.count_eq_zero]

/-- Work that leaves the routes, the claims, the key record, the entry and the latches leaves the seat. -/
theorem seat_same {w w' : Blocks} (classifier : w'.classifier = w.classifier) (monitor : w'.monitor = w.monitor)
    (routes : w'.routes = w.routes) (claims : w'.image.claims = w.image.claims) (gate : w'.gate = w.gate) :
    seat w' p = seat w p := by
  unfold seat latchedRoute
  rw [classifier, monitor, routes, claims, gate]

theorem setContext_seat (c : Context) : seat (w.setContext p c).toBlocks p = { seat w.toBlocks p with context := c } := by
  ext1
  case context => exact put_get_same ..
  all_goals rfl

theorem setAntenna_seat (a : Ant) (r : AntennaRecord) : seat (w.setAntenna a r).toBlocks p = { seat w.toBlocks p with
    holding := fun b => if b = a then r.occupants.count ⟨p, .holding⟩ else (seat w.toBlocks p).holding b
    reserving := fun b => if b = a then r.occupants.count ⟨p, .reserving⟩ else (seat w.toBlocks p).reserving b
    hold := fun b => if b = a then r.holds.get p else (seat w.toBlocks p).hold b } := by
  have antennas (b : Ant) : (w.setAntenna a r).routes.antennas.get b = if b = a then r else w.routes.antennas.get b := put_get ..
  ext1
  case holding | reserving | hold =>
    funext b
    simp only [seat, antennas]
    split <;> rfl
  all_goals rfl

theorem addReservation_seat (a : Ant) : seat (addReservation p a w).toBlocks p = { seat w.toBlocks p with
    reserving := fun b => (seat w.toBlocks p).reserving b + if b = a then 1 else 0 } := by
  rw [addReservation, setAntenna_seat]
  ext b
  case holding | reserving | hold =>
    by_cases own : b = a
    · subst own
      simp [seat]
    · simp [own]
  all_goals rfl

theorem dropReservation_seat (a : Ant) : seat (dropReservation p a w).toBlocks p = { seat w.toBlocks p with
    reserving := fun b => if b = a then 0 else (seat w.toBlocks p).reserving b } := by
  rw [dropReservation, setAntenna_seat]
  ext b
  case holding | reserving | hold =>
    by_cases own : b = a
    · subst own
      simp [seat, List.count_eq_zero]
    · simp [own]
  all_goals rfl

theorem dropHolder_seat (a : Ant) : seat (dropHolder p a w).toBlocks p = { seat w.toBlocks p with
    holding := fun b => if b = a then 0 else (seat w.toBlocks p).holding b } := by
  rw [dropHolder, setAntenna_seat]
  ext b
  case holding | reserving | hold =>
    by_cases own : b = a
    · subst own
      simp [seat, List.count_eq_zero]
    · simp [own]
  all_goals rfl

/-- A reservation that becomes a holding, with the holdings of the position there already (R78). -/
theorem count_reservationToHolder (l : List Occupant) :
    (l.map fun o => if o.pos = p then (⟨p, .holding⟩ : Occupant) else o).count ⟨p, .holding⟩ =
      l.count ⟨p, .holding⟩ + l.count ⟨p, .reserving⟩ ∧
    (l.map fun o => if o.pos = p then (⟨p, .holding⟩ : Occupant) else o).count ⟨p, .reserving⟩ = 0 := by
  induction l with
  | nil => exact ⟨rfl, rfl⟩
  | cons o l ih =>
    obtain ⟨holding, reserving⟩ := ih
    obtain ⟨q, role⟩ := o
    rw [List.map_cons]
    by_cases own : q = p
    · subst own
      cases role <;> simp [holding, reserving] <;> omega
    · simp [own, holding, reserving]

theorem reservationToHolder_seat (a : Ant) : seat (reservationToHolder p a w).toBlocks p = { seat w.toBlocks p with
    holding := fun b => (seat w.toBlocks p).holding b + if b = a then (seat w.toBlocks p).reserving a else 0
    reserving := fun b => if b = a then 0 else (seat w.toBlocks p).reserving b } := by
  obtain ⟨holding, reserving⟩ := count_reservationToHolder p (w.antenna a).occupants
  rw [reservationToHolder, setAntenna_seat, holding, reserving]
  ext b
  case holding | reserving | hold =>
    by_cases own : b = a
    · subst own
      simp [seat]
    · simp [own]
  all_goals rfl

theorem addHold_seat (o : Option Ant) : seat (addHold p o w).toBlocks p = { seat w.toBlocks p with
    hold := fun b => decide (o = some b) || (seat w.toBlocks p).hold b } := by
  cases o with
  | none => ext1 <;> simp
  | some a =>
    change seat (w.setAntenna a _).toBlocks p = _
    rw [setAntenna_seat]
    ext b
    case holding | reserving | hold =>
      by_cases own : b = a
      · subst own
        simp [seat]
      · simp [own, Ne.symm own]
    all_goals rfl

theorem dropHold_seat (o : Option Ant) : seat (dropHold p o w).toBlocks p = { seat w.toBlocks p with
    hold := fun b => !decide (o = some b) && (seat w.toBlocks p).hold b } := by
  cases o with
  | none => ext1 <;> simp
  | some a =>
    change seat (w.setAntenna a _).toBlocks p = _
    rw [setAntenna_seat]
    ext b
    case holding | reserving | hold =>
      by_cases own : b = a
      · subst own
        simp [seat]
      · simp [own, Ne.symm own]
    all_goals rfl

theorem reserveClaims_seat (l : List Claim) : seat (reserveClaims p l w).toBlocks p =
    { seat w.toBlocks p with reserved := l } := by
  have claims : (reserveClaims p l w).image.claims.get p = { w.image.claims.get p with reserved := l } := put_get_same ..
  unfold seat latchedRoute
  rw [claims]
  rfl

theorem dropReserved_seat : seat (dropReserved p w).toBlocks p = { seat w.toBlocks p with reserved := [] } := by
  obtain ⟨classifier, monitor, routes, -, -, gate, -⟩ := dropReserved_frame p w
  have claims : (dropReserved p w).image.claims.get p = { w.image.claims.get p with reserved := [] } := by
    rw [dropReserved_claims]
    exact put_get_same ..
  unfold seat latchedRoute
  rw [claims, classifier, monitor, routes, gate]

theorem dropEffective_seat (v : View) : seat (dropEffective v p w).toBlocks p = { seat w.toBlocks p with latched := false } := by
  obtain ⟨classifier, monitor, routes, -, gate, -⟩ := dropEffective_frame v p w
  have claims : (dropEffective v p w).image.claims.get p = { w.image.claims.get p with effective := [] } := by
    rw [dropEffective_claims]
    exact put_get_same ..
  unfold seat latchedRoute
  rw [claims, classifier, monitor, routes, gate]
  rfl

theorem effectClaims_seat (v : View) : ∃ x, seat (effectClaims v p w).toBlocks p =
    { seat w.toBlocks p with reserved := [], latched := x } := by
  obtain ⟨classifier, monitor, routes, -, -, gate, -⟩ := effectClaims_frame v p w
  have claims : (effectClaims v p w).image.claims.get p = ⟨(w.image.claims.get p).reserved, []⟩ := by
    rw [effectClaims_claims]
    exact put_get_same ..
  refine ⟨latchedRoute (effectClaims v p w).toBlocks p, ?_⟩
  unfold seat
  rw [claims, classifier, routes, gate]

theorem settleGroups_seat (l : List Claim) : seat (settleGroups l w).toBlocks p = seat w.toBlocks p := by
  obtain ⟨classifier, monitor, routes, claims, -, -, gate, -⟩ := settleGroups_frame l w
  exact seat_same p classifier monitor routes claims gate

/-- The key record of a position that an event keeps off the air (R143). -/
def keptOff (b : Bank) (r : Reason) (k : KeyRecord) : KeyRecord := if k.state = .on then withdrawnKey b k r else k

theorem withdraw_seat (v : View) (r : Reason) (q : Option Pos) : seat (withdraw v p r q w).toBlocks p =
    { seat w.toBlocks p with key := keptOff v.bank r (seat w.toBlocks p).key } := by
  obtain ⟨classifier, monitor, routes, image, -⟩ := withdraw_frame v p r q w
  have key : (withdraw v p r q w).gate.keys.get p = keptOff v.bank r (w.gate.keys.get p) := by
    unfold keptOff
    split
    · rename_i on
      rw [withdraw_keys_of_on v p r q w (decide_eq_true on), put_get_same]
      rfl
    · rename_i off
      rw [withdraw_of_not_on v p r q w (decide_eq_false off)]
  unfold seat latchedRoute
  rw [key, classifier, monitor, routes, image]

/-! ### The pending slot -/

/-- The pending request of the context is HELD (R48). -/
def asksHeld (c : Context) : Bool := c.slot.any fun r => decide (r.status = .held)

theorem asksHeld_iff {c : Context} : asksHeld c = true ↔ ∃ r ∈ c.slot, r.status = .held := by
  cases h : c.slot <;> simp [asksHeld, h]

/-- The seat with another pending request and another count in the held list. -/
def Seat.withSlot (x : Seat) (slot : Option PendingRequest) (held : Nat) : Seat :=
  { x with context := { x.context with slot := slot }, held := held }

/-- The seat without its HELD request. -/
def Seat.unheld (x : Seat) : Seat := if asksHeld x.context then x.withSlot none 0 else x

/-- The seat with its HELD request LATCHED (R53). -/
def Seat.relatched (x : Seat) : Seat :=
  if asksHeld x.context then x.withSlot (x.context.slot.map fun r => { r with status := .latched }) 0 else x

@[simp] theorem unheld_frame (x : Seat) :
    x.unheld.context.state = x.context.state ∧ x.unheld.context.antenna = x.context.antenna ∧
    x.unheld.context.transition = x.context.transition ∧ x.unheld.context.mode = x.context.mode ∧
    x.unheld.context.history = x.context.history ∧ x.unheld.context.mark = x.context.mark ∧ x.unheld.reserved = x.reserved ∧
    x.unheld.holding = x.holding ∧ x.unheld.reserving = x.reserving ∧ x.unheld.hold = x.hold ∧ x.unheld.key = x.key ∧
    x.unheld.entry = x.entry ∧ x.unheld.latched = x.latched := by
  unfold Seat.unheld Seat.withSlot
  split <;> simp

@[simp] theorem relatched_frame (x : Seat) :
    x.relatched.context.state = x.context.state ∧ x.relatched.context.antenna = x.context.antenna ∧
    x.relatched.context.transition = x.context.transition ∧ x.relatched.context.mode = x.context.mode ∧
    x.relatched.context.history = x.context.history ∧ x.relatched.context.mark = x.context.mark ∧
    x.relatched.reserved = x.reserved ∧ x.relatched.holding = x.holding ∧ x.relatched.reserving = x.reserving ∧
    x.relatched.hold = x.hold ∧ x.relatched.key = x.key ∧ x.relatched.entry = x.entry ∧ x.relatched.latched = x.latched := by
  unfold Seat.relatched Seat.withSlot
  split <;> simp

/-- A pending request that is LATCHED for a HELD one keeps its cause (R53). -/
theorem relatched_slot {x : Seat} {r : PendingRequest} (h : x.relatched.context.slot = some r) :
    r.status = .latched ∧ ∃ r₀, x.context.slot = some r₀ ∧ r.cause = r₀.cause := by
  unfold Seat.relatched at h
  split at h
  · obtain ⟨r₀, at', rfl⟩ := Option.map_eq_some_iff.1 h
    exact ⟨rfl, r₀, at', rfl⟩
  · rename_i none
    refine ⟨?_, r, h, rfl⟩
    cases status : r.status with
    | latched => rfl
    | held => exact absurd (asksHeld_iff.2 ⟨r, h, status⟩) none

/-- The pending request that dropping a HELD one leaves is not HELD. -/
theorem unheld_slot {x : Seat} {r : PendingRequest} (h : x.unheld.context.slot = some r) :
    r.status = .latched ∧ x.context.slot = some r := by
  unfold Seat.unheld at h
  split at h
  · cases h
  · rename_i none
    refine ⟨?_, h⟩
    cases status : r.status with
    | latched => rfl
    | held => exact absurd (asksHeld_iff.2 ⟨r, h, status⟩) none

theorem setHeld_seat (c : Context) (l : List Pos) : seat ((w.setContext p c).setHeld l).toBlocks p =
    { seat w.toBlocks p with context := c, held := l.count p } := by
  ext1
  case context => exact put_get_same ..
  all_goals rfl

theorem dropHeld_seat : seat (dropHeld p w).toBlocks p = (seat w.toBlocks p).unheld := by
  have context : (seat w.toBlocks p).context = w.context p := rfl
  unfold dropHeld Seat.unheld
  rw [context]
  unfold asksHeld
  split
  · rename_i none
    rw [none]
    rfl
  · rename_i r at'
    rw [at']
    split
    · rename_i latched
      simp [latched]
    · rename_i held
      dsimp only
      rw [setHeld_seat, count_removed]
      simp [held, Seat.withSlot, seat]

theorem heldToLatched_seat : seat (heldToLatched p w).toBlocks p = (seat w.toBlocks p).relatched := by
  have context : (seat w.toBlocks p).context = w.context p := rfl
  unfold heldToLatched Seat.relatched
  rw [context]
  unfold asksHeld
  split
  · rename_i none
    rw [none]
    rfl
  · rename_i r at'
    rw [at']
    split
    · rename_i latched
      simp [latched]
    · rename_i held
      dsimp only
      rw [setHeld_seat, count_removed]
      simp [held, Seat.withSlot, seat]

theorem placeHeld_seat (kind : RequestKind) (cause : Cause) : seat (placeHeld p kind cause w).toBlocks p =
    (seat w.toBlocks p).withSlot (some ⟨kind, .held, cause⟩) ((seat w.toBlocks p).held + 1) := by
  rw [placeHeld, setHeld_seat]
  simp [seat, Seat.withSlot]

theorem placeLatched_seat (kind : RequestKind) (cause : Cause) : seat (placeLatched p kind cause w).toBlocks p =
    (seat w.toBlocks p).withSlot (some ⟨kind, .latched, cause⟩) (seat w.toBlocks p).held := setContext_seat ..

theorem leaveHeld_seat : seat (leaveHeld p w).toBlocks p = (seat w.toBlocks p).withSlot none 0 := by
  rw [leaveHeld, setHeld_seat, count_removed]
  rfl

/-! ### Transitions -/

/-- A transition in WAIT from antenna `old` (R67). -/
def inWait (v : View) (old target : Option Ant) (kind : RequestKind) (cause : Cause) (start : RouteState) : Transition :=
  { old := old, target := target, kind := kind, cause := cause, phase := .wait, phaseTimer := none, quietTimer := quietWait v
    start := start, due := false, broken := [] }

/-- The seat with a target reserved (R67, step 1). -/
def Seat.reserves (b : Bank) (p : Pos) (target : Option Ant) (x : Seat) : Seat :=
  { x with
    reserved := target.elim x.reserved fun a => (path b p a).claims
    reserving := fun a => x.reserving a + if target = some a then 1 else 0 }

/-- The seat with a target no longer reserved (R74, step 2). -/
def Seat.unreserves (target : Option Ant) (x : Seat) : Seat :=
  { x with
    reserved := if target = none then x.reserved else []
    reserving := fun a => if target = some a then 0 else x.reserving a }

/-- The seat at the start of a transition (R67). -/
def Seat.started (v : View) (p : Pos) (kind : RequestKind) (cause : Cause) (target : Option Ant) (start : RouteState) (x : Seat) :
    Seat :=
  { x.reserves v.bank p target with
    context := { x.context with
      transition := some (inWait v x.context.antenna target kind cause start)
      state := if cause = .fault then x.context.state else .switching
      mark := x.context.mark || cause.forced }
    hold := fun a => decide (target = some a) || (decide (x.context.antenna = some a) || x.hold a)
    key := keptOff v.bank .switching x.key }

/-- The seat whose transition `t` in WAIT has been abandoned (R74). -/
def Seat.freed (t : Transition) (x : Seat) : Seat :=
  { x.unreserves t.target with
    context := { x.context with transition := none, state := t.start }
    hold := fun a => !decide (t.target = some a) && (!decide (t.old = some a) && x.hold a) }

/-- The seat whose route is faulted (R58). -/
def Seat.faulted (v : View) (p : Pos) (x : Seat) : Seat :=
  (Seat.relatched { x with
    context := { x.context with state := .faulted }, key := keptOff v.bank .fault x.key }).started v p .release .fault none .routed

/-- The seat that a commit releases (R61, R161). -/
def Seat.released (v : View) (p : Pos) (x : Seat) : Seat :=
  (Seat.relatched { x with key := keptOff v.bank .commit x.key }).started v p .release .commit none .routed

/-- The seat whose transition `t` in WAIT has another target (R75). -/
def Seat.retargeted (v : View) (p : Pos) (t : Transition) (kind : RequestKind) (cause : Cause) (target : Option Ant) (x : Seat) : Seat :=
  { (x.unreserves t.target).reserves v.bank p target with
    context := { x.context with transition := some (replaced v t kind cause target) }
    hold := fun a => decide (target = some a) || (if t.target = t.old then x.hold a else !decide (t.target = some a) && x.hold a) }

theorem reserve_seat (v : View) (target : Option Ant) : seat (reserve v p target w).toBlocks p =
    (seat w.toBlocks p).reserves v.bank p target := by
  cases target with
  | none => simp [reserve, Seat.reserves]
  | some a =>
    rw [reserve, reserveClaims_seat, addReservation_seat]
    simp [Seat.reserves, eq_comm]

theorem unreserve_seat (target : Option Ant) : seat (unreserve p target w).toBlocks p =
    (seat w.toBlocks p).unreserves target := by
  cases target with
  | none => simp [unreserve, Seat.unreserves]
  | some a =>
    rw [unreserve, dropReserved_seat, dropReservation_seat]
    simp [Seat.unreserves, eq_comm]

theorem startTransition_seat (v : View) (kind : RequestKind) (cause : Cause) (target : Option Ant) (start : RouteState) :
    seat (startTransition v p kind cause target start w).toBlocks p =
      (seat w.toBlocks p).started v p kind cause target start := by
  unfold startTransition
  dsimp only
  rw [withdraw_seat, addHold_seat, addHold_seat, reserve_seat, setContext_seat]
  rfl

theorem freed_seat (t : Transition) : seat (freed p t w).toBlocks p = (seat w.toBlocks p).freed t := by
  have context : (dropHold p t.target (dropHold p t.old (unreserve p t.target (w.setContext p
      { w.context p with transition := none })))).context p = { w.context p with transition := none } := by simp
  unfold freed
  dsimp only
  rw [setContext_seat, dropHold_seat, dropHold_seat, unreserve_seat, setContext_seat, context]
  rfl

theorem faultRoute_seat (v : View) : seat (faultRoute v p w).toBlocks p = (seat w.toBlocks p).faulted v p := by
  unfold faultRoute
  dsimp only
  rw [startTransition_seat, heldToLatched_seat, withdraw_seat, setContext_seat]
  rfl

theorem forceRelease_seat (v : View) : seat (forceRelease v p w).toBlocks p = (seat w.toBlocks p).released v p := by
  unfold forceRelease
  change seat (startTransition ..).toBlocks p = _
  rw [startTransition_seat, heldToLatched_seat, withdraw_seat]
  rfl

theorem replaceTarget_seat (v : View) (t : Transition) (kind : RequestKind) (cause : Cause) (target : Option Ant) :
    seat (replaceTarget v p t kind cause target w).toBlocks p = (seat w.toBlocks p).retargeted v p t kind cause target := by
  have context : (addHold p target (reserve v p target (untargeted p t w))).context p = w.context p := by
    unfold untargeted
    split <;> simp
  change seat ((addHold p target (reserve v p target (untargeted p t w))).setContext p
    { (addHold p target (reserve v p target (untargeted p t w))).context p with
      transition := some (replaced v t kind cause target) }).toBlocks p = _
  rw [setContext_seat, addHold_seat, reserve_seat, context, untargeted]
  split
  · rename_i same
    rw [unreserve_seat]
    simp only [Seat.retargeted, if_pos same]
    rfl
  · rename_i other
    rw [dropHold_seat, unreserve_seat]
    simp only [Seat.retargeted, if_neg other]
    rfl

/-! ### Phases -/

theorem beginBreak_seat (v : View) (t : Transition) : seat (beginBreak v p t w).toBlocks p = { seat w.toBlocks p with
    context := { w.context p with transition := some { t with
      phase := .brk, due := false, quietTimer := none, phaseTimer := some v.bank.timing.breakMs, broken := (w.claims p).effective } }
    latched := false } := by
  unfold beginBreak
  dsimp only
  rw [dropEffective_seat, setContext_seat]

theorem beginMake_seat (v : View) (t : Transition) (a : Ant) : ∃ x, seat (beginMake v p t a w).toBlocks p = { seat w.toBlocks p with
    context := { w.context p with transition := some (making v.bank t), antenna := some a }
    holding := fun b => (seat w.toBlocks p).holding b + if b = a then (seat w.toBlocks p).reserving a else 0
    reserving := fun b => if b = a then 0 else (seat w.toBlocks p).reserving b
    reserved := [], latched := x } := by
  obtain ⟨x, effect⟩ := effectClaims_seat p (reservationToHolder p a (w.setContext p
    { w.context p with transition := some (making v.bank t), antenna := some a })) v
  refine ⟨x, effect.trans ?_⟩
  rw [reservationToHolder_seat, setContext_seat]

theorem leaveOld_seat {t : Transition} {o : Ant} (old : t.old = some o) : seat (leaveOld p t w).toBlocks p = { seat w.toBlocks p with
    context := { w.context p with antenna := none, history := pushHistory o (w.context p).history }
    holding := fun b => if b = o then 0 else (seat w.toBlocks p).holding b } := by
  have context : (dropHolder p o w).context p = w.context p := by simp
  unfold leaveOld
  rw [old]
  dsimp only
  rw [settleGroups_seat, setContext_seat, dropHolder_seat, context]

theorem leaveOld_none {t : Transition} (old : t.old = none) : leaveOld p t w = w := by
  unfold leaveOld
  rw [old]

theorem failCheck_seat (v : View) {t : Transition} {a : Ant} (target : t.target = some a) : seat (failCheck v p t w).toBlocks p =
    { seat w.toBlocks p with
      context := { w.context p with antenna := none }
      holding := fun b => if b = a then 0 else (seat w.toBlocks p).holding b
      latched := false } := by
  have context : (dropHolder p a (dropEffective v p w)).context p = w.context p := by simp
  unfold failCheck
  rw [target]
  dsimp only
  rw [setContext_seat, dropHolder_seat, dropEffective_seat, context]

theorem clearTransition_seat (e : Ending) {t : Transition} (at' : (w.context e.pos).transition = some t) :
    seat (clearTransition w e).toBlocks e.pos = { seat w.toBlocks e.pos with
      context := { w.context e.pos with transition := none, mark := false, state := e.state }
      hold := fun a => !decide (t.target = some a) && (!decide (t.old = some a) && (seat w.toBlocks e.pos).hold a) } := by
  have context : (dropHold e.pos t.target (dropHold e.pos t.old (w.setContext e.pos
      { w.context e.pos with transition := none, mark := false }))).context e.pos =
      { w.context e.pos with transition := none, mark := false } := by simp
  unfold clearTransition
  rw [at']
  dsimp only
  rw [setContext_seat, dropHold_seat, dropHold_seat, setContext_seat, context]

theorem clearTransition_loose (e : Ending) (loose : (w.context e.pos).transition = none) : clearTransition w e = w := by
  unfold clearTransition
  rw [loose]

theorem chosen_seat (v : View) (kind : RequestKind) (cause : Cause) : seat (chosen v p kind cause .current w).toBlocks p =
    { seat w.toBlocks p with context := { w.context p with
      state := if kind = .release ∧ (w.context p).state = .faulted then .idle else (w.context p).state } } := by
  rw [chosen]
  split
  · exact setContext_seat ..
  · rfl

end

end Sys2Proof.Proofs.Seats

/-!
SUPPORT. What the operations leave of the seats of the other positions, and what the operations of the Keying Gate make of the key
record of their own: they end its liveness or leave it, but for a grant (R129, R135).
-/
namespace Sys2Proof.Proofs.Seats
open Sys2Proof Sys2Proof.Machine Sys2Proof.Proofs.Acting Sys2Proof.Proofs.Eventing Sys2Proof.Proofs.Choosing
open Sys2Proof.Proofs.Requesting Sys2Proof.Proofs.Moving Sys2Proof.Proofs.Following Sys2Proof.Proofs.Keeping

/-! ### The seats of the other positions -/

/-- The operation leaves the seat of every position but `p`. -/
def OnlyAt (p : Pos) (w w' : Blocks) : Prop := ∀ q, q ≠ p → seat w' q = seat w q

theorem OnlyAt.refl (p : Pos) (w : Blocks) : OnlyAt p w w := fun _ _ => rfl

theorem OnlyAt.trans {p : Pos} {w w' w'' : Blocks} (h : OnlyAt p w w') (k : OnlyAt p w' w'') : OnlyAt p w w'' :=
  fun q ne => (k q ne).trans (h q ne)

theorem onlyAt_of_touches {p : Pos} {w w' : Work} (t : Touches p w w') : OnlyAt p w.toBlocks w'.toBlocks := fun _ ne =>
  seat_of_outside (outside_of_touches (own := only p) t (decide_eq_true rfl)) t.monitor (decide_eq_false ne)

theorem onlyAt_of_outside {p : Pos} {w w' : Work} (h : Outside (only p) w w') (monitor : w'.monitor = w.monitor) :
    OnlyAt p w.toBlocks w'.toBlocks := fun _ ne => seat_of_outside h monitor (decide_eq_false ne)

section
variable (v : View) (p : Pos) (w : Work)

theorem onlyAt_dropEffective : OnlyAt p w.toBlocks (dropEffective v p w).toBlocks :=
  onlyAt_of_outside (outside_dropEffective (decide_eq_true rfl) v w) (dropEffective_frame v p w).2.1

theorem onlyAt_beginBreak (t : Transition) : OnlyAt p w.toBlocks (beginBreak v p t w).toBlocks :=
  (onlyAt_of_touches (touches_setContext p _ w)).trans (onlyAt_dropEffective v p _)

theorem onlyAt_beginMake (t : Transition) (a : Ant) : OnlyAt p w.toBlocks (beginMake v p t a w).toBlocks :=
  onlyAt_of_outside (outside_beginMake v p t a w) (by simp [beginMake])

theorem onlyAt_leaveOld (t : Transition) : OnlyAt p w.toBlocks (leaveOld p t w).toBlocks := by
  unfold leaveOld
  split
  · exact OnlyAt.refl p _
  · exact onlyAt_of_touches (((touches_dropHolder p _ w).trans (touches_setContext p _ _)).trans (touches_settleGroups p _ _))

theorem onlyAt_failCheck (t : Transition) : OnlyAt p w.toBlocks (failCheck v p t w).toBlocks :=
  onlyAt_of_outside (outside_failCheck (decide_eq_true rfl) v t w) (by unfold failCheck; split <;> simp)

theorem onlyAt_clearTransition (e : Ending) : OnlyAt e.pos w.toBlocks (clearTransition w e).toBlocks := by
  unfold clearTransition
  split
  · exact OnlyAt.refl _ _
  · exact onlyAt_of_touches ((((touches_setContext _ _ w).trans (touches_dropHold _ _ _)).trans (touches_dropHold _ _ _)).trans
      (touches_setContext _ _ _))

theorem onlyAt_forceRelease : OnlyAt p w.toBlocks (forceRelease v p w).toBlocks := by
  have released : OnlyAt p w.toBlocks (startTransition v p .release .commit none .routed
      (heldToLatched p (withdraw v p .commit none w))).toBlocks :=
    onlyAt_of_touches (((touches_withdraw v p _ none w).trans (touches_heldToLatched p _)).trans (touches_startTransition ..))
  exact released

end

/-! ### Key records -/

/-- The position is live (R129). -/
def isLive (k : KeyRecord) : Bool := k.permit || k.tail.isSome

/-- TPn is asserted exactly in ON (R127). -/
def Steady (k : KeyRecord) : Prop := k.permit = true ↔ k.state = .on

/-- The record `k'` comes of `k` with no grant: the position is ON, and live, only where it was. -/
structure Quiets (k k' : KeyRecord) : Prop where
  on : k'.state = .on → k.state = .on
  steady : Steady k → Steady k'
  live : Steady k → isLive k' = true → isLive k = true

theorem Quiets.refl (k : KeyRecord) : Quiets k k := ⟨id, id, fun _ => id⟩

theorem Quiets.trans {k k' k'' : KeyRecord} (h : Quiets k k') (g : Quiets k' k'') : Quiets k k'' :=
  ⟨fun on => h.on (g.on on), fun s => g.steady (h.steady s), fun s l => h.live s (g.live (h.steady s) l)⟩

/-- A record that leaves the permit, with the tail running on or ended, and no ON state that was not. -/
theorem quiets_of_kept {k k' : KeyRecord} (permit : k'.permit = k.permit) (tail : k'.tail.isSome = true → k.tail.isSome = true)
    (state : k'.state = .on ↔ k.state = .on) : Quiets k k' where
  on := state.1
  steady s := by
    unfold Steady at *
    rw [permit, state, s]
  live _ l := by
    unfold isLive at *
    rw [Bool.or_eq_true] at *
    rw [permit] at l
    exact l.imp_right tail

/-- A record whose permit ends (R129). -/
theorem quiets_of_ended {k : KeyRecord} (on : k.state = .on) {next : KeyState} (off : next ≠ .on) (tail : Timer) :
    Quiets k { k with permit := false, state := next, tail := tail } where
  on h := absurd h off
  steady _ := ⟨nofun, fun h => absurd h off⟩
  live s _ := by simp [isLive, s.2 on]

theorem quiets_keptOff (b : Bank) (r : Reason) (k : KeyRecord) : Quiets k (keptOff b r k) ∧ (keptOff b r k).state ≠ .on := by
  unfold keptOff
  split
  · rename_i on
    exact ⟨quiets_of_ended on (by nofun) _, nofun⟩
  · rename_i off
    exact ⟨Quiets.refl k, off⟩

/-! ### The operations of the Keying Gate -/

/-- The operation makes `k` the key record of position `p`, and changes nothing else the seats know of. -/
structure Rekeys (p : Pos) (k : KeyRecord) (w w' : Blocks) : Prop where
  classifier : w'.classifier = w.classifier
  monitor : w'.monitor = w.monitor
  routes : w'.routes = w.routes
  image : w'.image = w.image
  keys : w'.gate.keys = put w.gate.keys p k

theorem Rekeys.own {p : Pos} {k : KeyRecord} {w w' : Blocks} (h : Rekeys p k w w') : seat w' p = { seat w p with key := k } := by
  have key : w'.gate.keys.get p = k := by rw [h.keys, put_get_same]
  unfold seat latchedRoute
  rw [h.classifier, h.monitor, h.routes, h.image, key]

theorem Rekeys.others {p : Pos} {k : KeyRecord} {w w' : Blocks} (h : Rekeys p k w w') : OnlyAt p w w' := by
  intro q ne
  have key : w'.gate.keys.get q = w.gate.keys.get q := by rw [h.keys, put_get_other _ _ ne]
  unfold seat latchedRoute
  rw [h.classifier, h.monitor, h.routes, h.image, key]

/-- The operation moves the key record of position `p` with no grant. -/
def QuietsAt (p : Pos) (w w' : Blocks) : Prop := ∃ k, Rekeys p k w w' ∧ Quiets (w.gate.keys.get p) k

/-- The key record of a grant (R135). -/
def grantedKey : KeyRecord := { state := .on, tail := none, keyWait := none, permit := true }

theorem quietsAt_refl (p : Pos) (w : Blocks) : QuietsAt p w w :=
  ⟨w.gate.keys.get p, ⟨rfl, rfl, rfl, rfl, (put_get_self _ _).symm⟩, Quiets.refl _⟩

/-- A record of a position that is not ON takes a state other than ON. -/
theorem quiets_restated {k : KeyRecord} (off : k.state ≠ .on) {next : KeyState} (next_off : next ≠ .on) (wait : Timer) :
    Quiets k { k with state := next, keyWait := wait } :=
  quiets_of_kept rfl id ⟨fun h => absurd h next_off, fun h => absurd h off⟩

section
variable {v : View} {p : Pos} {w : Work}

theorem quietsAt_withdraw (r : Reason) (q : Option Pos) : QuietsAt p w.toBlocks (withdraw v p r q w).toBlocks := by
  obtain ⟨classifier, monitor, routes, image, -⟩ := withdraw_frame v p r q w
  cases on : isOn w.toBlocks p with
  | false =>
    rw [withdraw_of_not_on _ _ _ _ _ on]
    exact quietsAt_refl p _
  | true =>
    exact ⟨_, ⟨classifier, monitor, routes, image, withdraw_keys_of_on v p r q w on⟩,
      quiets_of_ended (of_decide_eq_true on) (by nofun) _⟩

theorem quietsAt_keyUp : QuietsAt p w.toBlocks (keyUp v p w).toBlocks := by
  obtain ⟨classifier, monitor, routes, image, -⟩ := keyUp_frame v p w
  have same : Rekeys p (w.key p) w.toBlocks w.toBlocks := ⟨rfl, rfl, rfl, rfl, (put_get_self _ _).symm⟩
  unfold keyUp at *
  split
  · rename_i on
    rw [on] at classifier monitor routes image
    refine ⟨_, ⟨classifier, monitor, routes, image, endPermit_keys v p _ w⟩, quiets_of_ended on ?_ _⟩
    split <;> exact nofun
  · rename_i r waiting
    have off : (w.key p).state ≠ .on := by rw [waiting]; exact nofun
    exact ⟨_, ⟨rfl, rfl, rfl, rfl, rfl⟩, quiets_restated off (by nofun) none⟩
  · rename_i r barred
    have off : (w.key p).state ≠ .on := by rw [barred]; exact nofun
    exact ⟨_, ⟨rfl, rfl, rfl, rfl, rfl⟩, quiets_restated off (by nofun) _⟩
  · exact ⟨_, same, Quiets.refl _⟩
  · exact ⟨_, same, Quiets.refl _⟩

theorem quietsAt_tailEnd : QuietsAt p w.toBlocks (tailEnd p w).toBlocks := by
  refine ⟨_, ⟨rfl, rfl, rfl, rfl, rfl⟩, quiets_of_kept rfl nofun ?_⟩
  dsimp only
  split
  · rename_i tail
    exact ⟨nofun, fun on => nomatch tail.symm.trans on⟩
  · exact Iff.rfl

theorem quietsAt_keyWaitEnd {r : Reason} (waiting : (w.key p).state = .waiting r) :
    QuietsAt p w.toBlocks (keyWaitEnd p w).toBlocks := by
  have off : (w.key p).state ≠ .on := by rw [waiting]; exact nofun
  exact ⟨_, ⟨rfl, rfl, rfl, rfl, rfl⟩, quiets_restated off (by nofun) none⟩

theorem quietsAt_bar (off : (w.key p).state ≠ .on) (r : Reason) : QuietsAt p w.toBlocks (bar p r w).toBlocks :=
  ⟨_, ⟨rfl, rfl, rfl, rfl, rfl⟩, quiets_restated off (by nofun) none⟩

theorem quietsAt_gateFailSafe : QuietsAt p w.toBlocks (gateFailSafe v w p).toBlocks ∧
    ((gateFailSafe v w p).gate.keys.get p).state ≠ .on := by
  have off_of {s : KeyState} (at' : (w.key p).state = s) (ne : s ≠ .on) : (w.gate.keys.get p).state ≠ .on := by
    rw [Work.key_eq] at at'
    rw [at']
    exact ne
  obtain ⟨classifier, monitor, routes, image, -⟩ := gateFailSafe_frame v w p
  unfold gateFailSafe at *
  split
  · rename_i on
    rw [on] at classifier monitor routes image
    refine ⟨⟨_, ⟨classifier, monitor, routes, image, endPermit_keys v p _ w⟩, quiets_of_ended on (by nofun) _⟩, ?_⟩
    rw [endPermit_keys, put_get_same]
    exact nofun
  · rename_i r waiting
    refine ⟨quietsAt_bar (off_of waiting nofun) _, ?_⟩
    rw [bar_keys, put_get_same]
    exact nofun
  · rename_i tail
    exact ⟨quietsAt_refl p _, off_of tail nofun⟩
  · rename_i up
    exact ⟨quietsAt_refl p _, off_of up nofun⟩
  · rename_i r barred
    exact ⟨quietsAt_refl p _, off_of barred nofun⟩

/-- A key-down moves the key record with no grant, or grants (R135). -/
theorem keyDown_cases (accepts : (w.key p).state.acceptsDown = true) : QuietsAt p w.toBlocks (keyDown v p w).toBlocks ∨
    (grantTest v w.toBlocks p = none ∧ Rekeys p grantedKey w.toBlocks (keyDown v p w).toBlocks) := by
  have off : (w.key p).state ≠ .on := by
    intro on
    rw [on] at accepts
    cases accepts
  unfold keyDown
  split
  · rename_i passed
    exact .inr ⟨passed, rfl, rfl, rfl, rfl, rfl⟩
  · split
    · exact .inl ⟨_, ⟨rfl, rfl, rfl, rfl, rfl⟩, quiets_restated off (by nofun) _⟩
    · exact .inl ⟨_, ⟨rfl, rfl, rfl, rfl, rfl⟩, quiets_restated off (by nofun) none⟩

/-- An entry of a waiting walk moves the key record with no grant, or grants (R138). -/
theorem walkEntry_cases : QuietsAt p w.toBlocks (walkEntry v w p).toBlocks ∨
    (grantTest v w.toBlocks p = none ∧ Rekeys p grantedKey w.toBlocks (walkEntry v w p).toBlocks) := by
  by_cases waits : ∃ r, (w.key p).state = .waiting r
  · obtain ⟨r, waiting⟩ := waits
    have off : (w.key p).state ≠ .on := by rw [waiting]; exact nofun
    unfold walkEntry
    rw [waiting]
    dsimp only
    split
    · rename_i passed
      exact .inr ⟨passed, rfl, rfl, rfl, rfl, rfl⟩
    · split
      · exact .inl ⟨_, ⟨rfl, rfl, rfl, rfl, rfl⟩, quiets_restated off (by nofun) _⟩
      · exact .inl ⟨_, ⟨rfl, rfl, rfl, rfl, rfl⟩, quiets_restated off (by nofun) none⟩
  · rw [walkEntry_of_not_waiting v w p fun r h => waits ⟨r, h⟩]
    exact .inl (quietsAt_refl p _)

end

end Sys2Proof.Proofs.Seats

/-!
SUPPORT. Laws of the seats. A law of the blocks that speaks of each seat by itself (`ofSeats`) is kept by the operations on one
position when the equations of Seats keep it (`KeepsSeats`); the other seats stand.
-/
namespace Sys2Proof.Proofs.Seats
open Sys2Proof Sys2Proof.Machine Sys2Proof.Proofs.Acting Sys2Proof.Proofs.Eventing Sys2Proof.Proofs.Choosing
open Sys2Proof.Proofs.Requesting Sys2Proof.Proofs.Moving Sys2Proof.Proofs.Following Sys2Proof.Proofs.Keeping

/-! ### Seats in the phases of a transition -/

/-- The seat with its transition replaced. -/
def Seat.withTransition (t : Transition) (x : Seat) : Seat := { x with context := { x.context with transition := some t } }

/-- The seat at the start of BREAK (R76). -/
def Seat.broken (b : Bank) (t : Transition) (cs : List Claim) (x : Seat) : Seat :=
  { x with
    context := { x.context with transition := some { t with
      phase := .brk, due := false, quietTimer := none, phaseTimer := some b.timing.breakMs, broken := cs } }
    latched := false }

/-- The seat that has left its old antenna (R77). -/
def Seat.left (t : Transition) (x : Seat) : Seat :=
  match t.old with
  | none => x
  | some o =>
    { x with
      context := { x.context with antenna := none, history := pushHistory o x.context.history }
      holding := fun a => if a = o then 0 else x.holding a }

/-- The seat at the start of MAKE on antenna `a` (R78). -/
def Seat.made (b : Bank) (t : Transition) (a : Ant) (latched : Bool) (x : Seat) : Seat :=
  { x with
    context := { x.context with transition := some (making b t), antenna := some a }
    holding := fun n => x.holding n + if n = a then x.reserving a else 0
    reserving := fun n => if n = a then 0 else x.reserving n
    reserved := [], latched := latched }

/-- The seat of a transition that has failed at CHECK (R80). -/
def Seat.shed (t : Transition) (x : Seat) : Seat :=
  { x with
    context := { x.context with antenna := none }
    holding := fun a => if t.target = some a then 0 else x.holding a
    latched := false }

/-- The seat whose transition `t` has ended in route state `st` (R81, steps 1 to 3). -/
def Seat.cleared (t : Transition) (st : RouteState) (x : Seat) : Seat :=
  { x with
    context := { x.context with transition := none, mark := false, state := st }
    hold := fun a => !decide (t.target = some a) && (!decide (t.old = some a) && x.hold a) }

/-- The seat at fail-safe entry, with key record `k` (R64, R171). -/
def Seat.closed (b : Bank) (p : Pos) (k : KeyRecord) (x : Seat) : Seat :=
  { context := x.context.cleared b p, held := 0, reserved := [], holding := fun _ => 0, reserving := fun _ => 0
    hold := fun _ => false, key := k, entry := x.entry, latched := false }

/-- The seat has a band, and its antenna, if any, covers it: no mismatch (R37). -/
def Seat.fits (b : Bank) (x : Seat) : Prop :=
  ∃ i, x.entry = some i ∧ ∀ a, x.context.antenna = some a → covers b a (b.plan.get i).band = true

theorem fits_iff (b : Bank) (w : Blocks) (p : Pos) : (seat w p).fits b ↔ mismatch b w p = false := by
  have context : (seat w p).context = w.routes.contexts.get p := rfl
  have entry : (seat w p).entry = (w.classifier.get p).entry := rfl
  unfold Seat.fits mismatch bandOf
  rw [context, entry]
  cases (w.classifier.get p).entry <;> cases (w.routes.contexts.get p).antenna <;> simp

/-- A property of the seat of a position under the Active bank and the mode; the proposition says that the position is between
the end of its transition and the start of its latched request. -/
abbrev SeatLaw := Bank → StationMode → Pos → Prop → Seat → Prop

/-- Every seat holds to the law. -/
def ofSeats (S : SeatLaw) : Law := fun b m e w => ∀ p, S b m p (e p) (seat w p)

/-- The operations on one position keep the law `S` of its seat. -/
structure KeepsSeats (S : SeatLaw) (ok : Cause → Prop) : Prop where
  request : ok .request
  follow : ok .follow
  slot : ∀ {b m p e x r}, S b m p e x → x.context.slot = some r → ok r.cause
  key : ∀ {b m p e x k}, Quiets x.key k → S b m p e x → S b m p e { x with key := k }
  entry : ∀ {b m p e x} {y : Option PlanIx}, (x.key.state = .on → Seat.fits b { x with entry := y }) → S b m p e x →
    S b m p e { x with entry := y }
  /-- a latch that is cleared. -/
  cleared : ∀ {b m p e x y}, (y = true → x.latched = true) → S b m p e x → S b m p e { x with latched := y }
  /-- a latch set on a coil of a position that is not ROUTED, or moves. -/
  latched : ∀ {b m p x y}, (x.context.state = .routed → x.context.transition ≠ none) → S b m p False x →
    S b m p False { x with latched := y }
  /-- a latch set on a coil of a route. -/
  fault : ∀ {v : View} {b m p x y}, x.context.state = .routed → x.context.transition = none → S b m p False x →
    S b m p False (Seat.faulted v p { x with latched := y })
  settings : ∀ {b m p x} (y : Mode) {l : List Ant}, l.length ≤ x.context.history.length → S b m p False x →
    S b m p False { x with context := { x.context with mode := y, history := l } }
  retime : ∀ {b m p x t} (y : Timer) (z : Bool), x.context.transition = some t → t.phase = .wait → S b m p False x →
    S b m p False (x.withTransition { t with quietTimer := y, due := z })
  check : ∀ {b m p x t}, x.context.transition = some t → t.phase = .make → S b m p False x →
    S b m p False (x.withTransition { t with phase := .check, phaseTimer := none })
  recause : ∀ {b m p x t c}, x.context.transition = some t → t.phase = .wait → t.cause.forced = false → ok c →
    S b m p False x → S b m p False (x.withTransition { t with cause := c })
  latch : ∀ {b m p x t k c}, x.context.transition = some t → ¬ (t.phase = .wait ∧ t.cause.forced = false) → ok c →
    S b m p False x → S b m p False (x.withSlot (some ⟨k, .latched, c⟩) x.held)
  freed : ∀ {b m p x t}, x.context.transition = some t → t.phase = .wait → t.cause.forced = false →
    (t.start = .routed → x.latched = false) → S b m p False x → S b m p False (x.freed t)
  freedHeld : ∀ {b m p x t k c}, x.context.transition = some t → t.phase = .wait → t.cause.forced = false →
    (t.start = .routed → x.latched = false) → ok c → S b m p False x →
    S b m p False ((x.freed t).withSlot (some ⟨k, .held, c⟩) (x.held + 1))
  freedFaulted : ∀ {v : View} {b m p x t}, x.context.transition = some t → t.phase = .wait → t.cause.forced = false →
    t.start = .routed → S b m p False x → S b m p False ((x.freed t).faulted v p)
  leaveToMake : ∀ {b m p x t a} (y : Bool), x.context.transition = some t → t.phase = .brk → t.target = some a →
    S b m p False x → S b m p False ((x.left t).made b t a y)
  leaveToEnd : ∀ {b m p x t}, x.context.transition = some t → t.phase = .brk → t.target = none → S b m p False x →
    S b m p True ((x.left t).cleared t (if t.cause = .fault then .faulted else restState b p))
  checkPassed : ∀ {b m p x t}, x.context.transition = some t → t.phase = .check → x.latched = false → S b m p False x →
    S b m p True (x.cleared t .routed)
  checkFailed : ∀ {b m p x t}, x.context.transition = some t → t.phase = .check → S b m p False x →
    S b m p True ((x.shed t).cleared t .faulted)
  closed : ∀ {b m p x k}, Quiets x.key k → k.state ≠ .on → S b m p False x → S b .failsafe p False (x.closed b p k)
  resume : ∀ {b p x}, S b .failsafe p False x → S b .normal p False x

theorem KeepsSeats.latchedAfter {S : SeatLaw} {ok : Cause → Prop} (K : KeepsSeats S ok) {v : View} {b : Bank} {m : StationMode} {p : Pos}
    {x : Seat} {t : Transition} {k : RequestKind} {c : Cause} (at' : x.context.transition = some t) (wait : t.phase = .wait)
    (unforced : t.cause.forced = false) (start : t.start = .routed) (o : ok c) (h : S b m p False x) :
    S b m p False (((x.freed t).faulted v p).withSlot (some ⟨k, .latched, c⟩) ((x.freed t).faulted v p).held) :=
  K.latch (t := inWait v ((x.freed t).faulted v p).context.antenna none .release .fault .routed) rfl (fun ⟨_, f⟩ => nomatch f) o (K.freedFaulted at' wait unforced start h)

/-! ### The operations on one position -/

section
variable {S : SeatLaw} {b : Bank} {m : StationMode} {e : Pos → Prop} {p : Pos} {w w' : Blocks}

/-- An operation on one position keeps the law when it keeps it at that position. -/
theorem ofSeats_at (only : OnlyAt p w w') (h : ofSeats S b m e w) (own : S b m p (e p) (seat w' p)) : ofSeats S b m e w' := by
  intro q
  by_cases at' : q = p
  · exact at' ▸ own
  · rw [only q at']
    exact h q

/-- The key record of one position moves with no grant. -/
theorem ofSeats_quiets {ok : Cause → Prop} (K : KeepsSeats S ok) (moved : QuietsAt p w w') (h : ofSeats S b m e w) :
    ofSeats S b m e w' := by
  obtain ⟨k, rekeyed, quiets⟩ := moved
  refine ofSeats_at rekeyed.others h ?_
  rw [rekeyed.own]
  exact K.key quiets (h p)

end

/-- A fold over positions: each seat is left by the turns of the others. -/
theorem foldl_seats {α : Type} (f : Work → α → Work) (of : α → Pos) (only : ∀ w a, OnlyAt (of a) w.toBlocks (f w a).toBlocks)
    (l : List α) (w : Work) :
    (∀ q, q ∉ l.map of → seat (l.foldl f w).toBlocks q = seat w.toBlocks q) ∧
    ∀ a ∈ l, (l.map of).Nodup → ∃ l₁ l₂, l = l₁ ++ a :: l₂ ∧
      seat (l₁.foldl f w).toBlocks (of a) = seat w.toBlocks (of a) ∧
      seat (l.foldl f w).toBlocks (of a) = seat (f (l₁.foldl f w) a).toBlocks (of a) := by
  have missed (l : List α) (w : Work) (q : Pos) (out : q ∉ l.map of) : seat (l.foldl f w).toBlocks q = seat w.toBlocks q := by
    induction l generalizing w with
    | nil => rfl
    | cons a l ih =>
      rw [List.map_cons, List.mem_cons, not_or] at out
      exact (ih _ out.2).trans (only w a q out.1)
  refine ⟨missed l w, fun a mem nodup => ?_⟩
  obtain ⟨l₁, l₂, rfl⟩ := List.append_of_mem mem
  rw [List.map_append, List.map_cons, List.nodup_append] at nodup
  obtain ⟨-, after, apart⟩ := nodup
  refine ⟨l₁, l₂, rfl, missed l₁ w _ fun out => apart _ out _ List.mem_cons_self rfl, ?_⟩
  rw [List.foldl_append, List.foldl_cons]
  exact missed l₂ _ _ (List.nodup_cons.1 after).1

end Sys2Proof.Proofs.Seats

/-!
SUPPORT. The operations of the events that need nothing of the other positions keep a law of the seats.
-/
namespace Sys2Proof.Proofs.Seats
open Sys2Proof Sys2Proof.Machine Sys2Proof.Proofs.Acting Sys2Proof.Proofs.Eventing Sys2Proof.Proofs.Choosing
open Sys2Proof.Proofs.Requesting Sys2Proof.Proofs.Moving Sys2Proof.Proofs.Following Sys2Proof.Proofs.Keeping

theorem at_true {S : SeatLaw} {b : Bank} {m : StationMode} {p : Pos} {x : Seat} {e : Prop} (he : e) (h : S b m p True x) :
    S b m p e x := by rwa [eq_true he]

theorem at_false {S : SeatLaw} {b : Bank} {m : StationMode} {p : Pos} {x : Seat} {e : Prop} (he : ¬ e) (h : S b m p False x) :
    S b m p e x := by rwa [eq_false he]

/-! ### Seats over other latches -/

/-- Work that leaves the classifier, the routes, the claims and the gate moves no seat but for the latches of its route. -/
theorem seat_relatched {w w' : Blocks} (classifier : w'.classifier = w.classifier) (routes : w'.routes = w.routes)
    (claims : w'.image.claims = w.image.claims) (gate : w'.gate = w.gate) (p : Pos) :
    seat w' p = { seat w p with latched := latchedRoute w' p } := by
  unfold seat
  rw [classifier, routes, claims, gate]

theorem latchedRoute_iff (w : Blocks) (p : Pos) : latchedRoute w p = true ↔
    ∃ k ∈ (w.image.claims.get p).effective, (w.monitor.get k.coil).latch ≠ .none := by
  simp [latchedRoute]

/-- Latches that only clear set no route over a latch. -/
theorem latchedRoute_of_cleared {w w' : Blocks} (claims : w'.image.claims = w.image.claims)
    (clear : ∀ c, (w'.monitor.get c).latch ≠ .none → (w'.monitor.get c).latch = (w.monitor.get c).latch) {p : Pos}
    (h : latchedRoute w' p = true) : latchedRoute w p = true := by
  rw [latchedRoute_iff, claims] at h
  rw [latchedRoute_iff]
  obtain ⟨k, mem, set⟩ := h
  exact ⟨k, mem, clear _ set ▸ set⟩

theorem setRecord_seat (p q : Pos) (r : ClassRecord) (w : Work) : seat (w.setRecord p r).toBlocks q =
    { seat w.toBlocks q with entry := if q = p then r.entry else (seat w.toBlocks q).entry } := by
  have record : (w.setRecord p r).classifier.get q = if q = p then r else w.classifier.get q := put_get ..
  unfold seat latchedRoute
  rw [record]
  split <;> rfl

section
variable {S : SeatLaw} {ok : Cause → Prop} (K : KeepsSeats S ok)
include K

theorem ofSeats_frame {b : Bank} {m : StationMode} {e : Pos → Prop} {w w' : Blocks} (h : ofSeats S b m e w)
    (classifier : w'.classifier = w.classifier) (routes : w'.routes = w.routes) (claims : w'.image.claims = w.image.claims)
    (gate : w'.gate = w.gate)
    (clear : ∀ c, (w'.monitor.get c).latch ≠ .none → (w'.monitor.get c).latch = (w.monitor.get c).latch) :
    ofSeats S b m e w' := fun p => by
  rw [seat_relatched classifier routes claims gate p]
  exact K.cleared (latchedRoute_of_cleared claims clear) (h p)

omit K in
theorem ofSeats_record {b : Bank} {m : StationMode} {e : Pos → Prop} {w : Work} {p : Pos} {r : ClassRecord}
    (same : r.entry = (w.record p).entry) (h : ofSeats S b m e w.toBlocks) : ofSeats S b m e (w.setRecord p r).toBlocks := fun q => by
  have entry : (if q = p then r.entry else (seat w.toBlocks q).entry) = (seat w.toBlocks q).entry := by
    split
    · rename_i own
      exact own ▸ same
    · rfl
  rw [setRecord_seat, entry]
  exact h q

omit K in
/-- What a re-check leaves of the key record: the position is ON only where its new entry has no mismatch (R146). -/
theorem recheck_seat (v : View) (p : Pos) (w : Work) : QuietsAt p w.toBlocks (recheck v p w).toBlocks ∧
    (((recheck v p w).gate.keys.get p).state = .on → (seat w.toBlocks p).fits v.bank) := by
  unfold recheck
  split
  · rename_i on
    split
    · rename_i passed
      refine ⟨quietsAt_refl p _, fun _ => (fits_iff ..).2 ?_⟩
      unfold recheckFailure at passed
      split at passed
      · cases passed
      · split at passed
        · cases passed
        · rename_i matching
          exact Bool.eq_false_iff.2 matching
    · rename_i r q _
      refine ⟨quietsAt_withdraw r q, fun on' => ?_⟩
      rw [withdraw_keys_of_on v p r q w on, put_get_same] at on'
      cases on'
  · rename_i off
    exact ⟨quietsAt_refl p _, fun on => absurd (decide_eq_true on) off⟩

theorem ofSeats_classify {v : View} {m : StationMode} {e : Pos → Prop} {w : Work} {p : Pos} (y : Option PlanIx)
    (h : ofSeats S v.bank m e w.toBlocks) :
    ofSeats S v.bank m e (recheck v p (w.setRecord p { w.record p with entry := y })).toBlocks := by
  obtain ⟨⟨k, rekeyed, quiets⟩, fits⟩ := recheck_seat v p (w.setRecord p { w.record p with entry := y })
  have key : (recheck v p (w.setRecord p { w.record p with entry := y })).gate.keys.get p = k := by
    rw [rekeyed.keys, put_get_same]
  intro q
  by_cases own : q = p
  · subst own
    have entry := setRecord_seat q q { w.record q with entry := y } w
    rw [if_pos rfl] at entry
    rw [key, entry] at fits
    rw [rekeyed.own, entry]
    exact K.entry (x := { seat w.toBlocks q with key := k }) fits (K.key quiets (h q))
  · rw [rekeyed.others q own, setRecord_seat, if_neg own]
    exact h q

omit K in
/-- The seat of an abandonment (R59, R74). -/
theorem abandon_seat {v : View} {p : Pos} {w : Work} {t : Transition} (at' : (w.context p).transition = some t) :
    seat (abandon v p w).toBlocks p = if t.start = .routed ∧ (seat w.toBlocks p).latched = true then
      ((seat w.toBlocks p).freed t).faulted v p else (seat w.toBlocks p).freed t := by
  have latched : (seat w.toBlocks p).latched = latchedRoute w.toBlocks p := rfl
  rw [← freed_seat, ← faultRoute_seat, abandon_eq at', latched]
  split
  · dsimp only
  · rfl

/-- A seat whose route is latched is not free to take the transition's start state (R59). -/
theorem KeepsSeats.abandoned {v : View} {b : Bank} {m : StationMode} {p : Pos} {x : Seat} {t : Transition}
    (at' : x.context.transition = some t) (wait : t.phase = .wait) (unforced : t.cause.forced = false) (h : S b m p False x) :
    S b m p False (if t.start = .routed ∧ x.latched = true then (x.freed t).faulted v p else x.freed t) := by
  split
  · rename_i latched
    exact K.freedFaulted at' wait unforced latched.1 h
  · rename_i clear
    exact K.freed at' wait unforced (fun start => Bool.eq_false_iff.2 fun latched => clear ⟨start, latched⟩) h

theorem ofSeats_abandon {v : View} {b : Bank} {m : StationMode} {w : Work} {p : Pos} {t : Transition}
    (at' : (w.context p).transition = some t) (wait : t.phase = .wait) (unforced : t.cause.forced = false)
    (h : ofSeats S b m nobody w.toBlocks) : ofSeats S b m nobody (abandon v p w).toBlocks := by
  refine ofSeats_at (onlyAt_of_touches (touches_abandon v p w)) h ?_
  rw [abandon_seat at']
  exact K.abandoned at' wait unforced (h p)

theorem ofSeats_abandonHold {v : View} {b : Bank} {m : StationMode} {w : Work} {p : Pos} {t : Transition} {kind : RequestKind} {cause : Cause}
    (at' : (w.context p).transition = some t) (wait : t.phase = .wait) (unforced : t.cause.forced = false) (c : ok cause)
    (loose : ((abandon v p w).context p).transition = none) (h : ofSeats S b m nobody w.toBlocks) :
    ofSeats S b m nobody (placeHeld p kind cause (abandon v p w)).toBlocks := by
  refine ofSeats_at (onlyAt_of_touches ((touches_abandon v p w).trans (touches_placeHeld ..))) h ?_
  have loose : (seat (abandon v p w).toBlocks p).context.transition = none := loose
  rw [placeHeld_seat, abandon_seat at']
  rw [abandon_seat at'] at loose
  split at loose
  · cases loose
  · rename_i clear
    rw [if_neg clear]
    exact K.freedHeld at' wait unforced (fun start => Bool.eq_false_iff.2 fun latched => clear ⟨start, latched⟩) c (h p)

theorem ofSeats_abandonLatch {v : View} {b : Bank} {m : StationMode} {w : Work} {p : Pos} {t : Transition} {kind : RequestKind} {cause : Cause}
    (at' : (w.context p).transition = some t) (wait : t.phase = .wait) (unforced : t.cause.forced = false) (c : ok cause)
    (moves : ((abandon v p w).context p).transition ≠ none) (h : ofSeats S b m nobody w.toBlocks) :
    ofSeats S b m nobody (placeLatched p kind cause (abandon v p w)).toBlocks := by
  refine ofSeats_at (onlyAt_of_touches ((touches_abandon v p w).trans (touches_placeLatched ..))) h ?_
  have moves : (seat (abandon v p w).toBlocks p).context.transition ≠ none := moves
  rw [placeLatched_seat, abandon_seat at']
  rw [abandon_seat at'] at moves
  split at moves
  · rename_i latched
    rw [if_pos latched]
    exact K.latchedAfter at' wait unforced latched.1 c (h p)
  · exact absurd rfl moves

omit K in
theorem left_seat (p : Pos) (t : Transition) (w : Work) : seat (leaveOld p t w).toBlocks p = (seat w.toBlocks p).left t := by
  unfold Seat.left
  split
  · rename_i old
    rw [leaveOld_none _ _ old]
  · rename_i o old
    exact leaveOld_seat p w old

omit K in
theorem shed_seat (v : View) (p : Pos) (t : Transition) (w : Work) : seat (failCheck v p t w).toBlocks p = (seat w.toBlocks p).shed t := by
  unfold Seat.shed
  cases target : t.target with
  | none =>
    unfold failCheck
    rw [target]
    dsimp only
    rw [setContext_seat, dropEffective_seat]
    have context : (dropEffective v p w).context p = w.context p := by simp
    rw [context]
    rfl
  | some a =>
    rw [failCheck_seat p w v target]
    ext1
    case holding =>
      funext n
      simp [eq_comm]
    all_goals rfl

theorem ofSeats_leaveToMake {v : View} {m : StationMode} {w : Work} {p : Pos} {t : Transition} {a : Ant}
    (at' : (w.context p).transition = some t) (brk : t.phase = .brk) (target : t.target = some a)
    (h : ofSeats S v.bank m nobody w.toBlocks) : ofSeats S v.bank m nobody (beginMake v p t a (leaveOld p t w)).toBlocks := by
  refine ofSeats_at ((onlyAt_leaveOld p w t).trans (onlyAt_beginMake v p _ t a)) h ?_
  obtain ⟨y, made⟩ := beginMake_seat p (leaveOld p t w) v t a
  have left := left_seat p t w
  have context : (leaveOld p t w).context p = ((seat w.toBlocks p).left t).context := congrArg Seat.context left
  rw [made, left, context]
  exact K.leaveToMake y at' brk target (h p)

theorem ofSeats_leaveToEnd {v : View} {m : StationMode} {w : Work} {p : Pos} {t : Transition} (n : RouteCause) (x : Bool)
    (at' : (w.context p).transition = some t) (brk : t.phase = .brk) (target : t.target = none)
    (h : ofSeats S v.bank m nobody w.toBlocks) : ofSeats S v.bank m (fun q => q = p) (clearTransition (leaveOld p t w)
      ⟨p, if t.cause = .fault then .faulted else restState v.bank p, n, x⟩).toBlocks := by
  have left := left_seat p t w
  have context : (leaveOld p t w).context p = ((seat w.toBlocks p).left t).context := congrArg Seat.context left
  have still : ((leaveOld p t w).context p).transition = some t := by
    rw [context, Seat.left]
    split <;> exact at'
  intro q
  by_cases own : q = p
  · subst own
    have done := clearTransition_seat (leaveOld q t w) ⟨q, if t.cause = .fault then .faulted else restState v.bank q, n, x⟩ still
    dsimp only at done
    rw [done, left, context]
    exact at_true rfl (K.leaveToEnd at' brk target (h q))
  · rw [onlyAt_clearTransition _ _ q own, onlyAt_leaveOld p w t q own]
    exact at_false own (h q)

end

end Sys2Proof.Proofs.Seats

/-!
SUPPORT. The end of several transitions in CHECK, a latch, and fail-safe entry, as they come to each seat.
-/
namespace Sys2Proof.Proofs.Seats
open Sys2Proof Sys2Proof.Machine Sys2Proof.Proofs.Acting Sys2Proof.Proofs.Eventing Sys2Proof.Proofs.Choosing
open Sys2Proof.Proofs.Requesting Sys2Proof.Proofs.Moving Sys2Proof.Proofs.Following Sys2Proof.Proofs.Keeping

/-! ### The end of CHECK (R80) -/

/-- The seat `x` of a transition in CHECK has come to `y` and to the ending `e`. -/
def CheckDone (x y : Seat) (e : Ending) : Prop :=
  ∃ t, x.context.transition = some t ∧ t.phase = .check ∧
    ((x.latched = false ∧ e.state = .routed ∧ y = x) ∨ (e.state = .faulted ∧ y = x.shed t))

theorem checkOutcome_seats (v : View) (r : Work × List Ending) (p : Pos) {t : Transition} (at' : (r.1.context p).transition = some t)
    (check : t.phase = .check) : OnlyAt p r.1.toBlocks (checkOutcome v r p).1.toBlocks ∧
      ∃ e, (checkOutcome v r p).2 = r.2 ++ [e] ∧ e.pos = p ∧ CheckDone (seat r.1.toBlocks p) (seat (checkOutcome v r p).1.toBlocks p) e := by
  unfold checkOutcome
  rw [at']
  dsimp only
  split
  · exact ⟨onlyAt_failCheck v p r.1 t, _, rfl, rfl, t, at', check, .inr ⟨rfl, shed_seat v p t r.1⟩⟩
  · rename_i sound
    exact ⟨OnlyAt.refl p _, _, rfl, rfl, t, at', check, .inl ⟨Bool.eq_false_iff.2 sound, rfl, rfl⟩⟩

theorem checkOutcomes_seats (v : View) (ps : List Pos) (nodup : ps.Nodup) (r : Work × List Ending)
    (checks : ∀ p ∈ ps, ∃ t, (r.1.context p).transition = some t ∧ t.phase = .check) :
    (∀ q, q ∉ ps → seat (ps.foldl (checkOutcome v) r).1.toBlocks q = seat r.1.toBlocks q) ∧
    ∃ l, (ps.foldl (checkOutcome v) r).2 = r.2 ++ l ∧ l.map Ending.pos = ps ∧
      ∀ e ∈ l, CheckDone (seat r.1.toBlocks e.pos) (seat (ps.foldl (checkOutcome v) r).1.toBlocks e.pos) e := by
  induction ps generalizing r with
  | nil => exact ⟨fun _ _ => rfl, [], (List.append_nil _).symm, rfl, nofun⟩
  | cons p ps ih =>
    obtain ⟨later, nodup⟩ := List.nodup_cons.1 nodup
    obtain ⟨t, at', check⟩ := checks p List.mem_cons_self
    obtain ⟨only, e, ends, pos, done⟩ := checkOutcome_seats v r p at' check
    have others (q : Pos) (ne : q ≠ p) : (checkOutcome v r p).1.context q = r.1.context q := congrArg Seat.context (only q ne)
    obtain ⟨missed, l, ends', map, each⟩ := ih nodup (checkOutcome v r p) fun q hq => by
      rw [others q fun same => later (same ▸ hq)]
      exact checks q (List.mem_cons_of_mem _ hq)
    refine ⟨fun q out => ?_, e :: l, ?_, ?_, fun x hx => ?_⟩
    · rw [List.mem_cons, not_or] at out
      exact (missed q out.2).trans (only q out.1)
    · rw [List.foldl_cons, ends', ends, List.append_assoc, List.singleton_append]
    · rw [List.map_cons, map, pos]
    · rcases List.mem_cons.1 hx with rfl | hx
      · rw [List.foldl_cons, pos, missed p later]
        exact done
      · have mem : x.pos ∈ ps := map ▸ List.mem_map_of_mem hx
        have kept := each x hx
        rwa [only x.pos fun same => later (same ▸ mem)] at kept

theorem cleared_seat (w : Work) (e : Ending) {t : Transition} (at' : (w.context e.pos).transition = some t) :
    seat (clearTransition w e).toBlocks e.pos = (seat w.toBlocks e.pos).cleared t e.state := clearTransition_seat w e at'

section
variable {S : SeatLaw} {ok : Cause → Prop} (K : KeepsSeats S ok)
include K

theorem ofSeats_checksEnded {v : View} {m : StationMode} {w : Work} {ps : List Pos} (nodup : ps.Nodup)
    (checks : ∀ p ∈ ps, ∃ t, (w.context p).transition = some t ∧ t.phase = .check) (h : ofSeats S v.bank m nobody w.toBlocks) :
    ofSeats S v.bank m (fun q => q ∈ ps) (checksEnded v ps w).toBlocks := by
  obtain ⟨missed, l, ends, map, done⟩ := checkOutcomes_seats v ps nodup (w, []) checks
  rw [List.nil_append] at ends
  unfold checksEnded
  rw [ends]
  generalize (ps.foldl (checkOutcome v) (w, [])).1 = w₁ at missed done
  obtain ⟨missed', turns⟩ := foldl_seats clearTransition Ending.pos (fun w e => onlyAt_clearTransition w e) l w₁
  intro q
  by_cases mem : q ∈ ps
  · obtain ⟨e, he, rfl⟩ := List.mem_map.1 (map ▸ mem)
    obtain ⟨l₁, l₂, -, before, after⟩ := turns e he (map ▸ nodup)
    refine at_true mem ?_
    obtain ⟨t, at', check, ⟨sound, state, same⟩ | ⟨state, shed⟩⟩ := done e he
    · have still : ((l₁.foldl clearTransition w₁).context e.pos).transition = some t := by
        rw [← at', ← same, ← before]
        rfl
      rw [after, cleared_seat _ e still, before, same, state]
      exact K.checkPassed at' check sound (h e.pos)
    · have still : ((l₁.foldl clearTransition w₁).context e.pos).transition = some t := by
        rw [← at']
        exact congrArg (fun x : Seat => x.context.transition) (before.trans shed)
      rw [after, cleared_seat _ e still, before, shed, state]
      exact K.checkFailed at' check (h e.pos)
  · rw [missed' q (map.symm ▸ mem), missed q mem]
    exact at_false mem (h q)

/-! ### A latch (R116) -/

omit K in
theorem touches_takeFault (v : View) (c : Coil) (w : Work) (p : Pos) : Touches p w (takeFault v c w p) := by
  unfold takeFault
  split
  · split
    · split
      · exact (touches_faultRoute v p w).trans (touches_raise (.inr (by rfl)) _)
      · exact Touches.refl p w
    · split
      · exact touches_withdraw v p _ none w
      · exact Touches.refl p w
  · exact Touches.refl p w

/-- The latch of a coil as it stands, before the routes take it. -/
theorem ofSeats_takeFault {v : View} {b : Bank} {m : StationMode} {w : Work} {p : Pos} {c : Coil} {y : Bool} {x : Seat}
    (now : seat w.toBlocks p = { x with latched := y })
    (other : ((w.claims p).effective.any fun k => decide (k.coil = c)) = false → y = x.latched) (h : S b m p False x) :
    S b m p False (seat (takeFault v c w p).toBlocks p) := by
  have context : w.context p = x.context := congrArg Seat.context now
  unfold takeFault
  rw [context]
  split
  · split
    · rename_i loose
      split
      · rename_i routed
        change S b m p False (seat (faultRoute v p w).toBlocks p)
        rw [faultRoute_seat, now]
        exact K.fault routed loose h
      · rename_i other
        rw [now]
        exact K.latched (fun routed => absurd routed other) h
    · rename_i t at'
      have moves : S b m p False { x with latched := y } := K.latched (fun _ => by rw [at']; exact nofun) h
      split
      · rw [withdraw_seat, now]
        exact K.key (quiets_keptOff v.bank .fault x.key).1 moves
      · rw [now]
        exact moves
  · rename_i spared
    rw [now, other (Bool.eq_false_iff.2 spared)]
    exact h

theorem ofSeats_latched {v : View} {m : StationMode} {w : Work} (c : Coil) (k : Latch) (h : ofSeats S v.bank m nobody w.toBlocks) :
    ofSeats S v.bank m nobody (latched v c k w).toBlocks := by
  have set : ∃ w₁ : Work, latched v c k w = positions.foldl (takeFault v c) w₁ ∧ w₁.classifier = w.classifier ∧
      w₁.routes = w.routes ∧ w₁.image.claims = w.image.claims ∧ w₁.gate = w.gate ∧
      ∀ d, d ≠ c → w₁.monitor.get d = w.monitor.get d := by
    refine ⟨_, rfl, ?_⟩
    have other (d : Coil) (ne : d ≠ c) : (setLatch c k w).monitor.get d = w.monitor.get d := put_get_other _ _ ne
    split
    · exact ⟨rfl, rfl, rfl, rfl, other⟩
    · exact ⟨rfl, rfl, rfl, rfl, other⟩
  obtain ⟨w₁, eq, classifier, routes, claims, gate, monitor⟩ := set
  obtain ⟨-, turns⟩ := foldl_seats (takeFault v c) id (fun w p => onlyAt_of_touches (touches_takeFault v c w p)) positions w₁
  rw [eq]
  intro p
  obtain ⟨l₁, l₂, parts, before, after⟩ := turns p (List.mem_finRange p) (by rw [List.map_id]; exact List.nodup_finRange 6)
  have out : p ∉ l₁ := by
    have nodup : (l₁ ++ p :: l₂).Nodup := parts ▸ List.nodup_finRange 6
    exact fun mem => (List.nodup_append.1 nodup).2.2 p mem p List.mem_cons_self rfl
  have stands : (l₁.foldl (takeFault v c) w₁).claims p = w₁.claims p ∧ (l₁.foldl (takeFault v c) w₁).monitor = w₁.monitor :=
    List.foldlRecOn (motive := fun u : Work => u.claims p = w₁.claims p ∧ u.monitor = w₁.monitor) l₁ (takeFault v c) ⟨rfl, rfl⟩
      fun u kept q hq => by
        have touches := touches_takeFault v c u q
        exact ⟨(touches.claims p fun same => out (same ▸ hq)).trans kept.1, touches.monitor.trans kept.2⟩
  have now := before.trans (seat_relatched classifier routes claims gate p)
  rw [show id p = p from rfl] at after now
  rw [after]
  refine ofSeats_takeFault K now (fun spared => ?_) (h p)
  rw [stands.1] at spared
  have same (d : Claim) (mem : d ∈ (w₁.image.claims.get p).effective) : w₁.monitor.get d.coil = w.monitor.get d.coil :=
    monitor _ fun own => by
      rw [List.any_eq_false] at spared
      exact spared d mem (decide_eq_true own)
  change latchedRoute w₁.toBlocks p = latchedRoute w.toBlocks p
  rw [Bool.eq_iff_iff, latchedRoute_iff, latchedRoute_iff, ← claims]
  exact exists_congr fun d => and_congr_right fun mem => by rw [same d mem]

/-! ### Fail-safe entry (R64, R171) -/

omit K in
theorem settledGroups_seats (l : List Group) (w : Work) (p : Pos) : seat (l.foldl settleGroup w).toBlocks p = seat w.toBlocks p :=
  foldl_frame (fun w : Work => seat w.toBlocks p) settleGroup (fun w g => by
    unfold settleGroup
    split <;> rfl) l w

omit K in
theorem recomputeAll_seats (v : View) (l : List Coil) (w : Work) (p : Pos) : seat (recomputeAll v l w).toBlocks p = seat w.toBlocks p := by
  obtain ⟨classifier, monitor, routes, claims, -, -, gate, -⟩ := recomputeAll_frame v l w
  exact seat_same p classifier monitor routes claims gate

omit K in
theorem entryBlocks_seat (v : View) (w : Work) (p : Pos) : seat (entryBlocks v w).toBlocks p =
    (seat w.toBlocks p).closed v.bank p (seat (positions.foldl (gateFailSafe v) w).toBlocks p).key := by
  have gate (w : Work) (q : Pos) : (gateFailSafe v w q).classifier = w.classifier ∧ (gateFailSafe v w q).routes = w.routes := by
    obtain ⟨classifier, -, routes, -⟩ := gateFailSafe_frame v w q
    exact ⟨classifier, routes⟩
  have classifier : (positions.foldl (gateFailSafe v) w).classifier = w.classifier :=
    foldl_frame (fun w : Work => w.classifier) (gateFailSafe v) (fun w q => (gate w q).1) positions w
  have routes : (positions.foldl (gateFailSafe v) w).routes = w.routes :=
    foldl_frame (fun w : Work => w.routes) (gateFailSafe v) (fun w q => (gate w q).2) positions w
  have drained (w : Work) : seat (if anyTail w.toBlocks then w else recomputeAll v coils (w.setSource .safe)).toBlocks p =
      seat w.toBlocks p := by
    split
    · rfl
    · exact recomputeAll_seats v coils _ p
  unfold entryBlocks
  dsimp only
  rw [drained, settledGroups_seats]
  generalize positions.foldl (gateFailSafe v) w = g at classifier routes
  ext1
  case context =>
    change (clearRoutes v.bank g.routes).contexts.get p = _
    rw [routes]
    exact ofFn_get ..
  case entry =>
    change (g.classifier.get p).entry = _
    rw [classifier]
    rfl
  case key => rfl
  all_goals
    simp [seat, latchedRoute, clearRoutes, CoilImage.freeze, Seat.closed, AntennaRecord.reset, PosSet.empty]

theorem ofSeats_entry {v : View} {m : StationMode} {w : Work} (h : ofSeats S v.bank m nobody w.toBlocks) :
    ofSeats S v.bank .failsafe nobody (entryBlocks v w).toBlocks := by
  have moved (w : Work) (q : Pos) : OnlyAt q w.toBlocks (gateFailSafe v w q).toBlocks := by
    obtain ⟨⟨k, rekeyed, -⟩, -⟩ := quietsAt_gateFailSafe (v := v) (p := q) (w := w)
    exact rekeyed.others
  obtain ⟨-, turns⟩ := foldl_seats (gateFailSafe v) id moved positions w
  intro p
  obtain ⟨l₁, l₂, -, before, after⟩ := turns p (List.mem_finRange p) (by rw [List.map_id]; exact List.nodup_finRange 6)
  obtain ⟨⟨k, rekeyed, quiets⟩, off⟩ := quietsAt_gateFailSafe (v := v) (p := p) (w := l₁.foldl (gateFailSafe v) w)
  have key : (seat (positions.foldl (gateFailSafe v) w).toBlocks p).key = k :=
    (congrArg Seat.key after).trans (congrArg Seat.key rekeyed.own)
  rw [rekeyed.keys, put_get_same] at off
  have begun : (l₁.foldl (gateFailSafe v) w).gate.keys.get p = (seat w.toBlocks p).key := congrArg Seat.key before
  rw [begun] at quiets
  rw [entryBlocks_seat, key]
  exact K.closed quiets off (h p)

/-- The operations of the events that need nothing of the other positions keep a law of the seats. -/
theorem own_of_seats : KeepsOwn (ofSeats S) ok where
  request := K.request
  follow := K.follow
  slot {_ _ _ _ p _} h at' := K.slot (h p) at'
  frame h classifier routes claims gate clear := ofSeats_frame K h classifier routes claims gate clear
  record same h := ofSeats_record same h
  classify x h := ofSeats_classify K x h
  mode {_ _ w p} x h := ofSeats_at (onlyAt_of_touches (touches_setContext p _ w)) h
    (by rw [setContext_seat]; exact K.settings x (le_refl _) (h p))
  pop {_ _ w p a rest} top h := ofSeats_at (onlyAt_of_touches (touches_setContext p _ w)) h (by
    rw [setContext_seat]
    exact K.settings _ (l := rest) (le_of_le_of_eq (Nat.le_succ _) (congrArg List.length top).symm) (h p))
  keyUp h := ofSeats_quiets K quietsAt_keyUp h
  tailEnd h := ofSeats_quiets K quietsAt_tailEnd h
  keyWaitEnd {_ _ _ p _} waiting h :=
    ofSeats_quiets K (p := p) (quietsAt_keyWaitEnd waiting) h
  retime {_ _ w p _} x y at' wait h := ofSeats_at (onlyAt_of_touches (touches_setContext p _ w)) h
    (by rw [withTransition, setContext_seat]; exact K.retime x y at' wait (h p))
  check {_ _ w p _} at' make h := ofSeats_at (onlyAt_of_touches (touches_setContext p _ w)) h
    (by rw [withTransition, setContext_seat]; exact K.check at' make (h p))
  latch {_ _ w p _ kind cause} at' passed c h := ofSeats_at (onlyAt_of_touches (touches_placeLatched p kind cause w)) h
    (by rw [placeLatched_seat]; exact K.latch at' passed c (h p))
  recause {_ _ w p _ _} at' wait unforced c h := ofSeats_at (onlyAt_of_touches (touches_setContext p _ w)) h
    (by rw [withTransition, setContext_seat]; exact K.recause at' wait unforced c (h p))
  abandon at' wait unforced h := ofSeats_abandon K at' wait unforced h
  abandonHold at' wait unforced c loose h := ofSeats_abandonHold K at' wait unforced c loose h
  abandonLatch at' wait unforced c moves h := ofSeats_abandonLatch K at' wait unforced c moves h
  leaveToMake at' brk target h := ofSeats_leaveToMake K at' brk target h
  leaveToEnd n x at' brk target h := ofSeats_leaveToEnd K n x at' brk target h
  checksEnded nodup checks h := ofSeats_checksEnded K nodup checks h
  latched c k h := ofSeats_latched K c k h
  entry h := ofSeats_entry K h
  resume h p := K.resume (h p)

end

end Sys2Proof.Proofs.Seats

/-!
SUPPORT. The operations of the events that a test over the other positions lets pass, for a law of the seats: what the test finds is
an assumption of the law (`KeepsStarts`), on the room of an antenna, on the air over it, and on its stillness.
-/
namespace Sys2Proof.Proofs.Seats
open Sys2Proof Sys2Proof.Machine Sys2Proof.Proofs.Acting Sys2Proof.Proofs.Eventing Sys2Proof.Proofs.Choosing
open Sys2Proof.Proofs.Requesting Sys2Proof.Proofs.Moving Sys2Proof.Proofs.Following Sys2Proof.Proofs.Keeping

/-! ### What the tests find -/

theorem walk_target {v : View} {w : Blocks} {p : Pos} {n : Band} {l : List Nat} {passed : Bool} {o : Option Ant}
    (h : preferenceWalk v w p n passed l = .target o) :
    ∃ a, o = some a ∧ (w.routes.contexts.get p).antenna ≠ some a ∧ available v.bank w a p = true := by
  induction l generalizing passed with
  | nil =>
    unfold preferenceWalk at h
    split at h <;> cases h
  | cons k l ih =>
    unfold preferenceWalk at h
    split at h
    · exact ih h
    · rename_i a _
      split at h
      · split at h
        · cases h
        · rename_i other
          split at h
          · rename_i room
            cases h
            exact ⟨a, rfl, other, room⟩
          · exact ih h
      · exact ih h

/-- A target that selection names is another than the current antenna, and open to the position (R42, R45). -/
theorem selection_target {v : View} {w : Blocks} {p : Pos} {kind : RequestKind} {o : Option Ant}
    (h : selection v w p kind = .target o) :
    o ≠ (w.routes.contexts.get p).antenna ∧ ∀ a, o = some a → openTo v.bank w a p = true := by
  have open_of {a : Ant} (room : available v.bank w a p = true) : openTo v.bank w a p = true := by
    rw [available, Bool.and_eq_true] at room
    exact room.1
  unfold selection at h
  split at h
  · split at h
    · cases h
    · obtain ⟨a, rfl, other, room⟩ := walk_target h
      exact ⟨fun same => other same.symm, fun n e => Option.some.inj e ▸ open_of room⟩
  · split at h
    · split at h
      · cases h
      · rename_i other
        split at h
        · rename_i room
          cases h
          exact ⟨fun same => other same.symm, fun n e => Option.some.inj e ▸ open_of room⟩
        · cases h
    · cases h
  · split at h
    · cases h
    · rename_i held
      cases h
      exact ⟨fun none => held none.symm, nofun⟩

theorem openTo_of_antennas {b : Bank} {w w' : Blocks} (antennas : w'.routes.antennas = w.routes.antennas) (a : Ant) (p : Pos) :
    openTo b w' a p = openTo b w a p := by
  unfold openTo
  rw [antennas]

theorem admission_none {v : View} {p : Pos} (h : admission v p = none) : v.mode = .normal ∧ enabled v.bank p = true := by
  unfold admission at h
  split at h
  · cases h
  · rename_i normal
    split at h
    · rename_i on
      exact ⟨not_not.1 normal, on⟩
    · cases h

/-- A grant test that is passed (R131). -/
theorem grantTest_passed {v : View} {w : Blocks} {p : Pos} (h : grantTest v w p = none) :
    v.mode = .normal ∧ (w.routes.contexts.get p).state = .routed ∧ mismatch v.bank w p = false ∧
      ∀ a, (w.routes.contexts.get p).antenna = some a →
        (w.routes.antennas.get a).holds = PosSet.empty ∧ liveHolder w p a = none := by
  unfold grantTest at h
  dsimp only at h
  split at h
  · cases h
  rename_i normal
  split at h
  · cases h
  split at h
  · cases h
  rename_i routed
  split at h
  · cases h
  split at h
  · cases h
  rename_i matching
  split at h
  · cases h
  refine ⟨not_not.1 normal, not_not.1 routed, Bool.eq_false_iff.2 matching, fun a current => ?_⟩
  rw [current] at h
  dsimp only at h
  split at h
  · cases h
  rename_i unheld
  split at h
  · cases h
  · rename_i quiet
    exact ⟨not_not.1 unheld, quiet⟩

/-! ### The seats that a test lets pass -/

/-- The seat of a position with no transition after a request of this outcome (R48). -/
def Seat.acted (v : View) (p : Pos) (kind : RequestKind) (cause : Cause) (sel : Selection) (x : Seat) : Seat :=
  match sel with
  | .refused _ => x
  | .current => { x with context := { x.context with
      state := if kind = .release ∧ x.context.state = .faulted then .idle else x.context.state } }
  | .target o => x.started v p kind cause o x.context.state
  | .held => x.withSlot (some ⟨kind, .held, cause⟩) (x.held + 1)

/-- A target of the outcome is another antenna than the current one, and has room for the position. -/
def Selects (room : Pos → Ant → Prop) (p : Pos) (current : Option Ant) (sel : Selection) : Prop :=
  ∀ o, sel = .target o → o ≠ current ∧ ∀ a, o = some a → room p a

/-- The operations on one position that a test over the others lets pass keep the law `S` of its seat: `room` says what selection
finds of a target, `air` what the grant test finds of the current antenna, and `still` what the quiet condition finds of an antenna. -/
structure KeepsStarts (S : SeatLaw) (ok : Cause → Prop) (room air : Pos → Ant → Prop) (still : Ant → Prop) : Prop where
  granted : ∀ {b p x}, x.context.state = .routed → x.fits b → (∀ a, x.context.antenna = some a → air p a) →
    S b .normal p False x → S b .normal p False { x with key := grantedKey }
  chosen : ∀ {v : View} {p x k c sel}, enabled v.bank p = true → x.context.transition = none → ok c →
    Selects room p x.context.antenna sel → S v.bank .normal p False x → S v.bank .normal p False (x.unheld.acted v p k c sel)
  heldDropped : ∀ {b m p e x}, asksHeld x.context = true → S b m p e x → S b m p e (x.withSlot none 0)
  heldStarted : ∀ {v : View} {m p e x r o}, x.context.slot = some r → r.status = .held →
    Selects room p x.context.antenna (.target o) → S v.bank m p e x →
    S v.bank m p e ((x.withSlot none 0).started v p r.kind r.cause o x.context.state)
  latchedDropped : ∀ {b m p x}, S b m p True x → S b m p False (x.withSlot none x.held)
  latchedChosen : ∀ {v : View} {p x r sel}, enabled v.bank p = true → x.context.slot = some r →
    Selects room p x.context.antenna sel → S v.bank .normal p True x →
    S v.bank .normal p False ((x.withSlot none x.held).acted v p r.kind r.cause sel)
  replaced : ∀ {v : View} {m p x t k c o}, x.context.transition = some t → t.phase = .wait → t.cause.forced = false → ok c →
    o ≠ t.target → Selects room p x.context.antenna (.target o) → S v.bank m p False x →
    S v.bank m p False (x.retargeted v p t k c o)
  broken : ∀ {b m p x t o} (cs : List Claim), x.context.transition = some t → t.phase = .wait → isLive x.key = false →
    (∀ a, t.old = some a ∨ t.target = some a → still a) → t.old = some o → S b m p False x → S b m p False (x.broken b t cs)
  made : ∀ {b m p x t a} (y : Bool), x.context.transition = some t → t.phase = .wait → isLive x.key = false →
    (∀ a, t.old = some a ∨ t.target = some a → still a) → t.old = none → t.target = some a → S b m p False x →
    S b m p False (x.made b t a y)

section
variable (v : View) (p : Pos) (w : Work)

theorem acted_seat (kind : RequestKind) (cause : Cause) (sel : Selection) : seat (chosen v p kind cause sel w).toBlocks p =
    (seat w.toBlocks p).acted v p kind cause sel := by
  cases sel with
  | refused r => rfl
  | current => exact chosen_seat p w v kind cause
  | target o => exact startTransition_seat ..
  | held => exact placeHeld_seat ..

end

section
variable {S : SeatLaw} {ok : Cause → Prop} {room air : Pos → Ant → Prop} {still : Ant → Prop}
  (K : KeepsSeats S ok) (T : KeepsStarts S ok room air still)

theorem selects_of_openTo {v : View} {w w' : Blocks} {p : Pos} {kind : RequestKind} (antennas : w'.routes.antennas = w.routes.antennas)
    (opens : ∀ a, openTo v.bank w a p = true → room p a) :
    Selects room p (w'.routes.contexts.get p).antenna (selection v w' p kind) := fun o target => by
  obtain ⟨other, room⟩ := selection_target target
  exact ⟨other, fun a e => opens a (openTo_of_antennas antennas a p ▸ room a e)⟩

include T

theorem ofSeats_granted {v : View} {w w' : Blocks} {p : Pos} (passed : grantTest v w p = none) (rekeyed : Rekeys p grantedKey w w')
    (clear : ∀ a, (w.routes.contexts.get p).antenna = some a → (w.routes.antennas.get a).holds = PosSet.empty →
      liveHolder w p a = none → air p a) (h : ofSeats S v.bank v.mode nobody w) : ofSeats S v.bank v.mode nobody w' := by
  obtain ⟨normal, routed, matching, antenna⟩ := grantTest_passed passed
  refine ofSeats_at rekeyed.others h ?_
  rw [rekeyed.own, normal]
  refine T.granted (x := seat w p) routed ((fits_iff ..).2 matching) (fun a current => ?_) (normal ▸ h p)
  obtain ⟨unheld, quiet⟩ := antenna a current
  exact clear a current unheld quiet

theorem ofSeats_choose {v : View} {w : Work} {p : Pos} {kind : RequestKind} {cause : Cause} (admitted : admission v p = none)
    (loose : (w.context p).transition = none) (c : ok cause) (opens : ∀ a, openTo v.bank w.toBlocks a p = true → room p a)
    (h : ofSeats S v.bank v.mode nobody w.toBlocks) : ofSeats S v.bank v.mode nobody
      (chosen v p kind cause (selection v (dropHeld p w).toBlocks p kind) (dropHeld p w)).toBlocks := by
  obtain ⟨normal, on⟩ := admission_none admitted
  refine ofSeats_at (onlyAt_of_touches ((touches_dropHeld p w).trans (touches_chosen ..))) h ?_
  have selects : Selects room p (seat (dropHeld p w).toBlocks p).context.antenna (selection v (dropHeld p w).toBlocks p kind) :=
    selects_of_openTo (dropHeld_frame p w).2.2.1 opens
  have current : (seat (dropHeld p w).toBlocks p).context.antenna = (seat w.toBlocks p).context.antenna := by
    rw [dropHeld_seat, Seat.unheld]
    split <;> rfl
  rw [acted_seat, dropHeld_seat, normal]
  exact T.chosen on loose c (current ▸ selects) (normal ▸ h p)

theorem ofSeats_heldEntry {v : View} {e : Pos → Prop} {w : Work} {p : Pos}
    (opens : ∀ a, openTo v.bank w.toBlocks a p = true → room p a) (h : ofSeats S v.bank v.mode e w.toBlocks) :
    ofSeats S v.bank v.mode e (heldEntry v w p).toBlocks := by
  refine ofSeats_at (onlyAt_of_touches (touches_heldEntry v w p)) h ?_
  unfold heldEntry
  split
  · exact h p
  rename_i r slot
  split
  · exact h p
  rename_i held
  have selects : Selects room p (seat w.toBlocks p).context.antenna (selection v w.toBlocks p r.kind) := selects_of_openTo rfl opens
  have asks : asksHeld (seat w.toBlocks p).context = true := asksHeld_iff.2 ⟨r, slot, held⟩
  have dropped : S v.bank v.mode p (e p) (seat (leaveHeld p w).toBlocks p) := by
    rw [leaveHeld_seat]
    exact T.heldDropped asks (h p)
  split
  · exact h p
  · rename_i o target
    rw [target] at selects
    change S _ _ _ _ (seat (startTransition ..).toBlocks p)
    rw [startTransition_seat, leaveHeld_seat]
    exact T.heldStarted slot held selects (h p)
  · exact dropped
  · exact dropped

theorem ofSeats_startLatched {v : View} {e : Pos → Prop} {w : Work} {p : Pos} (ended : e p)
    (opens : ∀ a, openTo v.bank w.toBlocks a p = true → room p a) (h : ofSeats S v.bank v.mode e w.toBlocks) :
    ofSeats S v.bank v.mode (fun q => e q ∧ q ≠ p) (startLatched v p w).1.toBlocks := by
  have behind : OnlyAt p w.toBlocks (startLatched v p w).1.toBlocks ∧
      S v.bank v.mode p False (seat (startLatched v p w).1.toBlocks p) := by
    have now : S v.bank v.mode p True (seat w.toBlocks p) := eq_true ended ▸ h p
    have dropped : S v.bank v.mode p False ((seat w.toBlocks p).withSlot none (seat w.toBlocks p).held) := T.latchedDropped now
    have without : seat (w.setContext p { w.context p with slot := none }).toBlocks p =
        (seat w.toBlocks p).withSlot none (seat w.toBlocks p).held := setContext_seat ..
    unfold startLatched
    split
    · rename_i slot
      refine ⟨OnlyAt.refl p _, ?_⟩
      have same : (seat w.toBlocks p).withSlot none (seat w.toBlocks p).held = seat w.toBlocks p := by
        rw [← slot]
        rfl
      exact same ▸ dropped
    · rename_i r slot
      dsimp only
      split
      · exact ⟨onlyAt_of_touches (touches_setContext p _ w), without.symm ▸ dropped⟩
      · rename_i admitted
        obtain ⟨normal, on⟩ := admission_none admitted
        rw [actOnSelection_eq]
        refine ⟨onlyAt_of_touches ((touches_setContext p _ w).trans (touches_chosen ..)), ?_⟩
        have selects : Selects room p (seat (w.setContext p { w.context p with slot := none }).toBlocks p).context.antenna
            (selection v (w.setContext p { w.context p with slot := none }).toBlocks p r.kind) := selects_of_openTo rfl opens
        rw [without] at selects
        rw [acted_seat, without, normal]
        exact T.latchedChosen on slot selects (normal ▸ now)
  intro q
  by_cases own : q = p
  · subst own
    exact at_false (fun ⟨_, ne⟩ => ne rfl) behind.2
  · rw [behind.1 q own]
    change S v.bank v.mode q (e q ∧ q ≠ p) (seat w.toBlocks q)
    rw [and_iff_left own]
    exact h q

theorem ofSeats_replace {v : View} {m : StationMode} {w : Work} {p : Pos} {t : Transition} {kind : RequestKind} {cause : Cause}
    {o : Option Ant} (at' : (w.context p).transition = some t) (wait : t.phase = .wait) (unforced : t.cause.forced = false)
    (c : ok cause) (target : selection v w.toBlocks p kind = .target o) (other : o ≠ t.target)
    (opens : ∀ a, openTo v.bank w.toBlocks a p = true → room p a) (h : ofSeats S v.bank m nobody w.toBlocks) :
    ofSeats S v.bank m nobody (replaceTarget v p t kind cause o w).toBlocks := by
  refine ofSeats_at (onlyAt_of_touches (touches_replaceTarget v p t kind cause o w)) h ?_
  have selects : Selects room p (seat w.toBlocks p).context.antenna (selection v w.toBlocks p kind) := selects_of_openTo rfl opens
  rw [target] at selects
  rw [replaceTarget_seat]
  exact T.replaced at' wait unforced c other selects (h p)

omit T in
/-- The quiet condition as it finds the position and the antennas of its transition (R70). -/
theorem quiet_finds {v : View} {w : Blocks} {p : Pos} {t : Transition} (h : quiet v w p t = true) :
    isLive (seat w p).key = false ∧ ∀ a, t.old = some a ∨ t.target = some a → holdersQuiet w (some a) = true := by
  unfold quiet at h
  simp only [Bool.and_eq_true, Bool.not_eq_true'] at h
  obtain ⟨⟨⟨⟨live, old⟩, target⟩, -⟩, -⟩ := h
  refine ⟨live, fun a on => ?_⟩
  rcases on with on | on
  · exact on ▸ old
  · exact on ▸ target

theorem ofSeats_beginBreak {v : View} {m : StationMode} {w : Work} {p : Pos} {t : Transition} {o : Ant}
    (at' : (w.context p).transition = some t) (wait : t.phase = .wait) (q : quiet v w.toBlocks p t = true) (old : t.old = some o)
    (stills : ∀ a, t.old = some a ∨ t.target = some a → holdersQuiet w.toBlocks (some a) = true → still a)
    (h : ofSeats S v.bank m nobody w.toBlocks) : ofSeats S v.bank m nobody (beginBreak v p t w).toBlocks := by
  obtain ⟨dead, calm⟩ := quiet_finds q
  refine ofSeats_at (onlyAt_beginBreak v p w t) h ?_
  rw [beginBreak_seat]
  exact T.broken _ at' wait dead (fun a on => stills a on (calm a on)) old (h p)

theorem ofSeats_beginMake {v : View} {m : StationMode} {w : Work} {p : Pos} {t : Transition} {a : Ant}
    (at' : (w.context p).transition = some t) (wait : t.phase = .wait) (q : quiet v w.toBlocks p t = true) (old : t.old = none)
    (target : t.target = some a)
    (stills : ∀ a, t.old = some a ∨ t.target = some a → holdersQuiet w.toBlocks (some a) = true → still a)
    (h : ofSeats S v.bank m nobody w.toBlocks) : ofSeats S v.bank m nobody (beginMake v p t a w).toBlocks := by
  obtain ⟨dead, calm⟩ := quiet_finds q
  refine ofSeats_at (onlyAt_beginMake v p w t a) h ?_
  obtain ⟨y, made⟩ := beginMake_seat p w v t a
  rw [made]
  exact T.made y at' wait dead (fun n on => stills n on (calm n on)) old target (h p)

/-- A law of the seats that asks nothing of the tests is kept by the operations that they let pass. -/
theorem shared_of_seats (K : KeepsSeats S ok) (rooms : ∀ p a, room p a) (airs : ∀ p a, air p a) (stills : ∀ a, still a)
    (reset : ∀ current, ofSeats S Bank.empty .starting nobody (Blocks.reset current))
    (apply : ∀ {old : Bank} {v : View} {w : Work}, ofSeats S old v.mode nobody w.toBlocks →
      ofSeats S v.bank v.mode nobody (applyAtoD old v w).toBlocks) : KeepsShared (ofSeats S) ok where
  keyDown accepts _ h := (keyDown_cases accepts).elim (fun quiets => ofSeats_quiets K quiets h) fun ⟨passed, rekeyed⟩ =>
    ofSeats_granted T passed rekeyed (fun a _ _ _ => airs _ a) h
  walkEntry h := walkEntry_cases.elim (fun quiets => ofSeats_quiets K quiets h) fun ⟨passed, rekeyed⟩ =>
    ofSeats_granted T passed rekeyed (fun a _ _ _ => airs _ a) h
  choose admitted loose c h := ofSeats_choose T admitted loose c (fun a _ => rooms _ a) h
  heldEntry h := ofSeats_heldEntry T (fun a _ => rooms _ a) h
  startLatched ended h := ofSeats_startLatched T ended (fun a _ => rooms _ a) h
  replace at' wait unforced c target other h := ofSeats_replace T at' wait unforced c target other (fun a _ => rooms _ a) h
  beginBreak at' wait q old h := ofSeats_beginBreak T at' wait q old (fun a _ _ => stills a) h
  beginMake at' wait q old target h := ofSeats_beginMake T at' wait q old target (fun a _ _ => stills a) h
  reset := reset
  apply _ h := apply h

end

end Sys2Proof.Proofs.Seats

/-!
SUPPORT. The reset, load completion and the steps A to D of an apply, as they come to each seat (R160 to R163, R178, R181).
-/
namespace Sys2Proof.Proofs.Seats
open Sys2Proof Sys2Proof.Machine Sys2Proof.Proofs.Acting Sys2Proof.Proofs.Eventing Sys2Proof.Proofs.Choosing
open Sys2Proof.Proofs.Requesting Sys2Proof.Proofs.Moving Sys2Proof.Proofs.Following Sys2Proof.Proofs.Keeping

/-! ### Folds over every position -/

/-- A fold of an operation per position, each with a seat of its own to come to. -/
theorem foldl_positions (f : Work → Pos → Work) (only : ∀ w p, OnlyAt p w.toBlocks (f w p).toBlocks) (w : Work) (p : Pos) :
    ∃ u : Work, seat u.toBlocks p = seat w.toBlocks p ∧
      seat (positions.foldl f w).toBlocks p = seat (f u p).toBlocks p := by
  obtain ⟨-, turns⟩ := foldl_seats f id only positions w
  obtain ⟨l₁, l₂, -, before, after⟩ := turns p (List.mem_finRange p) (by rw [List.map_id]; exact List.nodup_finRange 6)
  exact ⟨_, before, after⟩

/-! ### The reset (R178) -/

/-- The seat of a position after a reset. -/
def Seat.fresh : Seat :=
  { context := Context.reset, held := 0, reserved := [], holding := fun _ => 0, reserving := fun _ => 0, hold := fun _ => false
    key := KeyRecord.reset, entry := none, latched := false }

theorem reset_seat (currents : Coil → Nat) (p : Pos) : seat (Blocks.reset currents) p = Seat.fresh := by
  unfold seat Seat.fresh latchedRoute Blocks.reset
  simp [Routes.reset, CoilImage.reset, Gate.reset, AntennaRecord.reset, PosSet.empty, ClassRecord.reset]

/-! ### Load completion (R181) -/

/-- The seat at load completion, with key record `k`. -/
def Seat.loaded (b : Bank) (p : Pos) (k : KeyRecord) (latched : Bool) (x : Seat) : Seat :=
  { x with
    context := { x.context with state := restState b p, mode := (b.positions.get p).defaultMode }
    key := k, entry := none, latched := latched }

theorem loadRecord_onlyAt (v : View) (w : Work) (p : Pos) : OnlyAt p w.toBlocks (loadRecord v w p).toBlocks := by
  intro q ne
  unfold loadRecord
  dsimp only
  split
  · rw [setRecord_seat, if_neg ne]
  · rw [startSettle, setRecord_seat, if_neg ne, setRecord_seat, if_neg ne]

theorem loadRecord_seat (v : View) (w : Work) (p : Pos) : seat (loadRecord v w p).toBlocks p =
    { seat w.toBlocks p with entry := none } := by
  have entry : (((w.setRecord p { ClassRecord.reset with source := (v.bank.positions.get p).source })).record p).entry = none := by
    change ((put w.classifier p _).get p).entry = none
    rw [put_get_same]
    rfl
  unfold loadRecord
  dsimp only
  split
  · rw [setRecord_seat, if_pos rfl]
    rfl
  · rw [startSettle, setRecord_seat, if_pos rfl, setRecord_seat]
    dsimp only
    rw [entry]

theorem loadKey_rekeys (v : View) (keys : Vector Bool 6) (w : Work) (p : Pos) :
    ∃ k, Rekeys p k w.toBlocks (loadKey v keys w p).toBlocks ∧ k.state ≠ .on ∧ isLive k = false := by
  have twice (k : KeyRecord) : put (put w.gate.keys p KeyRecord.reset) p k = put w.gate.keys p k := by
    refine vector_ext fun q => ?_
    simp only [put_get]
    split <;> rfl
  unfold loadKey
  dsimp only
  split
  · split
    · refine ⟨_, ⟨rfl, rfl, rfl, rfl, twice _⟩, nofun, ?_⟩
      simp [isLive, KeyRecord.reset]
    · exact ⟨_, ⟨rfl, rfl, rfl, rfl, twice _⟩, nofun, rfl⟩
  · exact ⟨_, ⟨rfl, rfl, rfl, rfl, rfl⟩, nofun, rfl⟩

/-- The coils are reclassified, and no latch moves (R111). -/
theorem reclassifyCoils_seat (v : View) (w : Work) (p : Pos) : seat (coils.foldl (reclassifyCoil v) w).toBlocks p = seat w.toBlocks p :=
  foldl_frame (fun w : Work => seat w.toBlocks p) (reclassifyCoil v) (fun w c => by
    obtain ⟨classifier, routes, image, gate, -⟩ := reclassifyCoil_frame v w c
    have latch (d : Coil) : ((reclassifyCoil v w c).monitor.get d).latch = (w.monitor.get d).latch := by
      change ((put w.monitor c _).get d).latch = _
      rw [put_get]
      split
      · rename_i own
        exact own ▸ rfl
      · rfl
    unfold seat latchedRoute
    simp only [classifier, routes, image, gate, latch]) coils w

theorem loadGroups_seat (b : Bank) (w : Work) (p : Pos) : seat (groups.foldl (loadGroup b) w).toBlocks p = seat w.toBlocks p :=
  foldl_frame (fun w : Work => seat w.toBlocks p) (loadGroup b) (fun _ _ => rfl) groups w

theorem loadBlocks_seat (v : View) (st : Station) (measured : Nat) (keys : Vector Bool 6) (valid : Bool) (w : Work) (p : Pos) :
    ∃ k, seat (loadBlocks v st measured keys valid w).toBlocks p = (seat w.toBlocks p).loaded v.bank p k (seat w.toBlocks p).latched ∧
      k.state ≠ .on ∧ isLive k = false := by
  have told (u : Work) : (raiseLoadedSupply v.bank v.supply measured u).toBlocks = u.toBlocks := by
    unfold raiseLoadedSupply
    split <;> rfl
  have contexts (u : Work) : seat (positions.foldl (loadContext v.bank) u).toBlocks p = { seat u.toBlocks p with
      context := { u.context p with state := restState v.bank p, mode := (v.bank.positions.get p).defaultMode } } := by
    obtain ⟨u', before, after⟩ := foldl_positions (loadContext v.bank)
      (fun w p => onlyAt_of_touches (touches_setContext p _ w)) u p
    rw [after, loadContext, setContext_seat, before, show u'.context p = u.context p from congrArg Seat.context before]
  have records (u : Work) : seat (positions.foldl (loadRecord v) u).toBlocks p = { seat u.toBlocks p with entry := none } := by
    obtain ⟨u', before, after⟩ := foldl_positions (loadRecord v) (loadRecord_onlyAt v) u p
    rw [after, loadRecord_seat, before]
  have keyed (u : Work) : ∃ k, seat (positions.foldl (loadKey v keys) u).toBlocks p = { seat u.toBlocks p with key := k } ∧
      k.state ≠ .on ∧ isLive k = false := by
    have only (w : Work) (q : Pos) : OnlyAt q w.toBlocks (loadKey v keys w q).toBlocks := by
      obtain ⟨k, rekeyed, -⟩ := loadKey_rekeys v keys w q
      exact rekeyed.others
    obtain ⟨u', before, after⟩ := foldl_positions (loadKey v keys) only u p
    obtain ⟨k, rekeyed, dead⟩ := loadKey_rekeys v keys u' p
    exact ⟨k, by rw [after, rekeyed.own, before], dead⟩
  have sourced (x : OutputSource) (u : Work) : seat (u.setSource x).toBlocks p = seat u.toBlocks p := rfl
  have noticed (n : Raised) (u : Work) : (u.raise n).toBlocks = u.toBlocks := rfl
  obtain ⟨k, key, dead⟩ := keyed (recomputeAll v coils ((groups.foldl (loadGroup v.bank) (positions.foldl (loadRecord v)
    (positions.foldl (loadContext v.bank) (coils.foldl (reclassifyCoil v) w)))).setSource
      (if v.mode = .normal then .routing else .safe)))
  refine ⟨k, ?_, dead⟩
  unfold loadBlocks
  dsimp only
  rw [noticed, told, key, recomputeAll_seats, sourced, loadGroups_seat, records, contexts, reclassifyCoils_seat]
  have context : (coils.foldl (reclassifyCoil v) w).context p = w.context p := congrArg Seat.context (reclassifyCoils_seat v w p)
  rw [context]
  rfl

/-! ### Enablement (R160) -/

/-- The seat once its position has its new entry (R160). -/
def Seat.enablement (old b : Bank) (p : Pos) (x : Seat) : Seat :=
  if (b.positions.get p).enabled then
    if enabled old p then x
    else { x with context := { x.context with
      state := if x.context.state = .disabled then .idle else x.context.state, mode := (b.positions.get p).defaultMode } }
  else
    match x.context.state with
    | .idle => Seat.unheld { x with context := { x.context with state := .disabled } }
    | .faulted =>
      match x.context.transition with
      | none => Seat.unheld { x with context := { x.context with state := .disabled } }
      | some t => { x with context := { x.context with state := .switching, transition := some { t with cause := .commit } } }
    | .disabled => x
    | .switching => x
    | .routed => x

theorem touches_setEnablement (old : Bank) (v : View) (w : Work) (p : Pos) : Touches p w (setEnablement old v w p) := by
  have disabled : Touches p w (disablePosition p w) := (touches_setContext p _ w).trans (touches_dropHeld p _)
  unfold setEnablement
  dsimp only
  split
  · split
    · exact Touches.refl p w
    · exact touches_setContext p _ w
  · split
    · exact disabled
    · split
      · exact disabled
      · exact (touches_setContext p _ w).trans (touches_raise (.inr (by rfl)) _)
    · exact Touches.refl p w
    · exact Touches.refl p w
    · exact Touches.refl p w

theorem setEnablement_seat (old : Bank) (v : View) (w : Work) (p : Pos) : seat (setEnablement old v w p).toBlocks p =
    (seat w.toBlocks p).enablement old v.bank p := by
  have disabled : seat (disablePosition p w).toBlocks p =
      Seat.unheld { seat w.toBlocks p with context := { w.context p with state := .disabled } } := by
    rw [disablePosition, dropHeld_seat, setContext_seat]
  have context : (seat w.toBlocks p).context = w.context p := rfl
  unfold setEnablement Seat.enablement
  dsimp only
  rw [context]
  split
  · split
    · rfl
    · exact setContext_seat ..
  · cases state : (w.context p).state with
    | idle => exact disabled
    | faulted =>
      cases loose : (w.context p).transition with
      | none =>
        dsimp only at disabled
        rw [loose] at disabled
        exact disabled
      | some t => exact setContext_seat ..
    | disabled | switching | routed => rfl

end Sys2Proof.Proofs.Seats

/-!
SUPPORT. The steps A to D of an apply, for a law of the seats (R160 to R163).
-/
namespace Sys2Proof.Proofs.Seats
open Sys2Proof Sys2Proof.Machine Sys2Proof.Proofs.Acting Sys2Proof.Proofs.Eventing Sys2Proof.Proofs.Choosing
open Sys2Proof.Proofs.Requesting Sys2Proof.Proofs.Moving Sys2Proof.Proofs.Following Sys2Proof.Proofs.Keeping

/-! ### The requests that step A keeps -/

/-- The position is in WAIT of a transition that no forced release started (R49). -/
def InFreeWait (x : Seat) : Prop := ∃ t, x.context.transition = some t ∧ t.phase = .wait ∧ t.cause.forced = false

theorem keptOf_some {w : Blocks} {p : Pos} {k : Kept} (h : keptOf w p = some k) : k.pos = p ∧ InFreeWait (seat w p) := by
  unfold keptOf at h
  split at h
  · cases h
  · rename_i t at'
    split at h
    · rename_i waits
      cases h
      exact ⟨rfl, t, at', waits.1, waits.2⟩
    · cases h

theorem keptOf_of_inFreeWait {w : Blocks} {p : Pos} (h : InFreeWait (seat w p)) : ∃ k, keptOf w p = some k := by
  obtain ⟨t, at', waits⟩ := h
  have at' : (w.routes.contexts.get p).transition = some t := at'
  exact ⟨_, by rw [keptOf, at']; exact if_pos waits⟩

theorem keptRequests_nodup (w : Blocks) : ((keptRequests w).map Kept.pos).Nodup := by
  have nodup : (keptRequests w).Nodup := (List.nodup_finRange 6).filterMap fun p q k hp hq =>
    (keptOf_some hp).1.symm.trans (keptOf_some hq).1
  refine nodup.map_on fun k hk l hl same => ?_
  obtain ⟨p, -, at'⟩ := List.mem_filterMap.1 hk
  obtain ⟨q, -, at''⟩ := List.mem_filterMap.1 hl
  obtain rfl : p = q := (keptOf_some at').1.symm.trans (same.trans (keptOf_some at'').1)
  exact Option.some.inj (at'.symm.trans at'')

theorem mem_keptRequests {w : Blocks} {p : Pos} : p ∈ (keptRequests w).map Kept.pos ↔ InFreeWait (seat w p) := by
  rw [List.mem_map]
  constructor
  · rintro ⟨k, hk, rfl⟩
    obtain ⟨q, -, at'⟩ := List.mem_filterMap.1 hk
    obtain ⟨pos, waits⟩ := keptOf_some at'
    rwa [pos]
  · intro h
    obtain ⟨k, at'⟩ := keptOf_of_inFreeWait h
    exact ⟨k, List.mem_filterMap.2 ⟨p, List.mem_finRange p, at'⟩, (keptOf_some at').1⟩

theorem raiseAbandonFaults_blocks (w : Work) : (raiseAbandonFaults w).toBlocks = w.toBlocks :=
  foldl_frame (fun w : Work => w.toBlocks) (fun (w : Work) p => w.raise (.route p .fault none)) (fun _ _ => rfl) _ w

theorem abandonKept_onlyAt (v : View) (w : Work) (k : Kept) : OnlyAt k.pos w.toBlocks (abandonKept v w k).toBlocks := by
  rw [abandonKept, raiseAbandonFaults_blocks]
  exact onlyAt_of_touches (touches_abandon v k.pos w)

/-- The abandonments of step A, each at its own seat. -/
theorem abandonedAll_seat (v : View) (w : Work) (p : Pos) :
    (¬ InFreeWait (seat w.toBlocks p) ∧
      seat ((keptRequests w.toBlocks).foldl (abandonKept v) w).toBlocks p = seat w.toBlocks p) ∨
    ∃ u : Work, seat u.toBlocks p = seat w.toBlocks p ∧ InFreeWait (seat w.toBlocks p) ∧
      seat ((keptRequests w.toBlocks).foldl (abandonKept v) w).toBlocks p = seat (abandon v p u).toBlocks p := by
  obtain ⟨missed, turns⟩ := foldl_seats (abandonKept v) Kept.pos (abandonKept_onlyAt v) (keptRequests w.toBlocks) w
  by_cases mem : p ∈ (keptRequests w.toBlocks).map Kept.pos
  · have waits := mem_keptRequests.1 mem
    obtain ⟨k, hk, rfl⟩ := List.mem_map.1 mem
    obtain ⟨l₁, l₂, -, before, after⟩ := turns k hk (keptRequests_nodup w.toBlocks)
    refine .inr ⟨_, before, waits, after.trans ?_⟩
    rw [abandonKept, raiseAbandonFaults_blocks]
  · exact .inl ⟨fun waits => mem (mem_keptRequests.2 waits), missed p mem⟩

/-- After the abandonments of step A no position is in WAIT but for a forced release (R160). -/
theorem abandonedAll_forced (v : View) (w : Work) (p : Pos) :
    ¬ InFreeWait (seat ((keptRequests w.toBlocks).foldl (abandonKept v) w).toBlocks p) := by
  obtain ⟨none, same⟩ | ⟨u, before, ⟨t, at', wait, unforced⟩, after⟩ := abandonedAll_seat v w p
  · rwa [same]
  · have here : (u.context p).transition = some t := (congrArg (fun x : Seat => x.context.transition) before).trans at'
    rw [after, abandon_seat here]
    rintro ⟨t', moves, -, free⟩
    split at moves
    · cases moves
      cases free
    · cases moves

section
variable {S : SeatLaw} {ok : Cause → Prop} (K : KeepsSeats S ok)
include K

theorem ofSeats_abandonAll {v : View} {b : Bank} {m : StationMode} {w : Work} (h : ofSeats S b m nobody w.toBlocks) :
    ofSeats S b m nobody ((keptRequests w.toBlocks).foldl (abandonKept v) w).toBlocks := by
  intro p
  obtain ⟨-, same⟩ | ⟨u, before, ⟨t, at', wait, unforced⟩, after⟩ := abandonedAll_seat v w p
  · rw [same]
    exact h p
  · have here : (u.context p).transition = some t := (congrArg (fun x : Seat => x.context.transition) before).trans at'
    rw [after, abandon_seat here, before]
    exact K.abandoned at' wait unforced (h p)

omit K in
/-- Step A sets each seat to its new entry, under the incoming bank. -/
theorem ofSeats_enable {old : Bank} {v : View} {m : StationMode} {w : Work}
    (enabled : ∀ {p x}, S old m p False x → S v.bank m p False (x.enablement old v.bank p))
    (h : ofSeats S old m nobody w.toBlocks) :
    ofSeats S v.bank m nobody (positions.foldl (setEnablement old v) w).toBlocks := by
  intro p
  obtain ⟨u, before, after⟩ := foldl_positions (setEnablement old v) (fun w p => onlyAt_of_touches (touches_setEnablement old v w p)) w p
  rw [after, setEnablement_seat, before]
  exact enabled (h p)

omit K in
theorem ofSeats_release {v : View} {b : Bank} {m : StationMode} {w : Work} {p : Pos}
    (released : ∀ {x}, x = seat w.toBlocks p → S b m p False x → S b m p False (x.released v p))
    (h : ofSeats S b m nobody w.toBlocks) : ofSeats S b m nobody (forceRelease v p w).toBlocks := by
  refine ofSeats_at (onlyAt_forceRelease v p w) h ?_
  rw [forceRelease_seat]
  exact released rfl (h p)

/-! ### Step D (R163) -/

omit K in
theorem applyGroups_seat (b : Bank) (w : Work) (p : Pos) : seat (groups.foldl (applyGroup b) w).toBlocks p = seat w.toBlocks p :=
  foldl_frame (fun w : Work => seat w.toBlocks p) (applyGroup b) (fun w g => by
    unfold applyGroup
    split
    · rfl
    · split <;> rfl) groups w

omit K in
theorem reclassify_onlyAt (v : View) (w : Work) (p : Pos) : OnlyAt p w.toBlocks (reclassify v w p).toBlocks := by
  intro q ne
  rw [reclassify, setRecord_seat, if_neg ne]

omit K in
theorem reclassifyAll_seat (v : View) (w : Work) (p : Pos) : ∃ y, seat (positions.foldl (reclassify v) w).toBlocks p =
    { seat w.toBlocks p with entry := y } := by
  obtain ⟨u, before, after⟩ := foldl_positions (reclassify v) (reclassify_onlyAt v) w p
  rw [reclassify, setRecord_seat, if_pos rfl, before] at after
  exact ⟨_, after⟩

theorem ofSeats_recheckChanged {v : View} {b : Bank} {m : StationMode} {before : Blocks} {w : Work} {p : Pos}
    (h : ofSeats S b m nobody w.toBlocks) : ofSeats S b m nobody (recheckChanged v before w p).toBlocks := by
  unfold recheckChanged
  split
  · exact h
  · exact ofSeats_quiets K (recheck_seat v p w).1 h

theorem ofSeats_recheckAll {v : View} {b : Bank} {m : StationMode} {w : Work} (h : ofSeats S b m nobody w.toBlocks) :
    ofSeats S b m nobody (recheckAll v w).toBlocks := by
  unfold recheckAll
  exact foldl_keeps (fun w : Work => ofSeats S b m nobody w.toBlocks) _
    (fun w f h => ofSeats_quiets K (quietsAt_withdraw (p := f.1) f.2.1 f.2.2) h) _ w h

theorem ofSeats_applyD {old : Bank} {v : View} {m : StationMode} {w : Work}
    (reentered : ∀ {p x y}, S v.bank m p False x → S v.bank m p False { x with entry := y }) (h : ofSeats S v.bank m nobody w.toBlocks) :
    ofSeats S v.bank m nobody (applyD old v w).1.toBlocks := by
  have reclassified : ofSeats S v.bank m nobody (positions.foldl (reclassify v) (groups.foldl (applyGroup v.bank) w)).toBlocks := by
    intro p
    obtain ⟨y, seat⟩ := reclassifyAll_seat v (groups.foldl (applyGroup v.bank) w) p
    rw [seat, applyGroups_seat]
    exact reentered (h p)
  unfold applyD
  dsimp only
  exact ofSeats_recheckAll K (foldl_keeps (fun w : Work => ofSeats S v.bank m nobody w.toBlocks) _
    (fun w p h => ofSeats_recheckChanged K h) positions _ reclassified)

/-- The apply keeps a law of the seats that its releases keep whatever they meet (R160 to R163). -/
theorem ofSeats_apply {old : Bank} {v : View} {w : Work}
    (enabled : ∀ {p x}, S old v.mode p False x → S v.bank v.mode p False (x.enablement old v.bank p))
    (released : ∀ {p x}, S v.bank v.mode p False x → S v.bank v.mode p False (x.released v p))
    (reentered : ∀ {p x y}, S v.bank v.mode p False x → S v.bank v.mode p False { x with entry := y })
    (h : ofSeats S old v.mode nobody w.toBlocks) : ofSeats S v.bank v.mode nobody (applyAtoD old v w).toBlocks := by
  have release (w : Work) (p : Pos) (h : ofSeats S v.bank v.mode nobody w.toBlocks) :
      ofSeats S v.bank v.mode nobody (forceRelease v p w).toBlocks := ofSeats_release (fun _ => released) h
  have all (ps : List Pos) (r : Work × Nat) (h : ofSeats S v.bank v.mode nobody r.1.toBlocks) :
      ofSeats S v.bank v.mode nobody (releaseAll v ps r).1.toBlocks :=
    foldl_keeps (fun w : Work => ofSeats S v.bank v.mode nobody w.toBlocks) _ release ps r.1 h
  have begun : ofSeats S v.bank v.mode nobody (applyA old v (keptRequests w.toBlocks) w).toBlocks :=
    ofSeats_enable enabled (ofSeats_abandonAll K h)
  unfold applyAtoD
  refine ofSeats_applyD K reentered ?_
  exact foldl_keeps (fun r : Work × Nat => ofSeats S v.bank v.mode nobody r.1.toBlocks) _ (fun r a h => all _ r h) antennas _
    (all _ _ begun)

end

end Sys2Proof.Proofs.Seats

/-!
PROOF of O51. Queues, counters and histories keep their limits (R56, R183, R185, R188).
-/
namespace Sys2Proof.Proofs.Bounds
open Sys2Proof Sys2Proof.Machine Sys2Proof.Proofs.Seats Sys2Proof.Proofs.Keeping

/-- The queues and the counter of a link port keep their limits (R183, R185, R188). -/
def PortBounded (pt : Port) : Prop := pt.inbound.length ≤ 4 ∧ pt.notices.length ≤ 8 ∧ pt.discarded ≤ 255

theorem portBounded_discard {pt : Port} (h : PortBounded pt) : PortBounded pt.discard := by
  obtain ⟨inbound, notices, discarded⟩ := h
  exact ⟨inbound, notices, countDiscard_bound _ discarded⟩

theorem portBounded_accept {pt : Port} (f : Frame) (h : PortBounded pt) : PortBounded (pt.accept f) := by
  have inbound := accept_bound pt f h.1
  unfold Port.accept at inbound ⊢
  split
  · rename_i room
    rw [if_pos room] at inbound
    exact ⟨inbound, h.2⟩
  · exact portBounded_discard h

theorem portBounded_receive {pt : Port} (x : Byte) (h : PortBounded pt) : PortBounded (pt.receive x) := by
  have check (got : List Byte) (hi lo : Byte) : PortBounded (pt.checkFrame got hi lo) := by
    unfold Port.checkFrame
    split
    · split
      · exact portBounded_accept _ h
      · exact portBounded_discard h
    · exact portBounded_discard h
  unfold Port.receive
  split
  · split <;> exact h
  · split
    · exact h
    · exact portBounded_discard h
  · split <;> exact h
  · exact h
  · exact check _ _ _

theorem keepsPort_bounded : KeepsPort PortBounded where
  deliver {pt} n h := by
    obtain ⟨-, -, inbound, -, -, discarded, -⟩ := deliver_frame pt n
    exact ⟨inbound ▸ h.1, deliver_bound pt n h.2.1, discarded ▸ h.2.2⟩
  start {pt} h := by
    unfold Port.start
    split
    · exact h
    · exact h
    · split
      · exact h
      · split <;> exact h
  complete {pt} h := by
    obtain ⟨inbound, notices, discarded⟩ := h
    unfold Port.complete
    split
    · exact ⟨inbound, notices, discarded⟩
    · exact ⟨inbound, notices, discarded⟩
    · exact ⟨inbound, (List.tail_sublist _).length_le.trans notices, discarded⟩
  receive x h := portBounded_receive x h
  discard h := portBounded_discard h
  take h := ⟨(List.tail_sublist _).length_le.trans h.1, h.2⟩
  reply _ h := h
  cursor _ h := h
  clear h := ⟨h.1, h.2.1, Nat.zero_le _⟩
  reset := ⟨Nat.zero_le _, Nat.zero_le _, Nat.zero_le _⟩

/-- The route history keeps its limit (R56). -/
def Remembers : SeatLaw := fun _ _ _ _ x => x.context.history.length ≤ 8

theorem remembers_left {x : Seat} {t : Transition} (h : x.context.history.length ≤ 8) : (x.left t).context.history.length ≤ 8 := by
  unfold Seat.left
  split
  · exact h
  · exact (List.length_take_le _ _)

theorem remembers_relatched {x : Seat} (h : x.context.history.length ≤ 8) : x.relatched.context.history.length ≤ 8 := by
  simpa using h

theorem remembers_unheld {x : Seat} (h : x.context.history.length ≤ 8) : x.unheld.context.history.length ≤ 8 := by
  simpa using h

theorem keepsSeats_remembers : KeepsSeats Remembers fun _ => True where
  request := trivial
  follow := trivial
  slot _ _ := trivial
  key _ h := h
  entry _ h := h
  cleared _ h := h
  latched _ h := h
  fault _ _ h := remembers_relatched h
  settings _ _ le h := le.trans h
  retime _ _ _ _ h := h
  check _ _ h := h
  recause _ _ _ _ h := h
  latch _ _ _ h := h
  freed _ _ _ _ h := h
  freedHeld _ _ _ _ _ h := h
  freedFaulted _ _ _ _ h := remembers_relatched h
  leaveToMake _ _ _ _ h := remembers_left h
  leaveToEnd _ _ _ h := remembers_left h
  checkPassed _ _ _ h := h
  checkFailed _ _ h := h
  closed _ _ h := h
  resume h := h

theorem remembers_acted {v : View} {p : Pos} {k : RequestKind} {c : Cause} {sel : Selection} {x : Seat}
    (h : x.context.history.length ≤ 8) : (x.acted v p k c sel).context.history.length ≤ 8 := by
  cases sel <;> exact h

theorem keepsStarts_remembers : KeepsStarts Remembers (fun _ => True) (fun _ _ => True) (fun _ _ => True) fun _ => True where
  granted _ _ _ h := h
  chosen _ _ _ _ h := remembers_acted (remembers_unheld h)
  heldDropped _ h := h
  heldStarted _ _ _ h := h
  latchedDropped h := h
  latchedChosen _ _ _ h := remembers_acted h
  replaced _ _ _ _ _ _ h := h
  broken _ _ _ _ _ _ h := h
  made _ _ _ _ _ _ _ h := h

theorem remembers_enablement {old b : Bank} {p : Pos} {x : Seat} (h : x.context.history.length ≤ 8) :
    (x.enablement old b p).context.history.length ≤ 8 := by
  unfold Seat.enablement
  split
  · split <;> exact h
  · split
    · simpa using h
    · split
      · simpa using h
      · exact h
    all_goals exact h

theorem keeps_remembers : Keeps (ofSeats Remembers) fun _ => True where
  toKeepsOwn := own_of_seats keepsSeats_remembers
  toKeepsShared := shared_of_seats keepsStarts_remembers keepsSeats_remembers (fun _ _ => trivial) (fun _ _ => trivial)
    (fun _ => trivial)
    (fun current p => by rw [reset_seat]; exact Nat.zero_le _)
    (ofSeats_apply keepsSeats_remembers remembers_enablement (fun h => remembers_relatched h) id)

/-- Settles O51: the bounds of the ports and of the histories are kept by every operation of an event. -/
theorem stepKeepsQueuesBounded : Obligations.StepKeepsQueuesBounded := by
  unfold Obligations.StepKeepsQueuesBounded
  intro s t bounded run
  obtain ⟨ports, histories⟩ := bounded
  have stands : Stands (ofSeats Remembers) PortBounded s := ⟨ports, histories⟩
  have loads (rest : List Instr) : Stands (ofSeats Remembers) PortBounded ({ s with pending := rest } : State).loadCompletion := by
    refine stands_loadCompletion keepsPort_bounded (stands.same rfl rfl rfl rfl) fun _ v st measured valid _ p => ?_
    obtain ⟨k, loaded, -⟩ := loadBlocks_seat v st measured s.pins.keys valid (Work.start s.blocks) p
    rw [loaded]
    exact histories p
  exact step_keeps keepsPort_bounded keeps_remembers (fun _ _ => trivial) stands loads run

end Sys2Proof.Proofs.Bounds

/-!
SUPPORT. The pending slots and the held list agree, seat by seat (R49, R52), and every operation of the events keeps it.
-/
namespace Sys2Proof.Proofs.Seats
open Sys2Proof Sys2Proof.Machine Sys2Proof.Proofs.Keeping Sys2Proof.Proofs.Following Sys2Proof.Proofs.Moving

/-- A transition in WAIT that no forced release started (R49). -/
def FreeWait (t : Transition) : Prop := t.phase = .wait ∧ t.cause.forced = false

/-- The slot and the place in the held list of a seat. With a transition the slot is empty or LATCHED, and empty in a free WAIT;
with none the slot is empty or HELD, and the position listed once for it. Between the end of the transition and the start of its
latched request (`e`) the slot is still LATCHED. -/
structure HeldOk (e : Prop) (x : Seat) : Prop where
  moving : ∀ t, x.context.transition = some t → ¬ e ∧ x.held = 0 ∧
    ∀ r, x.context.slot = some r → r.status = .latched ∧ ¬ FreeWait t
  loose : x.context.transition = none → (x.context.slot = none → x.held = 0) ∧
    ∀ r, x.context.slot = some r → (e ∧ r.status = .latched ∧ x.held = 0) ∨ (¬ e ∧ r.status = .held ∧ x.held = 1)

section
variable {x : Seat} {e : Prop} {t : Transition}

/-- With a transition. -/
theorem heldOk_moving (at' : x.context.transition = some t) (unlisted : x.held = 0)
    (slot : ∀ r, x.context.slot = some r → r.status = .latched ∧ ¬ FreeWait t) : HeldOk False x where
  moving _ h := by
    cases at'.symm.trans h
    exact ⟨id, unlisted, slot⟩
  loose none := nomatch at'.symm.trans none

/-- With no transition and an empty slot. -/
theorem heldOk_empty (at' : x.context.transition = none) (slot : x.context.slot = none) (unlisted : x.held = 0) : HeldOk e x where
  moving _ h := nomatch at'.symm.trans h
  loose _ := ⟨fun _ => unlisted, fun _ h => nomatch slot.symm.trans h⟩

theorem HeldOk.of_same {y : Seat} (h : HeldOk e x) (transition : y.context.transition = x.context.transition)
    (slot : y.context.slot = x.context.slot) (held : y.held = x.held) : HeldOk e y where
  moving := by
    rw [transition, slot, held]
    exact h.moving
  loose := by
    rw [transition, slot, held]
    exact h.loose

/-- A transition that moves on, and comes into no free WAIT that it was not in. -/
theorem HeldOk.moves {y : Seat} {t' : Transition} (h : HeldOk False x) (at' : x.context.transition = some t)
    (now : y.context.transition = some t') (slot : y.context.slot = x.context.slot) (held : y.held = x.held)
    (on : FreeWait t' → FreeWait t) : HeldOk False y := by
  obtain ⟨-, unlisted, latched⟩ := h.moving t at'
  refine heldOk_moving now (held.trans unlisted) fun r hr => ?_
  obtain ⟨status, passed⟩ := latched r (slot ▸ hr)
  exact ⟨status, fun free => passed (on free)⟩

theorem HeldOk.empty_of_free (h : HeldOk e x) (at' : x.context.transition = some t) (free : FreeWait t) :
    x.context.slot = none ∧ x.held = 0 := by
  obtain ⟨-, unlisted, slot⟩ := h.moving t at'
  refine ⟨?_, unlisted⟩
  cases at'' : x.context.slot with
  | none => rfl
  | some r => exact absurd free (slot r at'').2

/-- A HELD request stands with no transition (R52). -/
theorem HeldOk.of_asks (h : HeldOk e x) (asks : asksHeld x.context = true) : x.context.transition = none ∧ ¬ e := by
  obtain ⟨r, slot, held⟩ := asksHeld_iff.1 asks
  cases at' : x.context.transition with
  | some t => exact nomatch held.symm.trans ((h.moving t at').2.2 r slot).1
  | none =>
    rcases (h.loose at').2 r slot with ⟨-, latched, -⟩ | ⟨free, -⟩
    · exact nomatch held.symm.trans latched
    · exact ⟨rfl, free⟩

theorem HeldOk.unheld (h : HeldOk False x) (at' : x.context.transition = none) : x.unheld.context.slot = none ∧ x.unheld.held = 0 := by
  obtain ⟨none, some⟩ := h.loose at'
  cases slot : x.context.slot with
  | none => simp [Seat.unheld, asksHeld, slot, none slot]
  | some r =>
    rcases some r slot with ⟨ended, -⟩ | ⟨-, held, -⟩
    · exact ended.elim
    · simp [Seat.unheld, asksHeld, slot, held, Seat.withSlot]

theorem HeldOk.relatched_held (h : HeldOk False x) : x.relatched.held = 0 := by
  unfold Seat.relatched
  split
  · rfl
  · rename_i none
    cases at' : x.context.transition with
    | some t => exact (h.moving t at').2.1
    | none =>
      cases slot : x.context.slot with
      | none => exact (h.loose at').1 slot
      | some r =>
        rcases (h.loose at').2 r slot with ⟨ended, -⟩ | ⟨-, held, -⟩
        · exact ended.elim
        · exact absurd (asksHeld_iff.2 ⟨r, slot, held⟩) none

/-- The start of a release that is forced, over a HELD request that becomes LATCHED (R53, R58, R61). -/
theorem HeldOk.forced {v : View} {p : Pos} {c : Cause} (forced : c.forced = true) (h : HeldOk False x) :
    HeldOk False (x.relatched.started v p .release c none .routed) :=
  heldOk_moving (t := inWait v x.relatched.context.antenna none .release c .routed) rfl h.relatched_held fun _ hr =>
    ⟨(relatched_slot hr).1, fun free => nomatch forced.symm.trans (free.2 : c.forced = false)⟩

/-- The start of a transition over an empty slot. -/
theorem heldOk_started {v : View} {p : Pos} {k : RequestKind} {c : Cause} {o : Option Ant} {st : RouteState}
    (slot : x.context.slot = none) (unlisted : x.held = 0) : HeldOk False (x.started v p k c o st) :=
  heldOk_moving (t := inWait v x.context.antenna o k c st) rfl unlisted fun _ hr => nomatch slot.symm.trans hr

theorem heldOk_acted {v : View} {p : Pos} {k : RequestKind} {c : Cause} (sel : Selection) (at' : x.context.transition = none)
    (slot : x.context.slot = none) (unlisted : x.held = 0) : HeldOk False (x.acted v p k c sel) := by
  cases sel with
  | refused r => exact heldOk_empty at' slot unlisted
  | current => exact heldOk_empty at' slot unlisted
  | target o => exact heldOk_started slot unlisted
  | held =>
    refine ⟨fun t h => (nomatch at'.symm.trans h), fun _ => ⟨nofun, fun r hr => ?_⟩⟩
    cases hr
    exact .inr ⟨id, rfl, congrArg (· + 1) unlisted⟩

end

/-- The law of the slots and the held list. -/
def Lists : SeatLaw := fun _ _ _ e x => HeldOk e x

theorem left_frame (t : Transition) (x : Seat) : (x.left t).context.transition = x.context.transition ∧
    (x.left t).context.slot = x.context.slot ∧ (x.left t).held = x.held := by
  unfold Seat.left
  split <;> exact ⟨rfl, rfl, rfl⟩

/-- The end of a transition, before its latched request starts (R81). -/
theorem HeldOk.ended {x y : Seat} {t : Transition} (h : HeldOk False x) (at' : x.context.transition = some t)
    (loose : y.context.transition = none) (slot : y.context.slot = x.context.slot) (held : y.held = x.held) : HeldOk True y := by
  obtain ⟨-, unlisted, latched⟩ := h.moving t at'
  refine ⟨fun t h => (nomatch loose.symm.trans h), fun _ => ⟨fun _ => held.trans unlisted, fun r hr => ?_⟩⟩
  exact .inl ⟨trivial, (latched r (slot ▸ hr)).1, held.trans unlisted⟩

theorem keepsSeats_lists : KeepsSeats Lists fun _ => True where
  request := trivial
  follow := trivial
  slot _ _ := trivial
  key _ h := h.of_same rfl rfl rfl
  entry _ h := h.of_same rfl rfl rfl
  cleared _ h := h.of_same rfl rfl rfl
  latched _ h := h.of_same rfl rfl rfl
  fault _ _ h := HeldOk.forced rfl (h.of_same rfl rfl rfl)
  settings _ _ _ h := h.of_same rfl rfl rfl
  retime _ _ at' _ h := h.moves at' rfl rfl rfl id
  check at' _ h := h.moves at' rfl rfl rfl fun free => nomatch free.1
  recause at' wait unforced _ h := h.moves at' rfl rfl rfl fun _ => ⟨wait, unforced⟩
  latch at' passed _ h := by
    refine heldOk_moving at' (h.moving _ at').2.1 fun r hr => ?_
    cases hr
    exact ⟨rfl, passed⟩
  freed at' wait unforced _ h := by
    obtain ⟨slot, unlisted⟩ := h.empty_of_free at' ⟨wait, unforced⟩
    exact heldOk_empty rfl slot unlisted
  freedHeld at' wait unforced _ _ h := by
    obtain ⟨-, unlisted⟩ := h.empty_of_free at' ⟨wait, unforced⟩
    refine ⟨fun t moving => (nomatch (moving : none = some t)), fun _ => ⟨nofun, fun r hr => ?_⟩⟩
    cases hr
    exact .inr ⟨id, rfl, congrArg (· + 1) unlisted⟩
  freedFaulted at' wait unforced _ h := by
    obtain ⟨slot, unlisted⟩ := h.empty_of_free at' ⟨wait, unforced⟩
    exact HeldOk.forced rfl (heldOk_empty rfl slot unlisted)
  leaveToMake {b _ _ x t a} y at' _ _ h := by
    obtain ⟨-, slot, held⟩ := left_frame t x
    obtain ⟨-, unlisted, latched⟩ := h.moving t at'
    exact heldOk_moving (t := making b t) rfl (held.trans unlisted) fun r hr =>
      ⟨(latched r (slot.symm.trans hr)).1, fun free => nomatch free.1⟩
  leaveToEnd {_ _ _ x t} at' _ _ h := by
    obtain ⟨-, slot, held⟩ := left_frame t x
    exact h.ended at' rfl slot held
  checkPassed at' _ _ h := h.ended at' rfl rfl rfl
  checkFailed at' _ h := h.ended at' rfl rfl rfl
  closed _ _ _ := heldOk_empty rfl rfl rfl
  resume h := h

theorem keepsStarts_lists : KeepsStarts Lists (fun _ => True) (fun _ _ => True) (fun _ _ => True) fun _ => True where
  granted _ _ _ h := h.of_same rfl rfl rfl
  chosen {_ _ x _ _ sel} _ at' _ _ h := by
    obtain ⟨slot, unlisted⟩ := HeldOk.unheld h at'
    exact heldOk_acted sel (by simpa using at') slot unlisted
  heldDropped asks h := heldOk_empty (HeldOk.of_asks h asks).1 rfl rfl
  heldStarted {_ _ _ _ _ r _} slot held _ h := by
    have free := (HeldOk.of_asks h (asksHeld_iff.2 ⟨r, slot, held⟩)).2
    exact at_false (S := Lists) free (heldOk_started rfl rfl)
  latchedDropped {_ _ _ x} h := by
    cases at' : x.context.transition with
    | some t => exact absurd trivial (h.moving t at').1
    | none =>
      refine heldOk_empty at' rfl ?_
      cases slot : x.context.slot with
      | none => exact (h.loose at').1 slot
      | some r => exact ((h.loose at').2 r slot).elim (fun h => h.2.2) fun h => absurd trivial h.1
  latchedChosen {_ _ x r sel} _ slot _ h := by
    cases at' : x.context.transition with
    | some t => exact absurd trivial (h.moving t at').1
    | none =>
      exact heldOk_acted sel at' rfl (((h.loose at').2 r slot).elim (fun h => h.2.2) fun h => absurd trivial h.1)
  replaced at' wait unforced _ _ _ h := HeldOk.moves h at' rfl rfl rfl fun _ => ⟨wait, unforced⟩
  broken _ at' _ _ _ _ h := HeldOk.moves h at' rfl rfl rfl fun free => nomatch free.1
  made _ at' _ _ _ _ _ h := HeldOk.moves h at' rfl rfl rfl fun free => nomatch free.1

theorem heldOk_enablement {old b : Bank} {p : Pos} {x : Seat} (h : HeldOk False x) : HeldOk False (x.enablement old b p) := by
  have disabled (loose : x.context.transition = none) :
      HeldOk False (Seat.unheld { x with context := { x.context with state := .disabled } }) := by
    have set : HeldOk False { x with context := { x.context with state := .disabled } } := h.of_same rfl rfl rfl
    obtain ⟨slot, unlisted⟩ := set.unheld loose
    exact heldOk_empty (by simpa using loose) slot unlisted
  unfold Seat.enablement
  split
  · split
    · exact h
    · exact h.of_same rfl rfl rfl
  · split
    · by_cases loose : x.context.transition = none
      · exact disabled loose
      · obtain ⟨t, at'⟩ := Option.ne_none_iff_exists'.1 loose
        have spared : asksHeld x.context ≠ true := fun asks => loose (h.of_asks asks).1
        have same : Seat.unheld { x with context := { x.context with state := .disabled } } =
            { x with context := { x.context with state := .disabled } } := if_neg spared
        rw [same]
        exact h.of_same rfl rfl rfl
    · split
      · rename_i loose
        exact disabled loose
      · rename_i t at'
        exact h.moves at' rfl rfl rfl fun free => nomatch free.2
    all_goals exact h

theorem keeps_lists : Keeps (ofSeats Lists) fun _ => True where
  toKeepsOwn := own_of_seats keepsSeats_lists
  toKeepsShared := shared_of_seats keepsStarts_lists keepsSeats_lists (fun _ _ => trivial) (fun _ _ => trivial)
    (fun _ => trivial)
    (fun current p => by rw [reset_seat]; exact heldOk_empty rfl rfl rfl)
    (ofSeats_apply keepsSeats_lists heldOk_enablement (fun h => HeldOk.forced rfl (h.of_same rfl rfl rfl))
      fun h => h.of_same rfl rfl rfl)

/-! ### The slots and the held list of a state -/

/-- No law of the ports. -/
theorem keepsPort_any : KeepsPort fun _ => True := ⟨fun _ _ => trivial, fun _ => trivial, fun _ => trivial, fun _ _ => trivial,
  fun _ => trivial, fun _ => trivial, fun _ _ => trivial, fun _ _ => trivial, fun _ => trivial, trivial⟩

/-- What the slots and the held list of a seat say to each other (R52). -/
theorem heldOk_iff (x : Seat) : HeldOk False x ↔ x.held ≤ 1 ∧ (0 < x.held ↔ ∃ r ∈ x.context.slot, r.status = .held) ∧
    (∀ r ∈ x.context.slot, (r.status = .held → x.context.transition = none) ∧
      (r.status = .latched → x.context.transition ≠ none)) ∧
    (∀ t ∈ x.context.transition, t.phase = .wait → t.cause.forced = false → x.context.slot = none) := by
  constructor
  · intro h
    cases at' : x.context.transition with
    | some t =>
      obtain ⟨-, unlisted, latched⟩ := h.moving t at'
      refine ⟨by omega, ⟨fun listed => by omega, fun ⟨r, hr, held⟩ => ?_⟩, fun r hr => ⟨fun held => ?_, fun _ => nofun⟩, ?_⟩
      · exact nomatch held.symm.trans (latched r hr).1
      · exact nomatch held.symm.trans (latched r hr).1
      · rintro t' ⟨⟩ wait unforced
        exact (h.empty_of_free at' ⟨wait, unforced⟩).1
    | none =>
      obtain ⟨none, some⟩ := h.loose at'
      have slot_cases : (x.context.slot = .none ∧ x.held = 0) ∨ ∃ r, x.context.slot = .some r ∧ r.status = .held ∧ x.held = 1 := by
        cases slot : x.context.slot with
        | none => exact .inl ⟨rfl, none slot⟩
        | some r =>
          rcases some r slot with ⟨ended, -⟩ | ⟨-, held, listed⟩
          · exact ended.elim
          · exact .inr ⟨r, rfl, held, listed⟩
      rcases slot_cases with ⟨slot, unlisted⟩ | ⟨r, slot, held, listed⟩
      · simp [slot, unlisted]
      · simp [slot, held, listed]
  · rintro ⟨once, listed, slots, free⟩
    constructor
    · intro t at'
      have latched (r : PendingRequest) (hr : x.context.slot = some r) : r.status = .latched := by
        cases status : r.status with
        | latched => rfl
        | held => exact nomatch at'.symm.trans ((slots r hr).1 status)
      refine ⟨id, ?_, fun r hr => ⟨latched r hr, fun ⟨wait, unforced⟩ => ?_⟩⟩
      · by_contra some
        obtain ⟨r, hr, held⟩ := listed.1 (Nat.pos_of_ne_zero some)
        exact nomatch held.symm.trans (latched r hr)
      · exact nomatch hr.symm.trans (free t at' wait unforced)
    · intro loose
      refine ⟨fun slot => ?_, fun r hr => .inr ⟨id, ?_⟩⟩
      · by_contra some
        obtain ⟨r, hr, -⟩ := listed.1 (Nat.pos_of_ne_zero some)
        exact nomatch slot.symm.trans hr
      · have held : r.status = .held := by
          cases status : r.status with
          | held => rfl
          | latched => exact absurd loose ((slots r hr).2 status)
        have pos := listed.2 ⟨r, hr, held⟩
        exact ⟨held, by omega⟩

theorem lists_iff (s : State) (m : StationMode) : ofSeats Lists s.bank m nobody s.blocks ↔ heldConsistent s := by
  have once : s.held.Nodup ↔ ∀ p, s.held.count p ≤ 1 := List.nodup_iff_count_le_one
  constructor
  · intro h
    refine ⟨once.2 fun p => ((heldOk_iff _).1 (h p)).1, fun p => ?_⟩
    obtain ⟨-, listed, rest⟩ := (heldOk_iff _).1 (h p)
    exact ⟨List.count_pos_iff.symm.trans listed, rest⟩
  · rintro ⟨nodup, each⟩ p
    obtain ⟨listed, rest⟩ := each p
    exact (heldOk_iff _).2 ⟨once.1 nodup p, List.count_pos_iff.trans listed, rest⟩

/-- Every command keeps the agreement of the pending slots and the held list (R52). -/
theorem step_keeps_heldConsistent {s t : State} (h : heldConsistent s) (run : step s = .next t) : heldConsistent t := by
  have stands : Stands (ofSeats Lists) (fun _ => True) s := ⟨fun _ => trivial, (lists_iff s s.station.mode).2 h⟩
  have loads (rest : List Instr) : Stands (ofSeats Lists) (fun _ => True) ({ s with pending := rest } : State).loadCompletion := by
    refine stands_loadCompletion keepsPort_any (stands.same rfl rfl rfl rfl) fun _ v st measured valid _ p => ?_
    obtain ⟨k, loaded, -⟩ := loadBlocks_seat v st measured s.pins.keys valid (Work.start s.blocks) p
    rw [loaded]
    exact (stands.2 p).of_same rfl rfl rfl
  obtain ⟨-, kept⟩ := step_keeps keepsPort_any keeps_lists (fun _ _ => trivial) stands loads run
  exact (lists_iff t t.station.mode).1 kept

end Sys2Proof.Proofs.Seats

/-!
SUPPORT. A position on the air is ROUTED, in no transition and without mismatch, seat by seat (R36, R40, R131, R144, R146), and
every operation of the events keeps it.
-/
namespace Sys2Proof.Proofs.Seats
open Sys2Proof Sys2Proof.Machine Sys2Proof.Proofs.Keeping Sys2Proof.Proofs.Following Sys2Proof.Proofs.Moving

/-- A seat on the air is ROUTED, and a ROUTED one moves not; no pending request is forced. Whether it has a mismatch is left open
unless `strict`: an apply withdraws for a mismatch at the end of its step D (R147). -/
structure OnAirOk (strict : Prop) (b : Bank) (x : Seat) : Prop where
  on : x.key.state = .on → x.context.state = .routed ∧ (strict → x.fits b)
  still : x.context.state = .routed → x.context.transition = none
  slot : ∀ r, x.context.slot = some r → r.cause.forced = false

section
variable {strict : Prop} {b : Bank} {x : Seat} {t : Transition}

/-- A seat with a transition is off the air. -/
theorem OnAirOk.off (h : OnAirOk strict b x) (at' : x.context.transition = some t) : x.key.state ≠ .on := fun on =>
  nomatch at'.symm.trans (h.still (h.on on).1)

theorem OnAirOk.unrouted (h : OnAirOk strict b x) (at' : x.context.transition = some t) : x.context.state ≠ .routed := fun routed =>
  nomatch at'.symm.trans (h.still routed)

theorem onAirOk_off (off : x.key.state ≠ .on) (still : x.context.state = .routed → x.context.transition = none)
    (slot : ∀ r, x.context.slot = some r → r.cause.forced = false) : OnAirOk strict b x :=
  ⟨fun on => absurd on off, still, slot⟩

/-- The transition of a seat moves on. -/
theorem OnAirOk.moves {y : Seat} (h : OnAirOk strict b x) (at' : x.context.transition = some t) (key : y.key = x.key)
    (state : y.context.state = x.context.state) (slot : y.context.slot = x.context.slot) : OnAirOk strict b y :=
  onAirOk_off (key ▸ h.off at') (fun routed => absurd (state ▸ routed) (h.unrouted at')) fun r hr => h.slot r (slot ▸ hr)

/-- The transition of a seat ends. -/
theorem OnAirOk.ends {y : Seat} (h : OnAirOk strict b x) (at' : x.context.transition = some t) (key : y.key = x.key)
    (loose : y.context.transition = none) (slot : y.context.slot = x.context.slot) : OnAirOk strict b y :=
  onAirOk_off (key ▸ h.off at') (fun _ => loose) fun r hr => h.slot r (slot ▸ hr)

/-- A transition starts: its position is withdrawn (R143, R144). -/
theorem onAirOk_started {v : View} {p : Pos} {k : RequestKind} {c : Cause} {o : Option Ant} {st : RouteState}
    (unrouted : c = .fault → x.context.state ≠ .routed) (slot : ∀ r, x.context.slot = some r → r.cause.forced = false) :
    OnAirOk strict b (x.started v p k c o st) := by
  refine onAirOk_off (quiets_keptOff v.bank .switching x.key).2 (fun routed => ?_) slot
  change (if c = .fault then x.context.state else .switching) = .routed at routed
  split at routed
  · rename_i fault
    exact absurd routed (unrouted fault)
  · cases routed

/-- A release that is forced (R58, R61). -/
theorem onAirOk_forced {v : View} {p : Pos} {c : Cause} (unrouted : c = .fault → x.context.state ≠ .routed)
    (slot : ∀ r, x.context.slot = some r → r.cause.forced = false) :
    OnAirOk strict b (x.relatched.started v p .release c none .routed) := by
  refine onAirOk_started (fun fault => by simpa using unrouted fault) fun r hr => ?_
  obtain ⟨-, r₀, at', cause⟩ := relatched_slot hr
  exact cause ▸ slot r₀ at'

theorem OnAirOk.unheld (h : OnAirOk strict b x) : OnAirOk strict b x.unheld where
  on := by
    simp only [unheld_frame, Seat.fits]
    exact h.on
  still := by
    simp only [unheld_frame]
    exact h.still
  slot r hr := h.slot r (unheld_slot hr).2

/-- The seat with another pending request, of a cause that is not forced. -/
theorem OnAirOk.withSlot {slot : Option PendingRequest} {n : Nat} (h : OnAirOk strict b x)
    (unforced : ∀ r, slot = some r → r.cause.forced = false) : OnAirOk strict b (x.withSlot slot n) := ⟨h.on, h.still, unforced⟩

theorem OnAirOk.acted {v : View} {p : Pos} {k : RequestKind} {c : Cause} (sel : Selection) (unforced : c.forced = false)
    (h : OnAirOk strict b x) : OnAirOk strict b (x.acted v p k c sel) := by
  have notFault : c ≠ .fault := by
    rintro rfl
    cases unforced
  cases sel with
  | refused r => exact h
  | held =>
    refine h.withSlot fun r hr => ?_
    cases hr
    exact unforced
  | target o => exact onAirOk_started (fun fault => absurd fault notFault) h.slot
  | current =>
    by_cases release : k = .release ∧ x.context.state = .faulted
    · refine ⟨fun on => ?_, fun routed => ?_, h.slot⟩
      · exact nomatch release.2.symm.trans (h.on on).1
      · change (if k = .release ∧ x.context.state = .faulted then _ else _) = _ at routed
        rw [if_pos release] at routed
        cases routed
    · have same : (if k = .release ∧ x.context.state = .faulted then .idle else x.context.state) = x.context.state := if_neg release
      unfold Seat.acted
      dsimp only
      rw [same]
      exact h

end

/-- The law of the seats on the air. -/
def OnAir (strict : Prop) : SeatLaw := fun b _ _ _ x => OnAirOk strict b x

/-- A cause that no forced release has (R57). -/
def unforced (c : Cause) : Prop := c.forced = false

theorem left_onAir (t : Transition) (x : Seat) : (x.left t).key = x.key ∧ (x.left t).context.state = x.context.state ∧
    (x.left t).context.slot = x.context.slot := by
  unfold Seat.left
  split <;> exact ⟨rfl, rfl, rfl⟩

theorem keepsSeats_onAir (strict : Prop) : KeepsSeats (OnAir strict) unforced where
  request := rfl
  follow := rfl
  slot h at' := h.slot _ at'
  key quiets h := ⟨fun on => h.on (quiets.on on), h.still, h.slot⟩
  entry fits h := ⟨fun on => ⟨(h.on on).1, fun _ => fits on⟩, h.still, h.slot⟩
  cleared _ h := ⟨h.on, h.still, h.slot⟩
  latched _ h := ⟨h.on, h.still, h.slot⟩
  fault _ _ h := onAirOk_forced (fun _ => nofun) h.slot
  settings _ _ _ h := ⟨h.on, h.still, h.slot⟩
  retime _ _ at' _ h := h.moves at' rfl rfl rfl
  check at' _ h := h.moves at' rfl rfl rfl
  recause at' _ _ _ h := h.moves at' rfl rfl rfl
  latch _ _ c h := h.withSlot fun r hr => by
    cases hr
    exact c
  freed at' _ _ _ h := h.ends at' rfl rfl rfl
  freedHeld at' _ _ _ c h := onAirOk_off (h.off at') (fun _ => rfl) fun r hr => by
    cases hr
    exact c
  freedFaulted _ _ _ _ h := onAirOk_forced (fun _ => nofun) h.slot
  leaveToMake {_ _ _ x t a} y at' _ _ h := by
    obtain ⟨key, state, slot⟩ := left_onAir t x
    exact h.moves at' key state slot
  leaveToEnd {_ _ _ x t} at' _ _ h := by
    obtain ⟨key, -, slot⟩ := left_onAir t x
    exact h.ends at' key rfl slot
  checkPassed at' _ _ h := h.ends at' rfl rfl rfl
  checkFailed at' _ h := h.ends at' rfl rfl rfl
  closed _ off _ := onAirOk_off off (fun _ => rfl) nofun
  resume h := h

theorem keepsStarts_onAir (strict : Prop) :
    KeepsStarts (OnAir strict) unforced (fun _ _ => True) (fun _ _ => True) fun _ => True where
  granted routed fits _ h := ⟨fun _ => ⟨routed, fun _ => fits⟩, h.still, h.slot⟩
  chosen _ _ c _ h := OnAirOk.acted _ c h.unheld
  heldDropped _ h := h.withSlot nofun
  heldStarted slot _ _ h := onAirOk_started (fun fault => by
    have free := h.slot _ slot
    rw [fault] at free
    cases free) nofun
  latchedDropped h := h.withSlot nofun
  latchedChosen _ slot _ h := OnAirOk.acted _ (h.slot _ slot) (h.withSlot nofun)
  replaced at' _ _ _ _ _ h := h.moves at' rfl rfl rfl
  broken _ at' _ _ _ _ h := h.moves at' rfl rfl rfl
  made _ at' _ _ _ _ _ h := h.moves at' rfl rfl rfl

/-- Enablement leaves a seat on the air, and looks at no bank (R160). -/
theorem onAirOk_enablement {old b b' : Bank} {p : Pos} {x : Seat} (h : OnAirOk False old x) : OnAirOk False b' (x.enablement old b p) := by
  have any (y : Seat) (h : OnAirOk False old y) : OnAirOk False b' y := ⟨fun on => ⟨(h.on on).1, False.elim⟩, h.still, h.slot⟩
  have disabled (state : x.context.state ≠ .routed) :
      OnAirOk False old (Seat.unheld { x with context := { x.context with state := .disabled } }) :=
    OnAirOk.unheld (onAirOk_off (fun on => state (h.on on).1) nofun h.slot)
  refine any _ ?_
  unfold Seat.enablement
  split
  · split
    · exact h
    · by_cases off : x.context.state = .disabled
      · exact onAirOk_off (fun on => nomatch off.symm.trans (h.on on).1) (fun routed => by simp [off] at routed) h.slot
      · have same : (if x.context.state = .disabled then .idle else x.context.state) = x.context.state := if_neg off
        rw [same]
        exact ⟨h.on, h.still, h.slot⟩
  · split
    · rename_i idle
      exact disabled fun routed => nomatch idle.symm.trans routed
    · rename_i faulted
      have state : x.context.state ≠ .routed := fun routed => nomatch faulted.symm.trans routed
      split
      · exact disabled state
      · exact onAirOk_off (fun on => state (h.on on).1) nofun h.slot
    all_goals exact h

/-! ### The re-check of an apply (R147) -/

theorem withdrawEach_on (v : View) (l : List (Pos × Reason × Option Pos)) (w : Work) {p : Pos}
    (on : ((l.foldl (fun w f => withdraw v f.1 f.2.1 f.2.2 w) w).gate.keys.get p).state = .on) :
    (w.gate.keys.get p).state = .on ∧ p ∉ l.map Prod.fst := by
  induction l generalizing w with
  | nil => exact ⟨on, List.not_mem_nil⟩
  | cons f l ih =>
    obtain ⟨on', out⟩ := ih _ on
    obtain ⟨k, rekeyed, quiets⟩ := quietsAt_withdraw (v := v) (p := f.1) (w := w) f.2.1 f.2.2
    have key : (withdraw v f.1 f.2.1 f.2.2 w).gate.keys.get p = if p = f.1 then k else w.gate.keys.get p := by
      rw [rekeyed.keys, put_get]
    have other : p ≠ f.1 := by
      rintro rfl
      have own := congrArg Seat.key (withdraw_seat f.1 w v f.2.1 f.2.2)
      change (withdraw v f.1 f.2.1 f.2.2 w).gate.keys.get f.1 = _ at own
      rw [own] at on'
      exact (quiets_keptOff v.bank f.2.1 _).2 on'
    rw [key, if_neg other] at on'
    exact ⟨on', by simpa using ⟨other, fun a b mem => out (List.mem_map_of_mem mem)⟩⟩

/-- A position that an apply leaves ON has no mismatch under the incoming bank. -/
theorem recheckAll_fits (v : View) (w : Work) (p : Pos) (on : ((recheckAll v w).gate.keys.get p).state = .on) :
    (seat (recheckAll v w).toBlocks p).fits v.bank := by
  obtain ⟨classifier, monitor, routes, image, -⟩ := recheckAll_frame v w
  have same : (seat (recheckAll v w).toBlocks p).fits v.bank ↔ (seat w.toBlocks p).fits v.bank := by
    rw [fits_iff, fits_iff, mismatch, mismatch, bandOf, bandOf, classifier, routes]
  obtain ⟨before, spared⟩ := withdrawEach_on v _ w on
  rw [same, fits_iff]
  have isOn : isOn w.toBlocks p = true := decide_eq_true before
  have passed : recheckFailure v.bank w.toBlocks p = none := by
    by_contra fails
    obtain ⟨f, at'⟩ := Option.ne_none_iff_exists'.1 fails
    refine spared (List.mem_map.2 ⟨(p, f), List.mem_filterMap.2 ⟨p, List.mem_finRange p, ?_⟩, rfl⟩)
    rw [isOn, at']
    rfl
  unfold recheckFailure at passed
  split at passed
  · cases passed
  · split at passed
    · cases passed
    · rename_i matching
      exact Bool.eq_false_iff.2 matching

theorem onAir_apply {old : Bank} {v : View} {w : Work} (h : ofSeats (OnAir True) old v.mode nobody w.toBlocks) :
    ofSeats (OnAir True) v.bank v.mode nobody (applyAtoD old v w).toBlocks := by
  have loose : ofSeats (OnAir False) old v.mode nobody w.toBlocks := fun p =>
    ⟨fun on => ⟨((h p).on on).1, False.elim⟩, (h p).still, (h p).slot⟩
  have applied : ofSeats (OnAir False) v.bank v.mode nobody (applyAtoD old v w).toBlocks :=
    ofSeats_apply (keepsSeats_onAir False) onAirOk_enablement (fun h => onAirOk_forced nofun h.slot)
      (fun h => ⟨fun on => ⟨(h.on on).1, False.elim⟩, h.still, h.slot⟩) loose
  exact fun p => ⟨fun on => ⟨((applied p).on on).1, fun _ => recheckAll_fits v _ p on⟩, (applied p).still, (applied p).slot⟩

theorem keeps_onAir : Keeps (ofSeats (OnAir True)) unforced where
  toKeepsOwn := own_of_seats (keepsSeats_onAir True)
  toKeepsShared := shared_of_seats (keepsStarts_onAir True) (keepsSeats_onAir True) (fun _ _ => trivial) (fun _ _ => trivial)
    (fun _ => trivial)
    (fun current p => by rw [reset_seat]; exact onAirOk_off nofun nofun nofun)
    onAir_apply

/-! ### The air over a state -/

theorem onAir_iff (s : State) (m : StationMode) : ofSeats (OnAir True) s.bank m nobody s.blocks ↔ onAirRouted s := by
  constructor
  · intro h p
    refine ⟨fun on => ?_, (h p).still, (h p).slot⟩
    obtain ⟨routed, fits⟩ := (h p).on on
    exact ⟨routed, (fits_iff ..).1 (fits trivial)⟩
  · intro h p
    obtain ⟨on, still, slot⟩ := h p
    exact ⟨fun h => ⟨(on h).1, fun _ => (fits_iff ..).2 (on h).2⟩, still, slot⟩

theorem onAirOk_loaded {strict : Prop} {b b' : Bank} {p : Pos} {k : KeyRecord} {y : Bool} {x : Seat} (off : k.state ≠ .on)
    (h : OnAirOk strict b x) : OnAirOk strict b' (x.loaded b' p k y) := by
  refine onAirOk_off off (fun routed => ?_) h.slot
  change restState b' p = .routed at routed
  unfold restState at routed
  split at routed <;> cases routed

/-- Every command keeps what is on the air ROUTED (R131, R144, R146). -/
theorem step_keeps_onAirRouted {s t : State} (h : onAirRouted s) (run : step s = .next t) : onAirRouted t := by
  have stands : Stands (ofSeats (OnAir True)) (fun _ => True) s := ⟨fun _ => trivial, (onAir_iff s s.station.mode).2 h⟩
  have loads (rest : List Instr) : Stands (ofSeats (OnAir True)) (fun _ => True) ({ s with pending := rest } : State).loadCompletion := by
    refine stands_loadCompletion keepsPort_any (stands.same rfl rfl rfl rfl) fun _ v st measured valid _ p => ?_
    obtain ⟨k, loaded, off, -⟩ := loadBlocks_seat v st measured s.pins.keys valid (Work.start s.blocks) p
    rw [loaded]
    exact onAirOk_loaded off (stands.2 p)
  obtain ⟨-, kept⟩ := step_keeps keepsPort_any keeps_onAir (fun _ h => h) stands loads run
  exact (onAir_iff t t.station.mode).1 kept

end Sys2Proof.Proofs.Seats

/-!
SUPPORT. The antenna records follow the contexts, seat by seat (R36, R39): what a route state says of antenna and transition, and the
places and holds of a position.
-/
namespace Sys2Proof.Proofs.Seats
open Sys2Proof Sys2Proof.Machine Sys2Proof.Proofs.Keeping Sys2Proof.Proofs.Following Sys2Proof.Proofs.Moving

/-- What a seat says of the route of its position. -/
structure Footing where
  state : RouteState
  antenna : Option Ant
  transition : Option Transition
  slot : Option PendingRequest
  mark : Bool
  reserved : List Claim
  holding : Ant → Nat
  reserving : Ant → Nat
  hold : Ant → Bool

def Seat.footing (x : Seat) : Footing :=
  ⟨x.context.state, x.context.antenna, x.context.transition, x.context.slot, x.context.mark, x.reserved, x.holding, x.reserving, x.hold⟩

/-- The places of a position in no transition (R39); the antennas it holds are among those of `allowed`. -/
structure Settled (allowed : Ant → Bool) (f : Footing) : Prop where
  mark : f.mark = false
  reserved : f.reserved = []
  holding : ∀ a, f.holding a = if f.antenna = some a then 1 else 0
  reserving : ∀ a, f.reserving a = 0
  hold : ∀ a, f.hold a = false
  allowed : ∀ a, f.antenna = some a → allowed a = true

/-- The route of a position in no transition (R36); `off` says that the position is disabled. -/
structure Still (off : Prop) (allowed : Ant → Bool) (e : Prop) (f : Footing) : Prop extends Settled allowed f where
  state : f.state ≠ .switching ∧ (f.state = .routed ↔ f.antenna ≠ none)
  disabled : f.state = .disabled → off ∧ ∀ r, f.slot = some r → e ∧ r.status = .latched

/-- The transition holds its target in reserve (R39). -/
def Reserves (t : Transition) (a : Ant) : Prop := t.target = some a ∧ (t.phase = .wait ∨ t.phase = .brk)

/-- The route of a position in transition `t` (R36, R39, R57). -/
structure Moving (allowed : Ant → Bool) (f : Footing) (t : Transition) : Prop where
  state : f.state = if t.cause = .fault then .faulted else .switching
  mark : f.mark = t.cause.forced
  forced : t.cause.forced = true → t.target = none
  apart : t.old ≠ t.target
  start : t.start = .routed ↔ t.old ≠ none
  started : t.start ≠ .disabled ∧ t.start ≠ .switching
  untargeted : t.target = none → f.reserved = []
  leaving : t.phase = .wait ∨ t.phase = .brk → f.antenna = t.old
  breaking : t.phase = .brk → t.old ≠ none
  entering : t.phase = .make ∨ t.phase = .check → t.target ≠ none ∧ f.antenna = t.target ∧ f.reserved = []
  holding : ∀ a, f.holding a = if f.antenna = some a then 1 else 0
  reserving : ∀ a, (Reserves t a → f.reserving a = 1) ∧ (¬ Reserves t a → f.reserving a = 0)
  hold : ∀ a, f.hold a = true ↔ t.old = some a ∨ t.target = some a
  allowed : ∀ a, Reserves t a ∨ (f.antenna = some a ∧ t.cause.forced = false) → allowed a = true

/-- The route of a position, its places and its holds. -/
structure PlacesOk (off : Prop) (allowed : Ant → Bool) (e : Prop) (f : Footing) : Prop where
  slot : ∀ r, f.slot = some r → r.cause.forced = false
  still : f.transition = none → Still off allowed e f
  moving : ∀ t, f.transition = some t → Moving allowed f t

section
variable {off : Prop} {allowed : Ant → Bool} {e : Prop} {x : Seat} {t : Transition}

theorem placesOk_moving {f : Footing} (at' : f.transition = some t) (h : Moving allowed f t)
    (slot : ∀ r, f.slot = some r → r.cause.forced = false) : PlacesOk off allowed e f :=
  ⟨slot, fun none => (nomatch at'.symm.trans none), fun _ h' => by cases at'.symm.trans h'; exact h⟩

theorem placesOk_still {f : Footing} (loose : f.transition = none) (h : Still off allowed e f)
    (slot : ∀ r, f.slot = some r → r.cause.forced = false) : PlacesOk off allowed e f :=
  ⟨slot, fun _ => h, fun _ h' => (nomatch loose.symm.trans h')⟩

/-- A transition starts on a position in none (R67). -/
theorem Settled.started {v : View} {p : Pos} {k : RequestKind} {c : Cause} {o : Option Ant} {st : RouteState}
    (h : Settled allowed x.footing) (fault : c = .fault → x.context.state = .faulted)
    (start : st = .routed ↔ x.context.antenna ≠ none) (started : st ≠ .disabled ∧ st ≠ .switching)
    (apart : o ≠ x.context.antenna) (forced : c.forced = true → o = none) (room : ∀ a, o = some a → allowed a = true) :
    Moving allowed (x.started v p k c o st).footing (inWait v x.context.antenna o k c st) where
  state := by
    change (if c = .fault then x.context.state else .switching) = _
    split
    · rename_i isFault
      rw [fault isFault]
      exact (if_pos isFault).symm
    · rename_i other
      exact (if_neg other).symm
  mark := by
    change (x.context.mark || c.forced) = c.forced
    rw [show x.context.mark = false from h.mark, Bool.false_or]
  forced := forced
  apart := apart.symm
  start := start
  started := started
  untargeted none := by
    change o.elim x.reserved _ = []
    rw [show o = .none from none]
    exact h.reserved
  leaving _ := rfl
  breaking := nofun
  entering := nofun
  holding := h.holding
  reserving a := by
    have now : (x.started v p k c o st).footing.reserving a = if o = some a then 1 else 0 := by
      change x.reserving a + _ = _
      rw [show x.reserving a = 0 from h.reserving a, Nat.zero_add]
    rw [now]
    refine ⟨fun reserves => ?_, fun free => ?_⟩
    · exact if_pos reserves.1
    · exact if_neg fun target => free ⟨target, .inl rfl⟩
  hold a := by
    change (decide (o = some a) || (decide (x.context.antenna = some a) || x.hold a)) = true ↔ _
    rw [show x.hold a = false from h.hold a, Bool.or_false, Bool.or_eq_true, decide_eq_true_iff, decide_eq_true_iff]
    exact or_comm
  allowed a on := by
    rcases on with reserves | ⟨current, -⟩
    · exact room a reserves.1
    · exact h.allowed a current

/-- A hold set that a transition leaves at its end (R81). -/
theorem Moving.unhold (h : Moving allowed x.footing t) (a : Ant) :
    (!decide (t.target = some a) && (!decide (t.old = some a) && x.hold a)) = false := by
  by_contra on
  rw [Bool.not_eq_false, Bool.and_eq_true, Bool.and_eq_true, Bool.not_eq_true', Bool.not_eq_true'] at on
  exact ((h.hold a).1 on.2.2).elim (of_decide_eq_false on.2.1) (of_decide_eq_false on.1)

/-- A transition in WAIT is abandoned (R74). -/
theorem Moving.freed (h : Moving allowed x.footing t) (wait : t.phase = .wait) (unforced : t.cause.forced = false) :
    Still off allowed e (x.freed t).footing where
  mark := h.mark.trans unforced
  reserved := by
    change (if t.target = none then x.reserved else []) = []
    split
    · rename_i none
      exact h.untargeted none
    · rfl
  holding := h.holding
  reserving a := by
    change (if t.target = some a then 0 else x.reserving a) = 0
    split
    · rfl
    · rename_i other
      exact (h.reserving a).2 fun reserves => other reserves.1
  hold := h.unhold
  allowed a current := h.allowed a (.inr ⟨current, unforced⟩)
  state := ⟨h.started.2, h.start.trans (by rw [show (x.freed t).footing.antenna = t.old from h.leaving (.inl wait)])⟩
  disabled off := absurd off h.started.1

/-- A transition that moves on where it stands: in its phase, with another cause that is no forced release either. -/
theorem Moving.moves {f g : Footing} {t' : Transition} (h : Moving allowed f t)
    (same : g = { f with transition := some t', slot := g.slot })
    (t_same : t' = { t with quietTimer := t'.quietTimer, due := t'.due, cause := t'.cause, phaseTimer := t'.phaseTimer })
    (cause : t'.cause = t.cause ∨ (t'.cause.forced = false ∧ t.cause.forced = false)) : Moving allowed g t' := by
  have forced : t'.cause.forced = t.cause.forced := by
    rcases cause with e | ⟨u, u'⟩
    · rw [e]
    · rw [u, u']
  have fault : (t'.cause = .fault) = (t.cause = .fault) := by
    rcases cause with e | ⟨u, u'⟩
    · rw [e]
    · refine propext ⟨fun e => ?_, fun e => ?_⟩
      · rw [e] at u; cases u
      · rw [e] at u'; cases u'
  obtain ⟨old, target, kind, cause', phase, phaseTimer, quietTimer, start, due, broken⟩ := t
  rw [same]
  rw [t_same] at forced fault ⊢
  dsimp only at forced fault
  have state := h.state
  exact {
    state := by simpa only [fault] using h.state
    mark := h.mark.trans forced.symm
    forced := fun f => h.forced (forced.symm.trans f)
    apart := h.apart
    start := h.start
    started := h.started
    untargeted := h.untargeted
    leaving := h.leaving
    breaking := h.breaking
    entering := h.entering
    holding := h.holding
    reserving := h.reserving
    hold := h.hold
    allowed := fun a on => h.allowed a (on.imp_right fun ⟨current, u⟩ => ⟨current, forced.symm.trans u⟩) }

/-- The next phase of a transition that keeps its antenna: BREAK after WAIT, CHECK after MAKE (R76, R79). -/
theorem Moving.rephased {f g : Footing} {t' : Transition} (h : Moving allowed f t)
    (same : g = { f with transition := some t', slot := g.slot })
    (t_same : t' = { t with phase := t'.phase, quietTimer := t'.quietTimer, due := t'.due, phaseTimer := t'.phaseTimer, broken := t'.broken })
    (next : (t.phase = .wait ∧ t'.phase = .brk ∧ t.old ≠ none) ∨ (t.phase = .make ∧ t'.phase = .check)) : Moving allowed g t' := by
  obtain ⟨old, target, kind, cause', phase, phaseTimer, quietTimer, start, due, broken⟩ := t
  obtain ⟨phase', quietTimer', due', phaseTimer', broken', rfl⟩ :
      ∃ a b c d e, t' = ⟨old, target, kind, cause', a, d, b, start, c, e⟩ := ⟨_, _, _, _, _, t_same⟩
  rw [same]
  dsimp only at next
  rcases next with ⟨rfl, rfl, leaves⟩ | ⟨rfl, rfl⟩
  · have reserves (a : Ant) : Reserves ⟨old, target, kind, cause', .brk, phaseTimer', quietTimer', start, due', broken'⟩ a ↔
        Reserves ⟨old, target, kind, cause', .wait, phaseTimer, quietTimer, start, due, broken⟩ a := by simp [Reserves]
    exact { h with
      leaving := fun _ => h.leaving (.inl rfl), breaking := fun _ => leaves, entering := nofun
      reserving := fun a => by rw [reserves]; exact h.reserving a
      allowed := fun a => by rw [reserves]; exact h.allowed a }
  · have reserves (a : Ant) : Reserves ⟨old, target, kind, cause', .check, phaseTimer', quietTimer', start, due', broken'⟩ a ↔
        Reserves ⟨old, target, kind, cause', .make, phaseTimer, quietTimer, start, due, broken⟩ a := by simp [Reserves]
    exact { h with
      leaving := nofun, breaking := nofun, entering := fun _ => h.entering (.inl rfl)
      reserving := fun a => by rw [reserves]; exact h.reserving a
      allowed := fun a => by rw [reserves]; exact h.allowed a }

/-- The position holds nothing once it has left its old antenna (R77). -/
theorem Moving.left (h : Moving allowed x.footing t) (leaving : t.phase = .wait ∨ t.phase = .brk) :
    (x.left t).context.antenna = none ∧ ∀ a, (x.left t).holding a = 0 := by
  have current : x.context.antenna = t.old := h.leaving leaving
  unfold Seat.left
  cases old : t.old with
  | none =>
    refine ⟨current.trans old, fun a => (h.holding a).trans (if_neg ?_)⟩
    rw [show x.footing.antenna = none from current.trans old]
    exact nofun
  | some o =>
    refine ⟨rfl, fun a => ?_⟩
    change (if a = o then 0 else x.holding a) = 0
    split
    · rfl
    · rename_i other
      refine (h.holding a).trans (if_neg fun held => other ?_)
      exact (Option.some.inj (old.symm.trans (current.symm.trans held))).symm

theorem left_places (t : Transition) (x : Seat) : (x.left t).context.state = x.context.state ∧
    (x.left t).context.mark = x.context.mark ∧ (x.left t).reserved = x.reserved ∧
    (x.left t).reserving = x.reserving ∧ (x.left t).hold = x.hold := by
  unfold Seat.left
  split <;> exact ⟨rfl, rfl, rfl, rfl, rfl⟩

/-- The target that a transition has in reserve becomes its antenna (R78). -/
theorem Moving.made {b : Bank} {a : Ant} (y : Bool) (h : Moving allowed x.footing t) (leaving : t.phase = .wait ∨ t.phase = .brk)
    (target : t.target = some a) : Moving allowed ((x.left t).made b t a y).footing (making b t) := by
  obtain ⟨antenna, empty⟩ := h.left leaving
  obtain ⟨state, mark, reserved, reserving, hold⟩ := left_places t x
  have there : x.reserving a = 1 := (h.reserving a).1 ⟨target, leaving⟩
  exact {
    state := state.trans h.state
    mark := mark.trans h.mark
    forced := h.forced
    apart := h.apart
    start := h.start
    started := h.started
    untargeted := fun none => (nomatch target.symm.trans none)
    leaving := nofun
    breaking := nofun
    entering := fun _ => ⟨fun none => (nomatch target.symm.trans none), target.symm, rfl⟩
    holding := fun n => by
      change (x.left t).holding n + (if n = a then (x.left t).reserving a else 0) = if some a = some n then 1 else 0
      rw [empty n, reserving, there, Nat.zero_add]
      simp only [Option.some.injEq, eq_comm]
    reserving := fun n => ⟨fun on => (nomatch on.2), fun _ => by
      change (if n = a then 0 else (x.left t).reserving n) = 0
      rw [reserving]
      split
      · rfl
      · rename_i other
        exact (h.reserving n).2 fun on => other (Option.some.inj (on.1.symm.trans target))⟩
    hold := fun n => by
      change (x.left t).hold n = true ↔ _
      rw [hold]
      exact h.hold n
    allowed := fun n on => by
      rcases on with on | ⟨current, -⟩
      · exact nomatch on.2
      · exact h.allowed n (.inl ⟨target.trans current, leaving⟩) }

/-- A transition with no target ends at the end of its BREAK (R77, R82). -/
theorem Moving.leftForGood {b : Bank} {p : Pos} (h : Moving allowed x.footing t) (brk : t.phase = .brk) (target : t.target = none)
    (latched : ∀ r, x.context.slot = some r → e ∧ r.status = .latched) : Still (enabled b p = false) allowed e
      ((x.left t).cleared t (if t.cause = .fault then .faulted else restState b p)).footing := by
  obtain ⟨antenna, empty⟩ := h.left (.inr brk)
  obtain ⟨-, -, reserved, reserving, hold⟩ := left_places t x
  obtain ⟨-, slot, -⟩ := left_frame t x
  have rest : restState b p = .idle ∨ (restState b p = .disabled ∧ enabled b p = false) := by
    unfold restState
    split
    · exact .inl rfl
    · rename_i off
      exact .inr ⟨rfl, Bool.eq_false_iff.2 off⟩
  have nowhere : ((x.left t).cleared t (if t.cause = .fault then .faulted else restState b p)).footing.antenna = none := antenna
  exact {
    mark := rfl
    reserved := reserved.trans (h.untargeted target)
    holding := fun a => by
      rw [nowhere]
      exact empty a
    reserving := fun a => by
      change (x.left t).reserving a = 0
      rw [reserving]
      exact (h.reserving a).2 fun on => (nomatch target.symm.trans on.1)
    hold := fun a => by
      change (!decide (t.target = some a) && (!decide (t.old = some a) && (x.left t).hold a)) = false
      rw [hold]
      exact h.unhold a
    allowed := fun a current => (nomatch nowhere.symm.trans current)
    state := by
      rw [nowhere]
      change (if t.cause = .fault then .faulted else restState b p) ≠ _ ∧ ((if t.cause = .fault then .faulted else restState b p) = _ ↔ _)
      split
      · exact ⟨nofun, nofun, fun h => absurd rfl h⟩
      · rcases rest with e | ⟨e, -⟩
        · rw [e]
          exact ⟨nofun, nofun, fun h => absurd rfl h⟩
        · rw [e]
          exact ⟨nofun, nofun, fun h => absurd rfl h⟩
    disabled := fun off => by
      change (if t.cause = .fault then .faulted else restState b p) = _ at off
      split at off
      · cases off
      · rcases rest with e | ⟨-, off'⟩
        · exact nomatch e.symm.trans off
        · exact ⟨off', fun r hr => latched r (slot.symm.trans hr)⟩ }

/-- A transition that passes its CHECK leaves its position ROUTED (R80, R82). -/
theorem Moving.passed (h : Moving allowed x.footing t) (check : t.phase = .check) :
    Still off allowed e (x.cleared t .routed).footing := by
  obtain ⟨targeted, current, reserved⟩ := h.entering (.inr check)
  have unforced : t.cause.forced = false := by
    by_contra forced
    exact targeted (h.forced (by simpa using forced))
  exact {
    mark := rfl
    reserved := reserved
    holding := h.holding
    reserving := fun a => (h.reserving a).2 fun on =>
      on.2.elim (fun wait => nomatch check.symm.trans wait) fun brk => nomatch check.symm.trans brk
    hold := h.unhold
    allowed := fun a current => h.allowed a (.inr ⟨current, unforced⟩)
    state := ⟨nofun, fun _ => by
      rw [show (x.cleared t .routed).footing.antenna = t.target from current]
      exact targeted, fun _ => rfl⟩
    disabled := nofun }

/-- A transition that fails its CHECK leaves its position FAULTED (R80, R82). -/
theorem Moving.failed (h : Moving allowed x.footing t) (check : t.phase = .check) :
    Still off allowed e ((x.shed t).cleared t .faulted).footing := by
  obtain ⟨targeted, current, reserved⟩ := h.entering (.inr check)
  exact {
    mark := rfl
    reserved := reserved
    holding := fun a => by
      change (if t.target = some a then 0 else x.holding a) = 0
      split
      · rfl
      · rename_i other
        refine (h.holding a).trans (if_neg fun held => other ?_)
        exact current.symm.trans held
    reserving := fun a => (h.reserving a).2 fun on =>
      on.2.elim (fun wait => nomatch check.symm.trans wait) fun brk => nomatch check.symm.trans brk
    hold := h.unhold
    allowed := nofun
    state := ⟨nofun, nofun, fun h => absurd rfl h⟩
    disabled := nofun }

/-- A transition in WAIT has its target replaced (R75). -/
theorem Moving.retargeted {v : View} {p : Pos} {k : RequestKind} {c : Cause} {o : Option Ant} (h : Moving allowed x.footing t)
    (wait : t.phase = .wait) (unforced : t.cause.forced = false) (free : c.forced = false) (apart : o ≠ x.context.antenna)
    (room : ∀ a, o = some a → allowed a = true) : Moving allowed (x.retargeted v p t k c o).footing (replaced v t k c o) := by
  have current : x.context.antenna = t.old := h.leaving (.inl wait)
  have fault (c : Cause) (u : c.forced = false) : c ≠ .fault := by
    rintro rfl
    cases u
  exact {
    state := by
      change x.context.state = if c = .fault then _ else _
      rw [if_neg (fault c free)]
      exact h.state.trans (if_neg (fault t.cause unforced))
    mark := h.mark.trans (unforced.trans free.symm)
    forced := fun f => (nomatch free.symm.trans f)
    apart := fun same => apart (same.symm.trans current.symm)
    start := h.start
    started := h.started
    untargeted := fun none => by
      change o.elim (if t.target = .none then x.reserved else []) _ = []
      rw [show o = .none from none]
      change (if t.target = .none then x.reserved else []) = []
      split
      · rename_i gone
        exact h.untargeted gone
      · rfl
    leaving := fun _ => current
    breaking := fun brk => (nomatch wait.symm.trans brk)
    entering := fun on => (on.elim (fun e => nomatch wait.symm.trans e) fun e => nomatch wait.symm.trans e)
    holding := h.holding
    reserving := fun a => by
      have now : (x.retargeted v p t k c o).footing.reserving a = if o = some a then 1 else 0 := by
        change (if t.target = some a then 0 else x.reserving a) + _ = _
        split
        · exact Nat.zero_add _
        · rename_i left
          rw [show x.reserving a = 0 from (h.reserving a).2 fun on => left on.1, Nat.zero_add]
      rw [now]
      refine ⟨fun on => if_pos on.1, fun off => if_neg fun target => off ⟨target, .inl wait⟩⟩
    hold := fun a => by
      have before := h.hold a
      change (decide (o = some a) || (if t.target = t.old then x.hold a else !decide (t.target = some a) && x.hold a)) = true ↔
        t.old = some a ∨ o = some a
      rw [if_neg h.apart.symm, Bool.or_eq_true, decide_eq_true_iff, Bool.and_eq_true, Bool.not_eq_true', decide_eq_false_iff_not,
        or_comm]
      refine or_congr_left ⟨fun ⟨left, on⟩ => (before.1 on).resolve_right left, fun old => ⟨fun target => ?_, before.2 (.inl old)⟩⟩
      exact h.apart (old.trans target.symm)
    allowed := fun a on => by
      rcases on with on | ⟨here, -⟩
      · exact room a on.1
      · exact h.allowed a (.inr ⟨here, unforced⟩) }

end

end Sys2Proof.Proofs.Seats

/-!
SUPPORT. Every operation of the events keeps the antenna records in step with the contexts (R36, R39).
-/
namespace Sys2Proof.Proofs.Seats
open Sys2Proof Sys2Proof.Machine Sys2Proof.Proofs.Keeping Sys2Proof.Proofs.Following Sys2Proof.Proofs.Moving

section
variable {off : Prop} {allowed : Ant → Bool} {e : Prop} {x : Seat} {t : Transition}

/-- Another pending request, of a cause that is not forced. -/
theorem PlacesOk.reslot {e' : Prop} {s : Option PendingRequest} {n : Nat} (h : PlacesOk off allowed e x.footing)
    (free : ∀ r, s = some r → r.cause.forced = false)
    (rest : x.context.transition = none → x.context.state = .disabled → ∀ r, s = some r → e' ∧ r.status = .latched) :
    PlacesOk off allowed e' (x.withSlot s n).footing where
  slot := free
  still loose := { h.still loose with disabled := fun state => ⟨((h.still loose).disabled state).1, rest loose state⟩ }
  moving t at' := { h.moving t at' with }

theorem Settled.relatched (h : Settled allowed x.footing) : Settled allowed x.relatched.footing := by
  unfold Seat.relatched
  split
  · exact { h with }
  · exact h

/-- A release that is forced, of a position that holds an antenna (R58, R61). -/
theorem Settled.released {v : View} {p : Pos} {c : Cause} (h : Settled allowed x.footing) (current : x.context.antenna ≠ none)
    (fault : c = .fault → x.context.state = .faulted) (free : ∀ r, x.context.slot = some r → r.cause.forced = false) :
    PlacesOk off allowed e (x.relatched.started v p .release c none .routed).footing := by
  have antenna : x.relatched.context.antenna = x.context.antenna := (relatched_frame x).2.1
  refine placesOk_moving rfl (h.relatched.started (fun isFault => ?_) ?_ ⟨nofun, nofun⟩ ?_ (fun _ => rfl) nofun) fun r hr => ?_
  · exact (relatched_frame x).1.trans (fault isFault)
  · rw [antenna]
    exact ⟨fun _ => current, fun _ => rfl⟩
  · rw [antenna]
    exact current.symm
  · obtain ⟨-, r₀, at', cause⟩ := relatched_slot hr
    exact cause ▸ free r₀ at'

/-- What a request does on an empty slot of an enabled position in no transition (R48). -/
theorem Still.acted {v : View} {p : Pos} {k : RequestKind} {c : Cause} {sel : Selection} (h : Still off allowed False x.footing)
    (loose : x.context.transition = none) (slot : x.context.slot = none) (alive : x.context.state ≠ .disabled)
    (free : c.forced = false) (selects : Selects (fun _ a => allowed a = true) p x.context.antenna sel) :
    PlacesOk off allowed False (x.acted v p k c sel).footing := by
  have now : PlacesOk off allowed False x.footing := placesOk_still loose h fun r hr => (nomatch slot.symm.trans hr)
  have notFault : c ≠ .fault := by
    rintro rfl
    cases free
  cases sel with
  | refused r => exact now
  | held =>
    refine now.reslot (fun r hr => ?_) fun _ state => absurd state alive
    cases hr
    exact free
  | target o =>
    obtain ⟨apart, room⟩ := selects o rfl
    exact placesOk_moving rfl (h.toSettled.started (fun fault => absurd fault notFault) h.state.2 ⟨alive, h.state.1⟩ apart
      (fun forced => (nomatch free.symm.trans forced)) room) fun r hr => (nomatch slot.symm.trans hr)
  | current =>
    by_cases release : k = .release ∧ x.context.state = .faulted
    · have nowhere : x.context.antenna = none := by
        by_contra current
        exact nomatch release.2.symm.trans (h.state.2.2 current)
      have idle : (x.acted v p k c .current).footing.state = .idle := if_pos release
      refine placesOk_still loose { h with state := ?_, disabled := fun state => (nomatch idle.symm.trans state) } now.slot
      rw [idle]
      exact ⟨nofun, nofun, fun current => absurd nowhere current⟩
    · have same : (if k = .release ∧ x.context.state = .faulted then .idle else x.context.state) = x.context.state := if_neg release
      unfold Seat.acted
      dsimp only
      rw [same]
      exact now

end

/-- The law of the routes, the places and the holds, with that of the slots; `allowed` says where each position may count. -/
def Placed (allowed : Pos → Ant → Bool) : SeatLaw := fun b _ p e x =>
  HeldOk e x ∧ PlacesOk (enabled b p = false) (allowed p) e x.footing

section
variable (allowed : Pos → Ant → Bool)

theorem keepsSeats_placed : KeepsSeats (Placed allowed) unforced where
  request := rfl
  follow := rfl
  slot h at' := h.2.slot _ at'
  key quiets h := ⟨keepsSeats_lists.key (b := Bank.empty) (m := .normal) (p := 0) quiets h.1, h.2⟩
  entry fits h := ⟨h.1.of_same rfl rfl rfl, h.2⟩
  cleared _ h := ⟨h.1.of_same rfl rfl rfl, h.2⟩
  latched _ h := ⟨h.1.of_same rfl rfl rfl, h.2⟩
  fault {v b m p x y} routed loose h := by
    have still := h.2.still loose
    refine ⟨keepsSeats_lists.fault (v := v) (b := b) (m := m) (p := p) (x := x) (y := y) routed loose h.1, ?_⟩
    exact Settled.released (x := { x with
      context := { x.context with state := .faulted }, key := keptOff v.bank .fault x.key, latched := y })
      { still with } (still.state.2.1 routed) (fun _ => rfl) h.2.slot
  settings _ _ _ h := ⟨h.1.of_same rfl rfl rfl, h.2⟩
  retime _ _ at' _ h := ⟨h.1.moves at' rfl rfl rfl id,
    placesOk_moving rfl ((h.2.moving _ at').moves rfl rfl (.inl rfl)) h.2.slot⟩
  check at' make h := ⟨h.1.moves at' rfl rfl rfl fun free => (nomatch free.1),
    placesOk_moving rfl ((h.2.moving _ at').rephased rfl rfl (.inr ⟨make, rfl⟩)) h.2.slot⟩
  recause at' wait free c h := ⟨h.1.moves at' rfl rfl rfl fun _ => ⟨wait, free⟩,
    placesOk_moving rfl ((h.2.moving _ at').moves rfl rfl (.inr ⟨c, free⟩)) h.2.slot⟩
  latch {b m p x t k c} at' passed ok h := by
    refine ⟨keepsSeats_lists.latch (b := b) (m := m) (p := p) (x := x) (t := t) at' passed trivial h.1, h.2.reslot (fun r hr => ?_)
      fun loose => (nomatch at'.symm.trans loose)⟩
    cases hr
    exact ok
  freed {b m p x t} at' wait free clear h :=
    ⟨keepsSeats_lists.freed (b := b) (m := m) (p := p) (x := x) (t := t) at' wait free clear h.1,
      placesOk_still rfl ((h.2.moving t at').freed wait free) h.2.slot⟩
  freedHeld {b m p x t k c} at' wait free clear ok h := by
    have moving := h.2.moving t at'
    have freed : PlacesOk (enabled b p = false) (allowed p) False (x.freed t).footing :=
      placesOk_still rfl (moving.freed wait free) h.2.slot
    refine ⟨keepsSeats_lists.freedHeld (b := b) (m := m) (p := p) (x := x) (t := t) at' wait free clear trivial h.1,
      freed.reslot (fun r hr => ?_) fun _ state => absurd state moving.started.1⟩
    cases hr
    exact ok
  freedFaulted {v b m p x t} at' wait free start h := by
    have moving := h.2.moving t at'
    have freed : Still (enabled b p = false) (allowed p) False (x.freed t).footing := moving.freed wait free
    refine ⟨keepsSeats_lists.freedFaulted (v := v) (b := b) (m := m) (p := p) (x := x) (t := t) at' wait free start h.1, ?_⟩
    exact Settled.released (x := { x.freed t with
      context := { (x.freed t).context with state := .faulted }, key := keptOff v.bank .fault (x.freed t).key })
      { freed with } (freed.state.2.1 start) (fun _ => rfl) h.2.slot
  leaveToMake {b m p x t a} y at' brk target h := by
    obtain ⟨-, slot, -⟩ := left_frame t x
    exact ⟨keepsSeats_lists.leaveToMake (b := b) (m := m) (p := p) (x := x) (t := t) y at' brk target h.1,
      placesOk_moving rfl ((h.2.moving t at').made y (.inr brk) target) fun r hr => h.2.slot r (slot.symm.trans hr)⟩
  leaveToEnd {b m p x t} at' brk target h := by
    obtain ⟨-, slot, -⟩ := left_frame t x
    exact ⟨keepsSeats_lists.leaveToEnd (b := b) (m := m) (p := p) (x := x) (t := t) at' brk target h.1,
      placesOk_still rfl ((h.2.moving t at').leftForGood brk target fun r hr => ⟨trivial, ((h.1.moving t at').2.2 r hr).1⟩)
        fun r hr => h.2.slot r (slot.symm.trans hr)⟩
  checkPassed {b m p x t} at' check sound h :=
    ⟨keepsSeats_lists.checkPassed (b := b) (m := m) (p := p) (x := x) (t := t) at' check sound h.1,
      placesOk_still rfl ((h.2.moving t at').passed check) h.2.slot⟩
  checkFailed {b m p x t} at' check h :=
    ⟨keepsSeats_lists.checkFailed (b := b) (m := m) (p := p) (x := x) (t := t) at' check h.1,
      placesOk_still rfl ((h.2.moving t at').failed check) h.2.slot⟩
  closed {b m p x k} _ _ h := by
    refine ⟨heldOk_empty rfl rfl rfl, placesOk_still rfl ?_ nofun⟩
    have rest : (x.closed b p k).footing.state = restState b p := rfl
    refine ⟨⟨rfl, rfl, fun _ => rfl, fun _ => rfl, fun _ => rfl, nofun⟩, ?_, fun state => ⟨?_, nofun⟩⟩
    · rw [rest]
      unfold restState
      split <;> exact ⟨nofun, nofun, fun h => absurd rfl h⟩
    · rw [rest] at state
      unfold restState at state
      split at state
      · cases state
      · rename_i off
        exact Bool.eq_false_iff.2 off
  resume h := h

theorem keepsStarts_placed : KeepsStarts (Placed allowed) unforced (fun p a => allowed p a = true) (fun _ _ => True)
    fun _ => True where
  granted _ _ _ h := ⟨h.1.of_same rfl rfl rfl, h.2⟩
  chosen {v p x k c sel} on loose free selects h := by
    obtain ⟨slot, unlisted⟩ := h.1.unheld loose
    have loose' : x.unheld.context.transition = none := by simpa using loose
    have dropped : PlacesOk (enabled v.bank p = false) (allowed p) False x.unheld.footing := by
      unfold Seat.unheld
      split
      · exact h.2.reslot nofun fun _ _ => nofun
      · exact h.2
    have still := dropped.still loose'
    have alive : x.unheld.context.state ≠ .disabled := fun state => by
      have off := (still.disabled state).1
      rw [on] at off
      cases off
    exact ⟨heldOk_acted sel loose' slot unlisted, still.acted loose' slot alive free (by rw [(unheld_frame x).2.1]; exact selects)⟩
  heldDropped asks h := ⟨heldOk_empty (h.1.of_asks asks).1 rfl rfl, h.2.reslot nofun fun _ _ => nofun⟩
  heldStarted {v m p e x r o} slot held selects h := by
    obtain ⟨loose, free⟩ := h.1.of_asks (asksHeld_iff.2 ⟨r, slot, held⟩)
    have still := h.2.still loose
    have alive : x.context.state ≠ .disabled := fun state => free ((still.disabled state).2 r slot).1
    have unforced := h.2.slot r slot
    obtain ⟨apart, room⟩ := selects o rfl
    have settled : Settled (allowed p) (x.withSlot none 0).footing := { still.toSettled with }
    refine ⟨at_false (S := Lists) (b := v.bank) (m := m) (p := p) free (heldOk_started rfl rfl), placesOk_moving rfl
      (settled.started (fun fault => ?_) still.state.2 ⟨alive, still.state.1⟩ apart
        (fun forced => (nomatch unforced.symm.trans forced)) room) nofun⟩
    rw [fault] at unforced
    cases unforced
  latchedDropped {b m p x} h := ⟨keepsStarts_lists.latchedDropped (b := b) (m := m) (p := p) h.1, h.2.reslot nofun fun _ _ => nofun⟩
  latchedChosen {v p x r sel} on slot selects h := by
    have loose : x.context.transition = none := by
      cases at' : x.context.transition with
      | none => rfl
      | some t => exact absurd trivial (h.1.moving t at').1
    have dropped : PlacesOk (enabled v.bank p = false) (allowed p) False (x.withSlot none x.held).footing :=
      h.2.reslot nofun fun _ _ => nofun
    have still := dropped.still loose
    have alive : x.context.state ≠ .disabled := fun state => by
      have off := (still.disabled state).1
      rw [on] at off
      cases off
    exact ⟨keepsStarts_lists.latchedChosen (v := v) (p := p) on slot (fun o target => ⟨(selects o target).1, fun _ _ => trivial⟩) h.1,
      still.acted loose rfl alive (h.2.slot r slot) selects⟩
  replaced {v m p x t k c o} at' wait free ok other selects h := by
    obtain ⟨apart, room⟩ := selects o rfl
    exact ⟨h.1.moves at' rfl rfl rfl fun _ => ⟨wait, free⟩,
      placesOk_moving rfl ((h.2.moving t at').retargeted wait free ok apart room) h.2.slot⟩
  broken {b m p x t o} cs at' wait _ _ old h := ⟨h.1.moves at' rfl rfl rfl fun free => (nomatch free.1),
    placesOk_moving rfl ((h.2.moving t at').rephased rfl rfl (.inl ⟨wait, rfl, by rw [old]; exact nofun⟩)) h.2.slot⟩
  made {b m p x t a} y at' wait _ _ old target h := by
    have here : x.left t = x := by
      unfold Seat.left
      rw [old]
    have made := (h.2.moving t at').made (b := b) y (.inl wait) target
    rw [here] at made
    exact ⟨h.1.moves at' rfl rfl rfl fun free => (nomatch free.1), placesOk_moving rfl made h.2.slot⟩

variable {allowed}

/-- Step A sets a position to its new entry (R160). -/
theorem placed_enablement {old b : Bank} {m : StationMode} {p : Pos} {x : Seat} (h : Placed allowed old m p False x) :
    Placed allowed b m p False (x.enablement old b p) := by
  refine ⟨heldOk_enablement h.1, ?_⟩
  -- a position whose state is not DISABLED needs nothing of the new bank
  have alive {y : Seat} (k : PlacesOk (enabled old p = false) (allowed p) False y.footing) (state : y.context.state ≠ .disabled) :
      PlacesOk (enabled b p = false) (allowed p) False y.footing :=
    ⟨k.slot, fun loose => { k.still loose with disabled := fun s => absurd s state }, k.moving⟩
  have disabled (loose : x.context.transition = none) (nowhere : x.context.antenna = none) (off : enabled b p = false) :
      PlacesOk (enabled b p = false) (allowed p) False
        (Seat.unheld { x with context := { x.context with state := .disabled } }).footing := by
    have set : HeldOk False { x with context := { x.context with state := .disabled } } := h.1.of_same rfl rfl rfl
    obtain ⟨slot, -⟩ := set.unheld loose
    have settled := (h.2.still loose).toSettled
    refine placesOk_still (by simpa [Seat.footing] using loose) ?_ fun r hr => (nomatch slot.symm.trans hr)
    have kept : Settled (allowed p) (Seat.unheld { x with context := { x.context with state := .disabled } }).footing := by
      unfold Seat.unheld
      split <;> exact { settled with }
    refine { kept with state := ?_, disabled := fun _ => ⟨off, fun r hr => (nomatch slot.symm.trans hr)⟩ }
    have state : (Seat.unheld { x with context := { x.context with state := .disabled } }).footing.state = .disabled :=
      (unheld_frame _).1
    have antenna : (Seat.unheld { x with context := { x.context with state := .disabled } }).footing.antenna = none :=
      (unheld_frame _).2.1.trans nowhere
    rw [state, antenna]
    exact ⟨nofun, nofun, fun h => absurd rfl h⟩
  unfold Seat.enablement
  split
  · split
    · rename_i on
      refine alive h.2 fun state => ?_
      cases at' : x.context.transition with
      | none =>
        have off := ((h.2.still at').disabled state).1
        rw [on] at off
        cases off
      | some t =>
        have moving := (h.2.moving t at').state.symm.trans state
        split at moving <;> cases moving
    · refine alive (y := { x with context := { x.context with
        state := if x.context.state = .disabled then .idle else x.context.state, mode := (b.positions.get p).defaultMode } }) ?_ ?_
      · by_cases state : x.context.state = .disabled
        · refine ⟨h.2.slot, fun loose => ?_, fun t at' => ?_⟩
          · have still := h.2.still loose
            have idle : (if x.context.state = .disabled then RouteState.idle else x.context.state) = .idle := if_pos state
            have nowhere : x.context.antenna = none := by
              by_contra current
              exact nomatch state.symm.trans (still.state.2.2 current)
            refine { still with state := ?_, disabled := fun s => (nomatch idle.symm.trans s) }
            change (if x.context.state = .disabled then RouteState.idle else x.context.state) ≠ _ ∧
              ((if x.context.state = .disabled then RouteState.idle else x.context.state) = _ ↔ _)
            rw [idle]
            exact ⟨nofun, nofun, fun current => absurd nowhere current⟩
          · have moving := (h.2.moving t at').state.symm.trans state
            split at moving <;> cases moving
        · have same : (if x.context.state = .disabled then RouteState.idle else x.context.state) = x.context.state := if_neg state
          rw [same]
          exact h.2
      · change (if x.context.state = .disabled then RouteState.idle else x.context.state) ≠ .disabled
        split
        · exact nofun
        · assumption
  · rename_i off
    have off : enabled b p = false := Bool.eq_false_iff.2 off
    split
    · rename_i idle
      cases at' : x.context.transition with
      | none =>
        refine disabled at' ?_ off
        by_contra current
        exact nomatch idle.symm.trans ((h.2.still at').state.2.2 current)
      | some t =>
        have moving := (h.2.moving t at').state.symm.trans idle
        split at moving <;> cases moving
    · rename_i faulted
      split
      · rename_i loose
        refine disabled loose ?_ off
        by_contra current
        exact nomatch faulted.symm.trans ((h.2.still loose).state.2.2 current)
      · rename_i t at'
        have moving := h.2.moving t at'
        have fault : t.cause = .fault := by
          by_contra other
          have state := moving.state.symm.trans faulted
          rw [if_neg other] at state
          cases state
        have mark := moving.mark
        have forced := moving.forced
        rw [fault] at mark forced
        exact placesOk_moving rfl { moving with
          state := rfl, mark := mark, forced := fun _ => forced rfl
          allowed := fun a on => moving.allowed a (on.imp_right fun on => (nomatch on.2)) } h.2.slot
    · exact ⟨h.2.slot, fun loose => { h.2.still loose with
        disabled := fun s => ⟨off, ((h.2.still loose).disabled s).2⟩ }, h.2.moving⟩
    · rename_i switching
      exact alive h.2 fun s => (nomatch switching.symm.trans s)
    · rename_i routed
      exact alive h.2 fun s => (nomatch routed.symm.trans s)

end

end Sys2Proof.Proofs.Seats

/-!
SUPPORT. The bound of R45: the positions that count at an antenna, the holders without the forced-release mark and the reservations,
by their contexts; what an open antenna adds to it, and what the steps A to C of an apply take off it.
-/
namespace Sys2Proof.Proofs.Seats
open Sys2Proof Sys2Proof.Machine Sys2Proof.Proofs.Keeping Sys2Proof.Proofs.Following Sys2Proof.Proofs.Moving

/-! ### Who counts -/

/-- A position counts at an antenna: it holds it without the forced-release mark, or has it in reserve (R45). -/
def counts (c : Context) (a : Ant) : Bool :=
  (decide (c.antenna = some a) && !c.mark) || c.transition.any fun t => decide (t.target = some a ∧ (t.phase = .wait ∨ t.phase = .brk))

theorem counts_iff (c : Context) (a : Ant) : counts c a = true ↔
    (c.antenna = some a ∧ c.mark = false) ∨ ∃ t, c.transition = some t ∧ Reserves t a := by
  unfold counts Reserves
  cases c.transition <;> simp

/-- No antenna counts more positions than its limit. -/
def Bounded (b : Bank) (allowed : Pos → Ant → Bool) : Prop :=
  ∀ a, (positions.filter fun p => allowed p a).length ≤ antennaLimit (b.antennas.get a)

theorem bounded_of_subset {b : Bank} {f g : Pos → Ant → Bool} (h : Bounded b g) (sub : ∀ p a, f p a = true → g p a = true) :
    Bounded b f := fun a =>
  (List.monotone_filter_right positions fun p => sub p a).length_le.trans (h a)

section
variable {allowed allowed' : Pos → Ant → Bool} {b : Bank} {m : StationMode} {p : Pos} {e : Prop} {x : Seat}

theorem placed_counts (h : Placed allowed b m p e x) {a : Ant} (c : counts x.context a = true) : allowed p a = true := by
  rcases (counts_iff ..).1 c with ⟨current, unmarked⟩ | ⟨t, at', reserves⟩
  · cases at' : x.context.transition with
    | none => exact (h.2.still at').allowed a current
    | some t =>
      have moving := h.2.moving t at'
      exact moving.allowed a (.inr ⟨current, moving.mark.symm.trans unmarked⟩)
  · exact (h.2.moving t at').allowed a (.inl reserves)

/-- A position that counts at an antenna has a place there. -/
theorem placed_occupies (h : Placed allowed b m p e x) {a : Ant} (c : counts x.context a = true) :
    0 < x.holding a ∨ 0 < x.reserving a := by
  rcases (counts_iff ..).1 c with ⟨current, -⟩ | ⟨t, at', reserves⟩
  · have held : x.holding a = 1 := by
      have current : x.footing.antenna = some a := current
      cases at' : x.context.transition with
      | none => exact ((h.2.still at').holding a).trans (if_pos current)
      | some t => exact ((h.2.moving t at').holding a).trans (if_pos current)
    exact .inl (by omega)
  · have reserved : x.reserving a = 1 := ((h.2.moving t at').reserving a).1 reserves
    exact .inr (by omega)

/-- The places of a seat keep to any room that has all it counts for. -/
theorem placed_recount (h : Placed allowed b m p e x) (all : ∀ a, counts x.context a = true → allowed' p a = true) :
    Placed allowed' b m p e x := by
  refine ⟨h.1, h.2.slot, fun loose => ?_, fun t at' => ?_⟩
  · have still := h.2.still loose
    exact { still with allowed := fun a current => all a ((counts_iff ..).2 (.inl ⟨current, still.mark⟩)) }
  · have moving := h.2.moving t at'
    refine { moving with allowed := fun a on => all a ((counts_iff ..).2 ?_) }
    rcases on with reserves | ⟨current, free⟩
    · exact .inr ⟨t, at', reserves⟩
    · exact .inl ⟨current, moving.mark.trans free⟩

end

/-! ### A law of the seats with the bound -/

/-- A law of the seats that has the places of every position, under any room that has all that it counts for. -/
structure CountsPlaces (S : (Pos → Ant → Bool) → SeatLaw) : Prop where
  placed : ∀ {allowed b m p e x}, S allowed b m p e x → Placed allowed b m p e x
  recount : ∀ {allowed allowed' : Pos → Ant → Bool} {b m p e x}, S allowed b m p e x →
    (∀ a, counts x.context a = true → allowed' p a = true) → S allowed' b m p e x

section
variable {S : (Pos → Ant → Bool) → SeatLaw} (P : CountsPlaces S)
include P

/-- What counts now, and position `p` wherever there is room for it. -/
def roomFor (b : Bank) (w : Blocks) (p : Pos) (q : Pos) (a : Ant) : Bool :=
  counts (w.routes.contexts.get q) a || (decide (q = p) && openTo b w a p)

theorem bounded_now {allowed : Pos → Ant → Bool} {b : Bank} {m : StationMode} {e : Pos → Prop} {w : Blocks}
    (bound : Bounded b allowed) (h : ofSeats (S allowed) b m e w) : Bounded b fun q a => counts (w.routes.contexts.get q) a :=
  bounded_of_subset bound fun q _ c => placed_counts (P.placed (h q)) c

/-- An antenna that is open to a position has room for it (R45). -/
theorem bounded_roomFor {allowed : Pos → Ant → Bool} {b : Bank} {m : StationMode} {e : Pos → Prop} {w : Blocks} (p : Pos)
    (bound : Bounded b allowed) (h : ofSeats (S allowed) b m e w) : Bounded b (roomFor b w p) := by
  intro a
  cases opens : openTo b w a p with
  | false =>
    have same : (fun q => roomFor b w p q a) = fun q => counts (w.routes.contexts.get q) a := by
      funext q
      simp [roomFor, opens]
    rw [same]
    exact bounded_now P bound h a
  | true =>
    have others : ((positions.filter fun q => roomFor b w p q a).filter (· ≠ p)).length ≤ (positions.filter fun q =>
        decide (q ≠ p) && (w.routes.antennas.get a).occupants.any fun o => decide (o.pos = q)).length := by
      rw [List.filter_filter]
      refine (List.monotone_filter_right positions fun q on => ?_).length_le
      rw [Bool.and_eq_true, decide_eq_true_iff] at on ⊢
      obtain ⟨ne, counted⟩ := on
      rw [roomFor, decide_eq_false ne, Bool.false_and, Bool.or_false] at counted
      refine ⟨ne, List.any_eq_true.2 ?_⟩
      rcases placed_occupies (P.placed (h q)) counted with held | reserved
      · exact ⟨_, List.count_pos_iff.1 held, decide_eq_true rfl⟩
      · exact ⟨_, List.count_pos_iff.1 reserved, decide_eq_true rfl⟩
    have own : (positions.filter fun q => roomFor b w p q a).length ≤
        ((positions.filter fun q => roomFor b w p q a).filter (· ≠ p)).length + 1 := by
      have nodup : (positions.filter fun q => roomFor b w p q a).Nodup := (List.nodup_finRange 6).filter _
      have once : (positions.filter fun q => roomFor b w p q a).count p ≤ 1 := List.nodup_iff_count_le_one.1 nodup p
      have split := List.length_eq_length_filter_add (l := positions.filter fun q => roomFor b w p q a) (· ≠ p)
      have rest : ((positions.filter fun q => roomFor b w p q a).filter fun q => !decide (q ≠ p)).length =
          (positions.filter fun q => roomFor b w p q a).count p := by
        rw [List.count_eq_length_filter]
        congr 1
        refine List.filter_congr fun q _ => ?_
        simp [beq_eq_decide]
      omega
    unfold openTo at opens
    unfold antennaLimit
    dsimp only at opens
    split at opens
    · rename_i exclusive
      rw [if_pos exclusive]
      have none := of_decide_eq_true opens
      omega
    · rename_i shared
      rw [if_neg (by rw [shared]; exact nofun)]
      have room := of_decide_eq_true opens
      omega

/-- A law with the bound goes over to the room for one position. -/
theorem ofSeats_roomFor {allowed : Pos → Ant → Bool} {b : Bank} {m : StationMode} {e : Pos → Prop} {w : Blocks} (p : Pos)
    (h : ofSeats (S allowed) b m e w) : ofSeats (S (roomFor b w p)) b m e w := fun q =>
  P.recount (h q) fun _ c => Bool.or_eq_true_iff.2 (.inl c)

omit P in
theorem roomFor_open {b : Bank} {w : Blocks} {p : Pos} {a : Ant} (opens : openTo b w a p = true) : roomFor b w p p a = true := by
  simp [roomFor, opens]

end

end Sys2Proof.Proofs.Seats

/-!
SUPPORT. The apply and the bound of R45: step A leaves none but forced releases, step B releases positions that hold an antenna, and
step C trims each antenna to its limit under the incoming bank (R160 to R162).
-/
namespace Sys2Proof.Proofs.Seats
open Sys2Proof Sys2Proof.Machine Sys2Proof.Proofs.Keeping Sys2Proof.Proofs.Following Sys2Proof.Proofs.Moving

/-- What an apply asks of a law of the seats with the bound: that each of its steps keeps it. -/
structure AppliesPlaces (S : (Pos → Ant → Bool) → SeatLaw) : Prop extends CountsPlaces S where
  keeps : ∀ allowed, KeepsSeats (S allowed) unforced
  enabled : ∀ {allowed old b m p x}, S allowed old m p False x → S allowed b m p False (x.enablement old b p)
  released : ∀ {allowed} {v : View} {b m p x}, x.context.transition = none → x.context.antenna ≠ none → S allowed b m p False x →
    S allowed b m p False (x.released v p)
  reentered : ∀ {allowed b m p x y}, S allowed b m p False x → S allowed b m p False { x with entry := y }

/-- Every transition is a forced release (R57). -/
def AllForced (w : Blocks) : Prop := ∀ p t, (seat w p).context.transition = some t → t.cause.forced = true

theorem allForced_abandonAll {v : View} {w : Work} (still : ∀ p t, (w.context p).transition = some t → t.phase = .wait) :
    AllForced ((keptRequests w.toBlocks).foldl (abandonKept v) w).toBlocks := by
  intro p t at'
  obtain ⟨none, same⟩ | ⟨u, before, ⟨t₀, moves, -⟩, after⟩ := abandonedAll_seat v w p
  · rw [same] at at'
    by_contra free
    exact none ⟨t, at', still p t at', by simpa using free⟩
  · have here : (u.context p).transition = some t₀ := (congrArg (fun x : Seat => x.context.transition) before).trans moves
    rw [after, abandon_seat here] at at'
    split at at'
    · cases at'
      rfl
    · cases at'

theorem enablement_transition {old b : Bank} {p : Pos} {x : Seat} {t : Transition}
    (h : (x.enablement old b p).context.transition = some t) :
    ∃ t₀, x.context.transition = some t₀ ∧ (t₀.cause.forced = true → t.cause.forced = true) := by
  unfold Seat.enablement at h
  split at h
  · split at h <;> exact ⟨t, h, id⟩
  · split at h
    · exact ⟨t, (unheld_frame { x with context := { x.context with state := .disabled } }).2.2.1.symm.trans h, id⟩
    · split at h
      · exact ⟨t, (unheld_frame { x with context := { x.context with state := .disabled } }).2.2.1.symm.trans h, id⟩
      · rename_i t₀ at'
        cases h
        exact ⟨t₀, at', fun _ => rfl⟩
    all_goals exact ⟨t, h, id⟩

theorem allForced_enable {old : Bank} {v : View} {w : Work} (h : AllForced w.toBlocks) :
    AllForced (positions.foldl (setEnablement old v) w).toBlocks := by
  intro p t at'
  obtain ⟨u, before, after⟩ := foldl_positions (setEnablement old v) (fun w p => onlyAt_of_touches (touches_setEnablement old v w p)) w p
  rw [after, setEnablement_seat, before] at at'
  obtain ⟨t₀, moves, forced⟩ := enablement_transition at'
  exact forced (h p t₀ moves)

section
variable {S : (Pos → Ant → Bool) → SeatLaw} (P : AppliesPlaces S) {allowed : Pos → Ant → Bool} {b : Bank} {m : StationMode}
include P

/-- The apply between its steps A and D: the law, and no transition but forced releases. -/
structure Releasing (S : (Pos → Ant → Bool) → SeatLaw) (allowed : Pos → Ant → Bool) (b : Bank) (m : StationMode) (w : Blocks) :
    Prop where
  law : ofSeats (S allowed) b m nobody w
  forced : AllForced w

/-- A position that holds an antenna without the forced-release mark is in no transition there. -/
theorem Releasing.loose {w : Blocks} (h : Releasing S allowed b m w) {p : Pos} (unmarked : (seat w p).context.mark = false) :
    (seat w p).context.transition = none := by
  cases at' : (seat w p).context.transition with
  | none => rfl
  | some t =>
    have mark := ((P.placed (h.law p)).2.moving t at').mark
    exact nomatch unmarked.symm.trans (mark.trans (h.forced p t at'))

/-- Where every transition is a forced release, the holders without the mark count, and no others. -/
theorem Releasing.counts {w : Blocks} (h : Releasing S allowed b m w) {p : Pos} {a : Ant} :
    counts (seat w p).context a = true ↔ (seat w p).context.antenna = some a ∧ (seat w p).context.mark = false := by
  rw [counts_iff]
  refine ⟨fun on => on.resolve_right fun ⟨t, at', reserves⟩ => ?_, .inl⟩
  have gone := ((P.placed (h.law p)).2.moving t at').forced (h.forced p t at')
  exact nomatch gone.symm.trans reserves.1

/-- The releases of some holders without the mark: each of them is marked, and nothing else moves. -/
theorem Releasing.releaseAll {v : View} {ps : List Pos} (nodup : ps.Nodup) {r : Work × Nat}
    (h : Releasing S allowed b m r.1.toBlocks)
    (holds : ∀ p ∈ ps, (seat r.1.toBlocks p).context.mark = false ∧ (seat r.1.toBlocks p).context.antenna ≠ none) :
    Releasing S allowed b m (releaseAll v ps r).1.toBlocks ∧
      (∀ q, q ∉ ps → seat (Machine.releaseAll v ps r).1.toBlocks q = seat r.1.toBlocks q) ∧
      ∀ q ∈ ps, (seat (Machine.releaseAll v ps r).1.toBlocks q).context.mark = true := by
  obtain ⟨missed, turns⟩ := foldl_seats (fun w p => forceRelease v p w) id (fun w p => onlyAt_forceRelease v p w) ps r.1
  rw [List.map_id] at missed turns
  have others (q : Pos) (out : q ∉ ps) : seat (Machine.releaseAll v ps r).1.toBlocks q = seat r.1.toBlocks q := missed q out
  have own (q : Pos) (mem : q ∈ ps) : seat (Machine.releaseAll v ps r).1.toBlocks q = (seat r.1.toBlocks q).released v q := by
    obtain ⟨l₁, l₂, -, before, after⟩ := turns q mem nodup
    exact after.trans ((forceRelease_seat q _ v).trans (congrArg (Seat.released v q) before))
  refine ⟨⟨fun q => ?_, fun q t at' => ?_⟩, others, fun q mem => ?_⟩
  · by_cases mem : q ∈ ps
    · obtain ⟨unmarked, current⟩ := holds q mem
      rw [own q mem]
      exact P.released (h.loose P unmarked) current (h.law q)
    · rw [others q mem]
      exact h.law q
  · by_cases mem : q ∈ ps
    · rw [own q mem] at at'
      cases at'
      rfl
    · rw [others q mem] at at'
      exact h.forced q t at'
  · rw [own q mem]
    exact Bool.or_true _

/-- What counts after some releases counted before them. -/
theorem Releasing.counts_releaseAll {v : View} {ps : List Pos} (nodup : ps.Nodup) {r : Work × Nat}
    (h : Releasing S allowed b m r.1.toBlocks)
    (holds : ∀ p ∈ ps, (seat r.1.toBlocks p).context.mark = false ∧ (seat r.1.toBlocks p).context.antenna ≠ none) {q : Pos} {a : Ant}
    (c : Seats.counts (seat (Machine.releaseAll v ps r).1.toBlocks q).context a = true) :
    q ∉ ps ∧ Seats.counts (seat r.1.toBlocks q).context a = true := by
  obtain ⟨after, missed, marked⟩ := h.releaseAll P (v := v) nodup holds
  have out : q ∉ ps := fun mem => (nomatch (marked q mem).symm.trans ((after.counts P).1 c).2)
  rw [missed q out] at c
  exact ⟨out, c⟩

/-! ### Step C -/

omit P in
/-- The places of a position among the holders are its own. -/
theorem count_holders (w : Blocks) (p : Pos) (a : Ant) : (w.routes.antennas.get a).holders.count p = (seat w p).holding a := by
  change List.count p (((w.routes.antennas.get a).occupants.filter _).map Occupant.pos) = List.count _ _
  induction (w.routes.antennas.get a).occupants with
  | nil => rfl
  | cons o l ih =>
    obtain ⟨q, role⟩ := o
    cases role <;> simp [List.count_cons, ih]

omit P in
/-- The places of a position among the reservations are its own. -/
theorem count_reservations (w : Blocks) (p : Pos) (a : Ant) :
    (w.routes.antennas.get a).reservations.count p = (seat w p).reserving a := by
  change List.count p (((w.routes.antennas.get a).occupants.filter _).map Occupant.pos) = List.count _ _
  induction (w.routes.antennas.get a).occupants with
  | nil => rfl
  | cons o l ih =>
    obtain ⟨q, role⟩ := o
    cases role <;> simp [List.count_cons, ih]

omit P in
theorem placed_holding {w : Blocks} {e : Pos → Prop} (placed : ∀ p, Placed allowed b m p (e p) (seat w p)) (p : Pos) (a : Ant) :
    (seat w p).holding a = if (seat w p).context.antenna = some a then 1 else 0 := by
  cases at' : (seat w p).context.transition with
  | none => exact ((placed p).2.still at').holding a
  | some t => exact ((placed p).2.moving t at').holding a

omit P in
/-- The holders are the positions with the antenna as their own, each once. -/
theorem placed_holders {w : Blocks} {e : Pos → Prop} (placed : ∀ p, Placed allowed b m p (e p) (seat w p)) (a : Ant) :
    (w.routes.antennas.get a).holders.Nodup ∧
    ∀ p, p ∈ (w.routes.antennas.get a).holders ↔ (seat w p).context.antenna = some a := by
  refine ⟨List.nodup_iff_count_le_one.2 fun p => ?_, fun p => ?_⟩
  · rw [count_holders, placed_holding placed]
    split <;> omega
  · rw [← List.count_pos_iff, count_holders, placed_holding placed]
    split <;> simp_all

omit P in
theorem mem_unmarked {w : Blocks} (placed : ∀ p, Placed allowed b m p False (seat w p)) (a : Ant) :
    (((w.routes.antennas.get a).holders.filter fun p => !(w.routes.contexts.get p).mark)).Nodup ∧
    ∀ p, p ∈ ((w.routes.antennas.get a).holders.filter fun p => !(w.routes.contexts.get p).mark) ↔
      (seat w p).context.antenna = some a ∧ (seat w p).context.mark = false := by
  obtain ⟨nodup, mem⟩ := placed_holders placed a
  exact ⟨nodup.filter _, fun p => by rw [List.mem_filter, mem, Bool.not_eq_true']; rfl⟩

theorem trimmed_holds {w : Blocks} (h : Releasing S allowed b m w) (a : Ant) : (trimmed b w a).Nodup ∧
    ∀ p ∈ trimmed b w a, (seat w p).context.mark = false ∧ (seat w p).context.antenna ≠ none := by
  obtain ⟨nodup, mem⟩ := mem_unmarked (fun p => P.placed (h.law p)) a
  refine ⟨List.nodup_reverse.2 (nodup.sublist (List.drop_sublist _ _)), fun p hp => ?_⟩
  obtain ⟨current, unmarked⟩ := (mem p).1 (List.mem_of_mem_drop (List.mem_reverse.1 hp))
  exact ⟨unmarked, by rw [current]; exact nofun⟩

omit P in
theorem holderLimit_eq (e : AntennaEntry) : holderLimit e = antennaLimit e := by
  unfold holderLimit antennaLimit
  cases e.share <;> rfl

/-- The trim of one antenna keeps it to its limit (R162). -/
theorem bound_trimmed {v : View} {r : Work × Nat} (h : Releasing S allowed v.bank m r.1.toBlocks) (a : Ant) :
    (positions.filter fun q => counts (seat (releaseAll v (trimmed v.bank r.1.toBlocks a) r).1.toBlocks q).context a).length ≤
      antennaLimit (v.bank.antennas.get a) := by
  obtain ⟨nodup, holds⟩ := trimmed_holds P h a
  obtain ⟨-, mem⟩ := mem_unmarked (fun p => P.placed (h.law p)) a
  rw [← holderLimit_eq]
  refine le_trans ?_ (List.length_take_le (holderLimit (v.bank.antennas.get a))
    ((r.1.routes.antennas.get a).holders.filter fun p => !(r.1.routes.contexts.get p).mark))
  refine (List.subperm_of_subset ((List.nodup_finRange 6).filter _) fun q hq => ?_).length_le
  obtain ⟨out, before⟩ := h.counts_releaseAll P nodup holds (List.mem_filter.1 hq).2
  have there := (mem q).2 ((h.counts P).1 before)
  rw [← List.take_append_drop (holderLimit (v.bank.antennas.get a)) (List.filter _ _), List.mem_append] at there
  exact there.resolve_right fun late => out (List.mem_reverse.2 late)

theorem releasing_trims {v : View} (l : List Ant) {r : Work × Nat} (h : Releasing S allowed v.bank m r.1.toBlocks) :
    let r' := l.foldl (fun r a => releaseAll v (trimmed v.bank r.1.toBlocks a) r) r
    Releasing S allowed v.bank m r'.1.toBlocks ∧
      (∀ q a, counts (seat r'.1.toBlocks q).context a = true → counts (seat r.1.toBlocks q).context a = true) ∧
      ∀ a ∈ l, (positions.filter fun q => counts (seat r'.1.toBlocks q).context a).length ≤ antennaLimit (v.bank.antennas.get a) := by
  induction l generalizing r with
  | nil => exact ⟨h, fun _ _ => id, nofun⟩
  | cons n l ih =>
    obtain ⟨nodup, holds⟩ := trimmed_holds P h n
    have bound := bound_trimmed P h n
    have less (q : Pos) (a : Ant) (c : counts (seat (releaseAll v (trimmed v.bank r.1.toBlocks n) r).1.toBlocks q).context a = true) :
        counts (seat r.1.toBlocks q).context a = true := (h.counts_releaseAll P nodup holds c).2
    obtain ⟨law, fewer, bounds⟩ := ih (h.releaseAll P (v := v) nodup holds).1
    refine ⟨law, fun q a c => less q a (fewer q a c), fun a mem => ?_⟩
    rcases List.mem_cons.1 mem with rfl | mem
    · exact (List.monotone_filter_right positions fun q => fewer q a).length_le.trans bound
    · exact bounds a mem

/-- The apply keeps the law and brings the incoming bank's bound (R160 to R163). -/
theorem ofSeats_applyPlaces {old : Bank} {v : View} {w : Work} (still : ∀ p t, (w.context p).transition = some t → t.phase = .wait)
    (h : ofSeats (S allowed) old v.mode nobody w.toBlocks) :
    ∃ allowed', Bounded v.bank allowed' ∧ ofSeats (S allowed') v.bank v.mode nobody (applyAtoD old v w).toBlocks := by
  have begun : Releasing S allowed v.bank v.mode (applyA old v (keptRequests w.toBlocks) w).toBlocks :=
    ⟨ofSeats_enable P.enabled (ofSeats_abandonAll (P.keeps allowed) h), allForced_enable (allForced_abandonAll still)⟩
  unfold applyAtoD
  generalize applyA old v (keptRequests w.toBlocks) w = w₁ at begun
  have invalid (p : Pos) (hp : p ∈ invalidRoutes v.bank w₁.toBlocks) :
      (seat w₁.toBlocks p).context.mark = false ∧ (seat w₁.toBlocks p).context.antenna ≠ none := by
    have on := (List.mem_filter.1 hp).2
    rw [Bool.and_eq_true, decide_eq_true_iff] at on
    have routed : (seat w₁.toBlocks p).context.state = .routed := on.1
    have placed := P.placed (begun.law p)
    cases at' : (seat w₁.toBlocks p).context.transition with
    | none => exact ⟨(placed.2.still at').mark, (placed.2.still at').state.2.1 routed⟩
    | some t =>
      have moving := (placed.2.moving t at').state.symm.trans routed
      split at moving <;> cases moving
  obtain ⟨afterB, -, -⟩ := begun.releaseAll P (v := v) ((List.nodup_finRange 6).filter _) (r := (w₁, 0)) invalid
  obtain ⟨afterC, -, bounds⟩ := releasing_trims P antennas afterB
  refine ⟨fun q a => counts (seat (applyC v (applyB v w₁)).1.toBlocks q).context a, fun a => bounds a (List.mem_finRange a), ?_⟩
  exact ofSeats_applyD (P.keeps _) P.reentered fun q => P.recount (afterC.law q) fun a c => c

end

end Sys2Proof.Proofs.Seats

/-!
SUPPORT. A law of the seats under a choice that the operations may renew: the room of each antenna (R45). Every operation of the events
keeps the places, the holds and their bound.
-/
namespace Sys2Proof.Proofs.Seats
open Sys2Proof Sys2Proof.Machine Sys2Proof.Proofs.Keeping Sys2Proof.Proofs.Following Sys2Proof.Proofs.Moving

/-- The law under some choice `g` that meets `C`. -/
def Chosen {G : Type} (C : Bank → G → Prop) (J : G → Law) : Law := fun b m e w => ∃ g, C b g ∧ J g b m e w

/-- The operations that need nothing of the other positions keep the law under the choice it stands by. -/
theorem own_of_chosen {G : Type} {C : Bank → G → Prop} {J : G → Law} {ok : Cause → Prop} (request : ok .request) (follow : ok .follow)
    (K : ∀ g, KeepsOwn (J g) ok) : KeepsOwn (Chosen C J) ok where
  request := request
  follow := follow
  slot := fun ⟨g, _, h⟩ at' => (K g).slot h at'
  frame := fun ⟨g, c, h⟩ classifier routes claims gate latches => ⟨g, c, (K g).frame h classifier routes claims gate latches⟩
  record same := fun ⟨g, c, h⟩ => ⟨g, c, (K g).record same h⟩
  classify x := fun ⟨g, c, h⟩ => ⟨g, c, (K g).classify x h⟩
  mode x := fun ⟨g, c, h⟩ => ⟨g, c, (K g).mode x h⟩
  pop history := fun ⟨g, c, h⟩ => ⟨g, c, (K g).pop history h⟩
  keyUp := fun ⟨g, c, h⟩ => ⟨g, c, (K g).keyUp h⟩
  tailEnd := fun ⟨g, c, h⟩ => ⟨g, c, (K g).tailEnd h⟩
  keyWaitEnd waiting := fun ⟨g, c, h⟩ => ⟨g, c, (K g).keyWaitEnd waiting h⟩
  retime x y at' wait := fun ⟨g, c, h⟩ => ⟨g, c, (K g).retime x y at' wait h⟩
  check at' make := fun ⟨g, c, h⟩ => ⟨g, c, (K g).check at' make h⟩
  latch at' passed ok := fun ⟨g, c, h⟩ => ⟨g, c, (K g).latch at' passed ok h⟩
  recause at' wait free ok := fun ⟨g, c, h⟩ => ⟨g, c, (K g).recause at' wait free ok h⟩
  abandon at' wait free := fun ⟨g, c, h⟩ => ⟨g, c, (K g).abandon at' wait free h⟩
  abandonHold at' wait free ok none := fun ⟨g, c, h⟩ => ⟨g, c, (K g).abandonHold at' wait free ok none h⟩
  abandonLatch at' wait free ok some := fun ⟨g, c, h⟩ => ⟨g, c, (K g).abandonLatch at' wait free ok some h⟩
  leaveToMake at' brk target := fun ⟨g, c, h⟩ => ⟨g, c, (K g).leaveToMake at' brk target h⟩
  leaveToEnd n x at' brk target := fun ⟨g, c, h⟩ => ⟨g, c, (K g).leaveToEnd n x at' brk target h⟩
  checksEnded nodup each := fun ⟨g, c, h⟩ => ⟨g, c, (K g).checksEnded nodup each h⟩
  latched coil k := fun ⟨g, c, h⟩ => ⟨g, c, (K g).latched coil k h⟩
  entry := fun ⟨g, c, h⟩ => ⟨g, c, (K g).entry h⟩
  resume := fun ⟨g, c, h⟩ => ⟨g, c, (K g).resume h⟩

/-- The contexts, the places and the holds agree, and no antenna counts more positions than its limit (R36, R39, R45). -/
def Places : Law := Chosen Bounded fun allowed => ofSeats (Placed allowed)

theorem appliesPlaces_placed : AppliesPlaces Placed where
  placed h := h
  recount := placed_recount
  keeps := keepsSeats_placed
  enabled := placed_enablement
  released {_ v _ _ _ x} loose current h := ⟨HeldOk.forced rfl (h.1.of_same rfl rfl rfl), Settled.released
    (x := { x with key := keptOff v.bank .commit x.key }) { (h.2.still loose).toSettled with } current nofun h.2.slot⟩
  reentered h := ⟨h.1.of_same rfl rfl rfl, h.2⟩

/-- A seat that is empty, but for its state and its mode. -/
theorem placed_empty {allowed : Pos → Ant → Bool} {b : Bank} {m : StationMode} {p : Pos} {x : Seat}
    (slot : x.context.slot = none) (transition : x.context.transition = none) (antenna : x.context.antenna = none)
    (state : x.context.state = .idle ∨ (x.context.state = .disabled ∧ enabled b p = false)) (mark : x.context.mark = false)
    (held : x.held = 0) (reserved : x.reserved = []) (holding : ∀ a, x.holding a = 0) (reserving : ∀ a, x.reserving a = 0)
    (hold : ∀ a, x.hold a = false) : Placed allowed b m p False x := by
  have nowhere (a : Ant) : x.footing.antenna ≠ some a := fun at' => nomatch antenna.symm.trans at'
  refine ⟨heldOk_empty transition slot held, placesOk_still transition ?_ fun r hr => nomatch slot.symm.trans hr⟩
  refine ⟨⟨mark, reserved, fun a => (holding a).trans (if_neg (nowhere a)).symm, reserving, hold, fun a at' => absurd at' (nowhere a)⟩,
    ?_, fun off => ?_⟩
  · have unrouted : x.footing.state ≠ .routed ∧ x.footing.state ≠ .switching := by
      rcases state with idle | ⟨disabled, -⟩
      · rw [show x.footing.state = .idle from idle]
        exact ⟨nofun, nofun⟩
      · rw [show x.footing.state = .disabled from disabled]
        exact ⟨nofun, nofun⟩
    exact ⟨unrouted.2, fun routed => absurd routed unrouted.1, fun some => absurd antenna some⟩
  · rcases state with idle | ⟨-, off⟩
    · exact nomatch idle.symm.trans off
    · exact ⟨off, fun r hr => nomatch slot.symm.trans hr⟩

theorem bounded_nowhere (b : Bank) : Bounded b fun _ _ => false := fun a => by simp

theorem shared_places : KeepsShared Places unforced where
  keyDown accepts _ := fun ⟨allowed, bound, h⟩ => ⟨allowed, bound, (keyDown_cases accepts).elim
    (fun quiets => ofSeats_quiets (keepsSeats_placed allowed) quiets h)
    fun ⟨passed, rekeyed⟩ => ofSeats_granted (keepsStarts_placed allowed) passed rekeyed (fun _ _ _ _ => trivial) h⟩
  walkEntry := fun ⟨allowed, bound, h⟩ => ⟨allowed, bound, walkEntry_cases.elim
    (fun quiets => ofSeats_quiets (keepsSeats_placed allowed) quiets h)
    fun ⟨passed, rekeyed⟩ => ofSeats_granted (keepsStarts_placed allowed) passed rekeyed (fun _ _ _ _ => trivial) h⟩
  choose {v w p _ _} admitted loose c := fun ⟨_, bound, h⟩ => ⟨_, bounded_roomFor appliesPlaces_placed.toCountsPlaces p bound h,
    ofSeats_choose (keepsStarts_placed (roomFor v.bank w.toBlocks p)) admitted loose c (fun _ => roomFor_open)
      (ofSeats_roomFor appliesPlaces_placed.toCountsPlaces p h)⟩
  heldEntry {v _ w p} := fun ⟨_, bound, h⟩ => ⟨_, bounded_roomFor appliesPlaces_placed.toCountsPlaces p bound h,
    ofSeats_heldEntry (keepsStarts_placed (roomFor v.bank w.toBlocks p)) (fun _ => roomFor_open)
      (ofSeats_roomFor appliesPlaces_placed.toCountsPlaces p h)⟩
  startLatched {v _ w p} ended := fun ⟨_, bound, h⟩ => ⟨_, bounded_roomFor appliesPlaces_placed.toCountsPlaces p bound h,
    ofSeats_startLatched (keepsStarts_placed (roomFor v.bank w.toBlocks p)) ended (fun _ => roomFor_open)
      (ofSeats_roomFor appliesPlaces_placed.toCountsPlaces p h)⟩
  replace {v w p _ _ _ _} at' wait free c target other := fun ⟨_, bound, h⟩ =>
    ⟨_, bounded_roomFor appliesPlaces_placed.toCountsPlaces p bound h,
      ofSeats_replace (keepsStarts_placed (roomFor v.bank w.toBlocks p)) at' wait free c target other (fun _ => roomFor_open)
        (ofSeats_roomFor appliesPlaces_placed.toCountsPlaces p h)⟩
  beginBreak at' wait q old := fun ⟨allowed, bound, h⟩ => ⟨allowed, bound,
    ofSeats_beginBreak (keepsStarts_placed allowed) at' wait q old (fun _ _ _ => trivial) h⟩
  beginMake at' wait q old target := fun ⟨allowed, bound, h⟩ => ⟨allowed, bound,
    ofSeats_beginMake (keepsStarts_placed allowed) at' wait q old target (fun _ _ _ => trivial) h⟩
  reset current := ⟨fun _ _ => false, bounded_nowhere _, fun p => by
    rw [reset_seat]
    exact placed_empty rfl rfl rfl (.inl rfl) rfl rfl rfl (fun _ => rfl) (fun _ => rfl) fun _ => rfl⟩
  apply still := fun ⟨_, _, h⟩ => ofSeats_applyPlaces appliesPlaces_placed still h

theorem keeps_places : Keeps Places unforced where
  toKeepsOwn := own_of_chosen rfl rfl fun allowed => own_of_seats (keepsSeats_placed allowed)
  toKeepsShared := shared_places

end Sys2Proof.Proofs.Seats

/-!
SUPPORT. The law of the places says what the contexts and the antenna records of a state say to each other (R36, R39, R45).
-/
namespace Sys2Proof.Proofs.Seats
open Sys2Proof Sys2Proof.Machine Sys2Proof.Proofs.Keeping Sys2Proof.Proofs.Following Sys2Proof.Proofs.Moving

section
variable {allowed : Ant → Bool} {s : State} {p : Pos}

/-! ### From the law to the state -/

theorem contextConsistent_of_still (h : Still (enabled s.bank p = false) allowed False (seat s.blocks p).footing)
    (loose : (s.context p).transition = none) (free : ∀ r ∈ (s.context p).slot, r.cause.forced = false) : contextConsistent s p := by
  obtain ⟨unmoved, routed⟩ := h.state
  have unmoved : (s.context p).state ≠ .switching := unmoved
  have routed : (s.context p).state = .routed ↔ (s.context p).antenna ≠ none := routed
  have nowhere (other : (s.context p).state ≠ .routed) : (s.context p).antenna = none := by
    by_contra current
    exact other (routed.2 current)
  refine ⟨fun rests => ⟨nowhere ?_, loose⟩, fun off => ?_, fun moves => absurd moves unmoved, fun on => ⟨routed.1 on, loose⟩,
    fun faulted => ⟨fun _ => nowhere (by rw [faulted]; exact nofun), fun t at' => (nomatch loose.symm.trans at')⟩, ?_,
    fun _ => h.reserved, free, fun t at' => (nomatch loose.symm.trans at')⟩
  · rcases rests with state | state <;> rw [state] <;> exact nofun
  · obtain ⟨off, latched⟩ := h.disabled off
    refine ⟨off, Option.eq_none_iff_forall_ne_some.2 fun r hr => (latched r hr).1⟩
  · have unmarked : (s.context p).mark = false := h.mark
    rw [unmarked, loose]
    exact ⟨nofun, fun ⟨_, at', _⟩ => nomatch at'⟩

theorem contextConsistent_of_moving {t : Transition} (h : Moving allowed (seat s.blocks p).footing t)
    (at' : (s.context p).transition = some t) (free : ∀ r ∈ (s.context p).slot, r.cause.forced = false) : contextConsistent s p := by
  have state : (s.context p).state = if t.cause = .fault then .faulted else .switching := h.state
  have cases_of : ((s.context p).state = .faulted ∧ t.cause = .fault) ∨ ((s.context p).state = .switching ∧ t.cause ≠ .fault) := by
    split at state
    · exact .inl ⟨state, by assumption⟩
    · exact .inr ⟨state, by assumption⟩
  have marked : (s.context p).mark = t.cause.forced := h.mark
  have none_of {st : RouteState} (is : (s.context p).state = st) (a : st ≠ .faulted) (b : st ≠ .switching) : False :=
    cases_of.elim (fun c => a (is.symm.trans c.1)) fun c => b (is.symm.trans c.1)
  refine ⟨fun rests => ?_, fun off => (none_of off nofun nofun).elim, fun moves => ⟨t, at', ?_⟩,
    fun on => (none_of on nofun nofun).elim, fun faulted => ⟨fun loose => (nomatch at'.symm.trans loose), fun u hu => ?_⟩, ?_,
    fun loose => (nomatch at'.symm.trans loose), free, fun u hu => ?_⟩
  · exact (rests.elim (fun off => none_of off nofun nofun) fun idle => none_of idle nofun nofun).elim
  · exact cases_of.elim (fun c => nomatch moves.symm.trans c.1) And.right
  · cases at'.symm.trans hu
    exact cases_of.elim And.right fun c => nomatch faulted.symm.trans c.1
  · rw [marked, at']
    exact ⟨fun forced => ⟨t, rfl, forced⟩, fun ⟨u, hu, forced⟩ => by cases hu; exact forced⟩
  · cases at'.symm.trans hu
    exact ⟨h.forced, h.apart, h.start, h.started.1, h.started.2, h.untargeted, h.leaving, h.breaking, h.entering⟩

theorem PlacesOk.contextConsistent (h : PlacesOk (enabled s.bank p = false) allowed False (seat s.blocks p).footing) :
    contextConsistent s p := by
  cases at' : (s.context p).transition with
  | none => exact contextConsistent_of_still (h.still at') at' h.slot
  | some t => exact contextConsistent_of_moving (h.moving t at') at' h.slot

end

section
variable {allowed : Pos → Ant → Bool} {b : Bank} {m : StationMode} {e : Pos → Prop} {w : Blocks}
  (placed : ∀ p, Placed allowed b m p (e p) (seat w p))
include placed

theorem placed_reservations (a : Ant) : (w.routes.antennas.get a).reservations.Nodup ∧
    ∀ p, p ∈ (w.routes.antennas.get a).reservations ↔ ∃ t, (seat w p).context.transition = some t ∧ Reserves t a := by
  have reserving (p : Pos) : ((∃ t, (seat w p).context.transition = some t ∧ Reserves t a) ∧ (seat w p).reserving a = 1) ∨
      ((¬ ∃ t, (seat w p).context.transition = some t ∧ Reserves t a) ∧ (seat w p).reserving a = 0) := by
    cases at' : (seat w p).context.transition with
    | none => exact .inr ⟨fun ⟨_, h, _⟩ => (nomatch h), ((placed p).2.still at').reserving a⟩
    | some t =>
      obtain ⟨on, off⟩ := ((placed p).2.moving t at').reserving a
      by_cases reserves : Reserves t a
      · exact .inl ⟨⟨t, rfl, reserves⟩, on reserves⟩
      · exact .inr ⟨fun ⟨_, h, r⟩ => reserves (Option.some.inj h ▸ r), off reserves⟩
  refine ⟨List.nodup_iff_count_le_one.2 fun p => ?_, fun p => ?_⟩
  · rw [count_reservations]
    rcases reserving p with ⟨-, one⟩ | ⟨-, zero⟩ <;> omega
  · rw [← List.count_pos_iff, count_reservations]
    rcases reserving p with ⟨on, one⟩ | ⟨off, zero⟩
    · exact ⟨fun _ => on, fun _ => by omega⟩
    · exact ⟨fun _ => by omega, fun on => absurd on off⟩

theorem placed_hold (p : Pos) (a : Ant) : (w.routes.antennas.get a).holds.get p = true ↔
    ∃ t, (seat w p).context.transition = some t ∧ (t.old = some a ∨ t.target = some a) := by
  cases at' : (seat w p).context.transition with
  | none =>
    have free : (w.routes.antennas.get a).holds.get p = false := ((placed p).2.still at').hold a
    rw [free]
    exact ⟨nofun, fun ⟨_, h, _⟩ => (nomatch h)⟩
  | some t =>
    refine (((placed p).2.moving t at').hold a).trans ⟨fun on => ⟨t, rfl, on⟩, fun ⟨_, h, on⟩ => ?_⟩
    cases h
    exact on

end

/-- The places of an antenna that count are those of the positions that count there (R45). -/
theorem placed_length {allowed : Pos → Ant → Bool} {b : Bank} {m : StationMode} {e : Pos → Prop} {w : Blocks}
    (placed : ∀ p, Placed allowed b m p (e p) (seat w p)) (a : Ant) :
    (positions.filter fun p => counts (w.routes.contexts.get p) a).length =
      ((w.routes.antennas.get a).holders.filter fun p => !(w.routes.contexts.get p).mark).length +
        (w.routes.antennas.get a).reservations.length := by
  obtain ⟨nodup, holders⟩ := placed_holders placed a
  obtain ⟨once, reservations⟩ := placed_reservations placed a
  rw [← List.length_append]
  refine List.Perm.length_eq ((List.perm_ext_iff_of_nodup ((List.nodup_finRange 6).filter _) ?_).2 fun p => ?_)
  · refine List.nodup_append.2 ⟨nodup.filter _, once, fun p hp q hq same => ?_⟩
    obtain ⟨t, at', reserves⟩ := (reservations q).1 hq
    have current : (seat w q).context.antenna = some a := (holders q).1 (same ▸ (List.mem_filter.1 hp).1)
    have moving := (placed q).2.moving t at'
    exact moving.apart ((moving.leaving reserves.2).symm.trans (current.trans reserves.1.symm))
  · rw [List.mem_filter, List.mem_append, List.mem_filter, holders, reservations, counts_iff, Bool.not_eq_true']
    exact and_iff_right (List.mem_finRange p)

theorem places_consistent {s : State} {m : StationMode} (h : Places s.bank m nobody s.blocks) :
    heldConsistent s ∧ placesConsistent s := by
  obtain ⟨allowed, bound, placed⟩ := h
  refine ⟨(lists_iff s m).1 fun p => (placed p).1, fun p => (placed p).2.contextConsistent, fun a => ?_⟩
  obtain ⟨nodup, holders⟩ := placed_holders placed a
  obtain ⟨once, reservations⟩ := placed_reservations placed a
  have occupants : (s.antenna a).occupants.Nodup := by
    refine List.nodup_iff_count_le_one.2 fun ⟨p, role⟩ => ?_
    cases role with
    | holding =>
      have one := List.nodup_iff_count_le_one.1 nodup p
      rw [count_holders] at one
      exact one
    | reserving =>
      have one := List.nodup_iff_count_le_one.1 once p
      rw [count_reservations] at one
      exact one
  refine ⟨occupants, fun p => ⟨holders p, reservations p, placed_hold placed p a⟩, ?_⟩
  exact placed_length placed a ▸ bounded_now appliesPlaces_placed.toCountsPlaces bound placed a

end Sys2Proof.Proofs.Seats

/-!
SUPPORT. The contexts and the antenna records of a state, in agreement, hold to the law of the places.
-/
namespace Sys2Proof.Proofs.Seats
open Sys2Proof Sys2Proof.Machine Sys2Proof.Proofs.Keeping Sys2Proof.Proofs.Following Sys2Proof.Proofs.Moving

section
variable {s : State}

/-- The places of a position count each once, where its context says. -/
theorem places_of_consistent {p : Pos} {a : Ant} (nodup : (s.antenna a).occupants.Nodup)
    (holders : p ∈ (s.antenna a).holders ↔ (s.context p).antenna = some a)
    (reservations : p ∈ (s.antenna a).reservations ↔ ∃ t ∈ (s.context p).transition,
      t.target = some a ∧ (t.phase = .wait ∨ t.phase = .brk)) :
    (seat s.blocks p).holding a = (if (s.context p).antenna = some a then 1 else 0) ∧
      ((∃ t, (s.context p).transition = some t ∧ Reserves t a) → (seat s.blocks p).reserving a = 1) ∧
      (¬ (∃ t, (s.context p).transition = some t ∧ Reserves t a) → (seat s.blocks p).reserving a = 0) := by
  have holding_le : (seat s.blocks p).holding a ≤ 1 := List.nodup_iff_count_le_one.1 nodup _
  have reserving_le : (seat s.blocks p).reserving a ≤ 1 := List.nodup_iff_count_le_one.1 nodup _
  have held : 0 < (seat s.blocks p).holding a ↔ (s.context p).antenna = some a := by
    rw [← count_holders, List.count_pos_iff]
    exact holders
  have reserved : 0 < (seat s.blocks p).reserving a ↔ ∃ t, (s.context p).transition = some t ∧ Reserves t a := by
    rw [← count_reservations, List.count_pos_iff]
    exact reservations
  refine ⟨?_, fun on => ?_, fun off => ?_⟩
  · split
    · rename_i current
      have := held.2 current
      omega
    · rename_i other
      have := mt held.1 other
      omega
  · have := reserved.2 on
    omega
  · have := mt reserved.1 off
    omega

theorem placesOk_of_consistent (h : placesConsistent s) (p : Pos) : PlacesOk (enabled s.bank p = false)
    (counts (s.context p)) False (seat s.blocks p).footing := by
  obtain ⟨contexts, antennas⟩ := h
  obtain ⟨resting, disabled, switching, routed, faulted, marked, unreserved, free, moves⟩ := contexts p
  have place (a : Ant) := places_of_consistent (antennas a).1 ((antennas a).2.1 p).1 ((antennas a).2.1 p).2.1
  have hold (a : Ant) : (seat s.blocks p).hold a = true ↔ ∃ t ∈ (s.context p).transition, t.old = some a ∨ t.target = some a :=
    ((antennas a).2.1 p).2.2
  refine ⟨free, fun loose => ?_, fun t at' => ?_⟩
  · have loose : (s.context p).transition = none := loose
    have still : ¬ ∃ t ∈ (s.context p).transition, t.cause.forced = true := fun ⟨t, h, _⟩ => nomatch loose.symm.trans h
    have unmarked : (s.context p).mark = false := Bool.eq_false_iff.2 (mt marked.1 still)
    refine ⟨⟨unmarked, unreserved loose, fun a => (place a).1, fun a => (place a).2.2 fun ⟨t, h, _⟩ => (nomatch loose.symm.trans h),
      fun a => ?_, fun a current => (counts_iff ..).2 (.inl ⟨current, unmarked⟩)⟩, ⟨fun moving => ?_, ?_⟩, fun off => ?_⟩
    · exact Bool.eq_false_iff.2 (mt (hold a).1 fun ⟨t, h, _⟩ => nomatch loose.symm.trans h)
    · obtain ⟨t, h, -⟩ := switching moving
      exact nomatch loose.symm.trans h
    · refine ⟨fun on => (routed on).1, fun current => ?_⟩
      cases state : (s.context p).state with
      | disabled => exact absurd (resting (.inl state)).1 current
      | idle => exact absurd (resting (.inr state)).1 current
      | switching =>
        obtain ⟨t, h, -⟩ := switching state
        exact nomatch loose.symm.trans h
      | routed => exact state
      | faulted => exact absurd ((faulted state).1 loose) current
    · obtain ⟨off, empty⟩ := disabled off
      exact ⟨off, fun r hr => nomatch empty.symm.trans hr⟩
  · have at' : (s.context p).transition = some t := at'
    obtain ⟨forced, apart, start, alive, unmoved, untargeted, leaving, breaking, entering⟩ := moves t at'
    have one {q : Transition → Prop} : (∃ u, (s.context p).transition = some u ∧ q u) ↔ q t :=
      ⟨fun ⟨u, hu, on⟩ => Option.some.inj (at'.symm.trans hu) ▸ on, fun on => ⟨t, at', on⟩⟩
    have mark : (s.context p).mark = t.cause.forced := Bool.eq_iff_iff.2 (marked.trans one)
    refine ⟨?_, mark, forced, apart, start, ⟨alive, unmoved⟩, untargeted, leaving, breaking, entering, fun a => (place a).1,
      fun a => ⟨fun on => (place a).2.1 (one.2 on), fun off => (place a).2.2 (mt one.1 off)⟩, fun a => (hold a).trans one,
      fun a on => (counts_iff ..).2 ?_⟩
    · change (s.context p).state = _
      cases state : (s.context p).state with
      | disabled => exact nomatch (resting (.inl state)).2.symm.trans at'
      | idle => exact nomatch (resting (.inr state)).2.symm.trans at'
      | switching =>
        obtain ⟨u, hu, other⟩ := switching state
        cases at'.symm.trans hu
        exact (if_neg other).symm
      | routed => exact nomatch (routed state).2.symm.trans at'
      | faulted => exact (if_pos ((faulted state).2 t at')).symm
    · rcases on with reserves | ⟨current, unforced⟩
      · exact .inr ⟨t, at', reserves⟩
      · exact .inl ⟨current, mark.trans unforced⟩

theorem places_of_state {m : StationMode} (held : heldConsistent s) (h : placesConsistent s) :
    Places s.bank m nobody s.blocks := by
  have placed (p : Pos) : Placed (fun p => counts (s.context p)) s.bank m p False (seat s.blocks p) :=
    ⟨(lists_iff s m).2 held p, placesOk_of_consistent h p⟩
  refine ⟨fun p => counts (s.context p), fun a => ?_, placed⟩
  obtain ⟨-, -, bound⟩ := h.2 a
  exact (placed_length (e := nobody) placed a).trans_le bound

end

end Sys2Proof.Proofs.Seats

/-!
SUPPORT. Every command keeps the contexts and the antenna records in agreement, and their bound (R36, R39, R45, R52): O58.
-/
namespace Sys2Proof.Proofs.Seats
open Sys2Proof Sys2Proof.Machine Sys2Proof.Proofs.Keeping Sys2Proof.Proofs.Following Sys2Proof.Proofs.Moving

/-- Load completion finds nothing left of any route: the station was not NORMAL (R64, R169). -/
theorem placed_loaded {s : State} {b : Bank} {m : StationMode} {p : Pos} {k : KeyRecord} {y : Bool} {allowed : Pos → Ant → Bool}
    (quiet : quietUnlessNormal s) (off : s.station.mode ≠ .normal) (places : placesConsistent s) :
    Placed allowed b m p False ((seat s.blocks p).loaded b p k y) := by
  obtain ⟨each, antennas, held⟩ := quiet.2 off
  obtain ⟨-, slot, transition, antenna, -, claims⟩ := each p
  have settled := ((placesOk_of_consistent places p).still transition).toSettled
  have empty (o : Occupant) (a : Ant) : (s.blocks.routes.antennas.get a).occupants.count o = 0 := by
    rw [show (s.blocks.routes.antennas.get a).occupants = [] from antennas a]
    rfl
  have rest : restState b p = .idle ∨ (restState b p = .disabled ∧ enabled b p = false) := by
    unfold restState
    split
    · exact .inl rfl
    · rename_i disabled
      exact .inr ⟨rfl, Bool.eq_false_iff.2 disabled⟩
  have unheld : s.blocks.routes.held.count p = 0 := by
    rw [show s.blocks.routes.held = [] from held]
    rfl
  exact placed_empty slot transition antenna rest settled.mark unheld settled.reserved (fun a => empty _ a) (fun a => empty _ a)
    settled.hold

/-- Every command keeps the contexts and the antenna records in agreement, once the slots are. -/
theorem step_keeps_placesConsistent {s t : State} (quiet : quietUnlessNormal s) (held : heldConsistent s) (places : placesConsistent s)
    (run : step s = .next t) : placesConsistent t := by
  have stands : Stands Places (fun _ => True) s := ⟨fun _ => trivial, places_of_state held places⟩
  have loads (rest : List Instr) : Stands Places (fun _ => True) ({ s with pending := rest } : State).loadCompletion := by
    refine stands_loadCompletion keepsPort_any (stands.same rfl rfl rfl rfl) fun starts v st measured valid _ =>
      ⟨fun _ _ => false, bounded_nowhere _, fun p => ?_⟩
    obtain ⟨k, loaded, -⟩ := loadBlocks_seat v st measured s.pins.keys valid (Work.start s.blocks) p
    have off : s.station.mode ≠ .normal := fun normal => nomatch (starts : s.station.mode = .starting).symm.trans normal
    rw [loaded]
    exact placed_loaded quiet off places
  obtain ⟨-, kept⟩ := step_keeps keepsPort_any keeps_places (fun _ h => h) stands loads run
  exact (places_consistent kept).2

end Sys2Proof.Proofs.Seats

namespace Sys2Proof.Proofs.Places
open Sys2Proof Sys2Proof.Machine Sys2Proof.Proofs.Seats

/-- Settles O58: what selection opens to a request keeps to the bound (`bounded_roomFor`), and an apply trims each antenna to its
limit under the incoming bank (`ofSeats_applyPlaces`); every other operation moves the seat of one position. -/
theorem stepKeepsHeldConsistent : Obligations.StepKeepsHeldConsistent := fun _ _ run =>
  ⟨fun held => step_keeps_heldConsistent held run, fun quiet held places => step_keeps_placesConsistent quiet held places run⟩

end Sys2Proof.Proofs.Places

/-!
SUPPORT. What is on the air is still and whole, seat by seat, under a record of the antennas on the air (R90, R116, R132): the
operations on one position keep it.
-/
namespace Sys2Proof.Proofs.Seats
open Sys2Proof Sys2Proof.Machine Sys2Proof.Proofs.Keeping Sys2Proof.Proofs.Following Sys2Proof.Proofs.Moving

/-- A seat under the record `air` of the antennas on the air, each with the position that is live over it. A live position has its
antenna on the air for itself; a transition past its WAIT has none of its antennas on the air; and no latched coil is under a
ROUTED position. -/
structure AirOk (air : Ant → Option Pos) (m : StationMode) (p : Pos) (x : Seat) : Prop where
  steady : Steady x.key
  on : x.key.state = .on → m = .normal
  sound : x.context.state = .routed → x.latched = false
  live : isLive x.key = true → ∀ a, x.context.antenna = some a → air a = some p
  quiet : ∀ t, x.context.transition = some t → t.phase ≠ .wait →
    isLive x.key = false ∧ ∀ a, t.old = some a ∨ t.target = some a → air a = none

section
variable {air : Ant → Option Pos} {m : StationMode} {p : Pos} {x y : Seat} {t t' : Transition}

/-- A seat that comes of another with no grant, on no other antenna while it is live, and in no transition past its WAIT but on the
antennas of one. -/
theorem AirOk.goes (h : AirOk air m p x) (key : Quiets x.key y.key) (sound : y.context.state = .routed → y.latched = false)
    (antenna : isLive x.key = true → ∀ a, y.context.antenna = some a → x.context.antenna = some a)
    (moved : ∀ t', y.context.transition = some t' → t'.phase ≠ .wait →
      ∃ t, x.context.transition = some t ∧ t.phase ≠ .wait ∧ t'.old = t.old ∧ t'.target = t.target) : AirOk air m p y where
  steady := key.steady h.steady
  on on := h.on (key.on on)
  sound := sound
  live live a current := h.live (key.live h.steady live) a (antenna (key.live h.steady live) a current)
  quiet t' at' passed := by
    obtain ⟨t, before, past, old, target⟩ := moved t' at' passed
    obtain ⟨dead, calm⟩ := h.quiet t before past
    refine ⟨Bool.eq_false_iff.2 fun live => ?_, by rw [old, target]; exact calm⟩
    exact nomatch dead.symm.trans (key.live h.steady live)

/-- The seat stays where it is. -/
theorem AirOk.stays (h : AirOk air m p x) (key : Quiets x.key y.key) (state : y.context.state = x.context.state)
    (latched : y.context.state = .routed → x.latched = false → y.latched = false)
    (antenna : y.context.antenna = x.context.antenna) (transition : y.context.transition = x.context.transition) : AirOk air m p y :=
  h.goes key (fun routed => latched routed (h.sound (state ▸ routed))) (fun _ _ => antenna ▸ id)
    fun t' at' past => ⟨t', transition ▸ at', past, rfl, rfl⟩

/-- The seat comes into a transition in WAIT. -/
theorem AirOk.waits (h : AirOk air m p x) (key : Quiets x.key y.key) (unrouted : y.context.state ≠ .routed)
    (antenna : y.context.antenna = x.context.antenna) (at' : y.context.transition = some t') (wait : t'.phase = .wait) :
    AirOk air m p y :=
  h.goes key (fun routed => absurd routed unrouted) (fun _ _ => antenna ▸ id) fun u hu past => by
    cases at'.symm.trans hu
    exact absurd wait past

/-- The seat is left with no transition. -/
theorem AirOk.ends (h : AirOk air m p x) (key : Quiets x.key y.key) (sound : y.context.state = .routed → y.latched = false)
    (antenna : isLive x.key = true → ∀ a, y.context.antenna = some a → x.context.antenna = some a)
    (loose : y.context.transition = none) : AirOk air m p y :=
  h.goes key sound antenna fun _ at' => (nomatch loose.symm.trans at')

/-- A transition past its WAIT moves on. -/
theorem AirOk.moves (h : AirOk air m p x) (at' : x.context.transition = some t) (past : t.phase ≠ .wait)
    (key : y.key = x.key) (unrouted : y.context.state ≠ .routed) (now : y.context.transition = some t') (old : t'.old = t.old)
    (target : t'.target = t.target) : AirOk air m p y :=
  h.goes (key ▸ Quiets.refl _) (fun routed => absurd routed unrouted)
    (fun live => (nomatch (h.quiet t at' past).1.symm.trans live)) fun u hu _ => by
      cases now.symm.trans hu
      exact ⟨t, at', past, old, target⟩

theorem AirOk.started {v : View} {k : RequestKind} {c : Cause} {o : Option Ant} {st : RouteState} (h : AirOk air m p x)
    (unrouted : c = .fault → x.context.state ≠ .routed) : AirOk air m p (x.started v p k c o st) := by
  refine h.waits (t' := inWait v x.context.antenna o k c st) (quiets_keptOff v.bank .switching x.key).1 ?_ rfl rfl rfl
  change (if c = .fault then x.context.state else .switching) ≠ .routed
  split
  · rename_i fault
    exact unrouted fault
  · exact nofun

theorem AirOk.relatched (h : AirOk air m p x) : AirOk air m p x.relatched :=
  h.stays (by simpa using Quiets.refl x.key) (by simp) (by simp) (by simp) (by simp)

theorem AirOk.unheld (h : AirOk air m p x) : AirOk air m p x.unheld :=
  h.stays (by simpa using Quiets.refl x.key) (by simp) (by simp) (by simp) (by simp)

/-- A release that is forced (R58, R61). -/
theorem AirOk.released {v : View} {c : Cause} (h : AirOk air m p x) (unrouted : c = .fault → x.context.state ≠ .routed) :
    AirOk air m p (x.relatched.started v p .release c none .routed) :=
  h.relatched.started fun fault => by simpa using unrouted fault

theorem AirOk.withSlot {s : Option PendingRequest} {n : Nat} (h : AirOk air m p x) : AirOk air m p (x.withSlot s n) :=
  h.stays (Quiets.refl _) rfl (fun _ => id) rfl rfl

theorem AirOk.acted {v : View} {k : RequestKind} {c : Cause} (sel : Selection) (free : c.forced = false) (h : AirOk air m p x) :
    AirOk air m p (x.acted v p k c sel) := by
  cases sel with
  | refused r => exact h
  | held => exact h.withSlot
  | target o =>
    refine h.started fun fault => ?_
    rw [fault] at free
    cases free
  | current =>
    refine h.goes (Quiets.refl _) (fun routed => h.sound ?_) (fun _ _ => id) fun t' at' past => ⟨t', at', past, rfl, rfl⟩
    change (if k = .release ∧ x.context.state = .faulted then .idle else x.context.state) = .routed at routed
    split at routed
    · cases routed
    · exact routed

theorem AirOk.freed (h : AirOk air m p x) (sound : t.start = .routed → x.latched = false) : AirOk air m p (x.freed t) :=
  h.ends (Quiets.refl _) sound (fun _ _ => id) rfl

end

/-- The law of the air: of a seat on the air and of its antenna; `strict` says whether a position ON fits its band. -/
def Aired (strict : Prop) (air : Ant → Option Pos) : SeatLaw := fun b m p _ x => OnAirOk strict b x ∧ AirOk air m p x

theorem restState_unrouted (b : Bank) (p : Pos) : restState b p ≠ .routed := by
  unfold restState
  split <;> exact nofun

theorem past_of {t : Transition} {f : Phase} (at' : t.phase = f) (past : f ≠ .wait) : t.phase ≠ .wait := at' ▸ past

theorem keepsSeats_aired (strict : Prop) (air : Ant → Option Pos) : KeepsSeats (Aired strict air) unforced where
  request := rfl
  follow := rfl
  slot h at' := h.1.slot _ at'
  key {b m p e _ _} quiets h := ⟨(keepsSeats_onAir strict).key (b := b) (m := m) (p := p) (e := e) quiets h.1,
    h.2.stays quiets rfl (fun _ => id) rfl rfl⟩
  entry {b m p e _ _} fits h := ⟨(keepsSeats_onAir strict).entry (b := b) (m := m) (p := p) (e := e) fits h.1,
    h.2.stays (Quiets.refl _) rfl (fun _ => id) rfl rfl⟩
  cleared {b m p e _ _} still h := ⟨(keepsSeats_onAir strict).cleared (b := b) (m := m) (p := p) (e := e) still h.1,
    h.2.stays (Quiets.refl _) rfl (fun _ clear => Bool.eq_false_iff.2 fun on => nomatch clear.symm.trans (still on)) rfl rfl⟩
  latched {b m p _ _} apart h := ⟨(keepsSeats_onAir strict).latched (b := b) (m := m) (p := p) apart h.1,
    h.2.stays (Quiets.refl _) rfl (fun routed => absurd (h.1.still routed) (apart routed)) rfl rfl⟩
  fault {v b m p x y} routed loose h := ⟨(keepsSeats_onAir strict).fault (v := v) (b := b) (m := m) (p := p) routed loose h.1, by
    have off : AirOk air m p { x with
        context := { x.context with state := .faulted }, key := keptOff v.bank .fault x.key, latched := y } :=
      h.2.goes (quiets_keptOff v.bank .fault x.key).1 nofun (fun _ _ => id) fun t' at' past => ⟨t', at', past, rfl, rfl⟩
    exact off.released fun _ => nofun⟩
  settings {b m p _} y _ short h := ⟨(keepsSeats_onAir strict).settings (b := b) (m := m) (p := p) y short h.1,
    h.2.stays (Quiets.refl _) rfl (fun _ => id) rfl rfl⟩
  retime {b m p _ _} y z at' wait h := ⟨(keepsSeats_onAir strict).retime (b := b) (m := m) (p := p) y z at' wait h.1,
    h.2.waits (Quiets.refl _) (h.1.unrouted at') rfl rfl wait⟩
  check {b m p _ _} at' make h := ⟨(keepsSeats_onAir strict).check (b := b) (m := m) (p := p) at' make h.1,
    h.2.moves at' (past_of make nofun) rfl (h.1.unrouted at') rfl rfl rfl⟩
  recause {b m p _ _ _} at' wait free c h := ⟨(keepsSeats_onAir strict).recause (b := b) (m := m) (p := p) at' wait free c h.1,
    h.2.waits (Quiets.refl _) (h.1.unrouted at') rfl rfl wait⟩
  latch {b m p _ _ _ _} at' passed c h := ⟨(keepsSeats_onAir strict).latch (b := b) (m := m) (p := p) at' passed c h.1, h.2.withSlot⟩
  freed {b m p _ _} at' wait free sound h := ⟨(keepsSeats_onAir strict).freed (b := b) (m := m) (p := p) at' wait free sound h.1,
    h.2.freed sound⟩
  freedHeld {b m p _ _ _ _} at' wait free sound c h :=
    ⟨(keepsSeats_onAir strict).freedHeld (b := b) (m := m) (p := p) at' wait free sound c h.1, (h.2.freed sound).withSlot⟩
  freedFaulted {v b m p x t} at' wait free start h :=
    ⟨(keepsSeats_onAir strict).freedFaulted (v := v) (b := b) (m := m) (p := p) at' wait free start h.1, by
      have off : AirOk air m p { x.freed t with
          context := { (x.freed t).context with state := .faulted }, key := keptOff v.bank .fault (x.freed t).key } :=
        h.2.ends (quiets_keptOff v.bank .fault x.key).1 nofun (fun _ _ => id) rfl
      exact off.released fun _ => nofun⟩
  leaveToMake {b m p x t a} y at' brk target h := by
    obtain ⟨key, state, -⟩ := left_onAir t x
    exact ⟨(keepsSeats_onAir strict).leaveToMake (b := b) (m := m) (p := p) y at' brk target h.1,
      h.2.moves (t' := making b t) at' (past_of brk nofun) key (state.trans_ne (h.1.unrouted at')) rfl rfl rfl⟩
  leaveToEnd {b m p x t} at' brk target h := by
    obtain ⟨key, -⟩ := left_onAir t x
    refine ⟨(keepsSeats_onAir strict).leaveToEnd (b := b) (m := m) (p := p) at' brk target h.1, h.2.ends ?_ (fun routed => ?_) ?_ rfl⟩
    · exact key ▸ Quiets.refl _
    · change (if t.cause = .fault then .faulted else restState b p) = .routed at routed
      split at routed
      · cases routed
      · exact absurd routed (restState_unrouted b p)
    · exact fun live => (nomatch (h.2.quiet t at' (past_of brk nofun)).1.symm.trans live)
  checkPassed {b m p _ _} at' check sound h := ⟨(keepsSeats_onAir strict).checkPassed (b := b) (m := m) (p := p) at' check sound h.1,
    h.2.ends (Quiets.refl _) (fun _ => sound) (fun _ _ => id) rfl⟩
  checkFailed {b m p _ _} at' check h := ⟨(keepsSeats_onAir strict).checkFailed (b := b) (m := m) (p := p) at' check h.1,
    h.2.ends (Quiets.refl _) nofun (fun _ _ => nofun) rfl⟩
  closed {b m p x k} quiets off h := ⟨(keepsSeats_onAir strict).closed (b := b) (m := m) (p := p) quiets off h.1, by
    have closed := h.2.ends (y := x.closed b p k) quiets (fun _ => rfl) (fun _ _ => nofun) rfl
    exact { closed with on := fun on => absurd on off }⟩
  resume h := ⟨h.1, { h.2 with on := fun _ => rfl }⟩

theorem keepsStarts_aired (strict : Prop) (air : Ant → Option Pos) : KeepsStarts (Aired strict air) unforced
    (fun _ _ => True) (fun p a => air a = some p) fun a => air a = none where
  granted {b p x} routed fits clear h := ⟨(keepsStarts_onAir strict).granted (b := b) (p := p) routed fits (fun _ _ => trivial) h.1,
    ⟨⟨fun _ => rfl, fun _ => rfl⟩, fun _ => rfl, h.2.sound, fun _ => clear,
      fun t at' => (nomatch (h.1.still routed).symm.trans at')⟩⟩
  chosen {v _ _ _ _ sel} on loose c selects h := ⟨(keepsStarts_onAir strict).chosen (v := v) on loose c selects h.1,
    h.2.unheld.acted sel c⟩
  heldDropped {b m p e _} asks h := ⟨(keepsStarts_onAir strict).heldDropped (b := b) (m := m) (p := p) (e := e) asks h.1, h.2.withSlot⟩
  heldStarted {v m p e _ r _} slot held selects h :=
    ⟨(keepsStarts_onAir strict).heldStarted (v := v) (m := m) (p := p) (e := e) slot held selects h.1, h.2.withSlot.started fun fault => by
      have free := h.1.slot r slot
      rw [fault] at free
      cases free⟩
  latchedDropped {b m p _} h := ⟨(keepsStarts_onAir strict).latchedDropped (b := b) (m := m) (p := p) h.1, h.2.withSlot⟩
  latchedChosen {v p _ r sel} on slot selects h := ⟨(keepsStarts_onAir strict).latchedChosen (v := v) (p := p) on slot selects h.1,
    h.2.withSlot.acted sel (h.1.slot r slot)⟩
  replaced {v m p x t k c o} at' wait free ok other selects h :=
    ⟨(keepsStarts_onAir strict).replaced (v := v) (m := m) (p := p) at' wait free ok other selects h.1,
      h.2.waits (t' := replaced v t k c o) (Quiets.refl _) (h.1.unrouted at') rfl rfl wait⟩
  broken {b m p x t o} cs at' wait dead stills old h :=
    ⟨(keepsStarts_onAir strict).broken (b := b) (m := m) (p := p) cs at' wait dead (fun _ _ => trivial) old h.1,
      { h.2 with
        sound := fun routed => absurd routed (h.1.unrouted at')
        quiet := fun u hu _ => by
          cases hu
          exact ⟨dead, stills⟩ }⟩
  made {b m p x t a} y at' wait dead stills old target h :=
    ⟨(keepsStarts_onAir strict).made (b := b) (m := m) (p := p) y at' wait dead (fun _ _ => trivial) old target h.1,
      { h.2 with
        sound := fun routed => absurd routed (h.1.unrouted at')
        live := fun live => (nomatch dead.symm.trans live)
        quiet := fun u hu _ => by
          cases hu
          exact ⟨dead, stills⟩ }⟩

end Sys2Proof.Proofs.Seats

/-!
SUPPORT. The air over the antennas, with the places on them: the record of the antennas on the air follows the grants and the starts of
BREAK and MAKE, and every operation of the events keeps what is on the air still and whole (R90, R116, R132).
-/
namespace Sys2Proof.Proofs.Seats
open Sys2Proof Sys2Proof.Machine Sys2Proof.Proofs.Keeping Sys2Proof.Proofs.Following Sys2Proof.Proofs.Moving

/-- Two laws at once. -/
def Both (I J : Law) : Law := fun b m e w => I b m e w ∧ J b m e w

theorem own_of_both {I J : Law} {ok : Cause → Prop} (K : KeepsOwn I ok) (L : KeepsOwn J ok) : KeepsOwn (Both I J) ok where
  request := K.request
  follow := K.follow
  slot h at' := K.slot h.1 at'
  frame h classifier routes claims gate latches :=
    ⟨K.frame h.1 classifier routes claims gate latches, L.frame h.2 classifier routes claims gate latches⟩
  record same h := ⟨K.record same h.1, L.record same h.2⟩
  classify x h := ⟨K.classify x h.1, L.classify x h.2⟩
  mode x h := ⟨K.mode x h.1, L.mode x h.2⟩
  pop history h := ⟨K.pop history h.1, L.pop history h.2⟩
  keyUp h := ⟨K.keyUp h.1, L.keyUp h.2⟩
  tailEnd h := ⟨K.tailEnd h.1, L.tailEnd h.2⟩
  keyWaitEnd waiting h := ⟨K.keyWaitEnd waiting h.1, L.keyWaitEnd waiting h.2⟩
  retime x y at' wait h := ⟨K.retime x y at' wait h.1, L.retime x y at' wait h.2⟩
  check at' make h := ⟨K.check at' make h.1, L.check at' make h.2⟩
  latch at' passed c h := ⟨K.latch at' passed c h.1, L.latch at' passed c h.2⟩
  recause at' wait free c h := ⟨K.recause at' wait free c h.1, L.recause at' wait free c h.2⟩
  abandon at' wait free h := ⟨K.abandon at' wait free h.1, L.abandon at' wait free h.2⟩
  abandonHold at' wait free c none h := ⟨K.abandonHold at' wait free c none h.1, L.abandonHold at' wait free c none h.2⟩
  abandonLatch at' wait free c some h := ⟨K.abandonLatch at' wait free c some h.1, L.abandonLatch at' wait free c some h.2⟩
  leaveToMake at' brk target h := ⟨K.leaveToMake at' brk target h.1, L.leaveToMake at' brk target h.2⟩
  leaveToEnd n x at' brk target h := ⟨K.leaveToEnd n x at' brk target h.1, L.leaveToEnd n x at' brk target h.2⟩
  checksEnded nodup each h := ⟨K.checksEnded nodup each h.1, L.checksEnded nodup each h.2⟩
  latched c k h := ⟨K.latched c k h.1, L.latched c k h.2⟩
  entry h := ⟨K.entry h.1, L.entry h.2⟩
  resume h := ⟨K.resume h.1, L.resume h.2⟩

/-- What is on the air is still and whole under some record of the antennas on the air. -/
def Air : Law := Chosen (fun _ _ => True) fun air => ofSeats (Aired True air)

/-- The places and the air. -/
def Clear : Law := Both Places Air

/-! ### The record of the antennas on the air -/

/-- Another record does that names every live position over its antenna, and no antenna of a transition past its WAIT. -/
theorem aired_renewed {strict : Prop} {air air' : Ant → Option Pos} {b : Bank} {m : StationMode} {e : Pos → Prop} {w : Blocks}
    (live : ∀ q a, isLive (seat w q).key = true → (seat w q).context.antenna = some a → air a = some q → air' a = some q)
    (calm : ∀ q t a, (seat w q).context.transition = some t → t.phase ≠ .wait → t.old = some a ∨ t.target = some a →
      air a = none → air' a = none)
    (h : ofSeats (Aired strict air) b m e w) : ofSeats (Aired strict air') b m e w := fun q => by
  obtain ⟨onAir, ok⟩ := h q
  refine ⟨onAir, { ok with live := fun on a at' => live q a on at' (ok.live on a at'), quiet := fun t at' past => ?_ }⟩
  obtain ⟨dead, none⟩ := ok.quiet t at' past
  exact ⟨dead, fun a on => calm q t a at' past on (none a on)⟩

/-- The record at a grant: the antenna of the position goes on the air for it. -/
def granting (p : Pos) (o : Option Ant) (air : Ant → Option Pos) : Ant → Option Pos := fun a => if o = some a then some p else air a

/-- The record at the start of BREAK or MAKE: the antennas of the transition are off the air. -/
def quieting (t : Transition) (air : Ant → Option Pos) : Ant → Option Pos := fun a =>
  if t.old = some a ∨ t.target = some a then none else air a

section
variable {strict : Prop} {air : Ant → Option Pos} {b : Bank} {m : StationMode} {e : Pos → Prop} {w : Blocks} {p : Pos}

theorem holders_of_places (places : Places b m e w) (a : Ant) (q : Pos) :
    q ∈ (w.routes.antennas.get a).holders ↔ (seat w q).context.antenna = some a := by
  obtain ⟨_, -, placed⟩ := places
  exact (placed_holders placed a).2 q

theorem hold_of_places (places : Places b m e w) (a : Ant) (q : Pos) : (w.routes.antennas.get a).holds.get q = true ↔
    ∃ t, (seat w q).context.transition = some t ∧ (t.old = some a ∨ t.target = some a) := by
  obtain ⟨_, -, placed⟩ := places
  exact placed_hold placed q a

/-- A grant finds no other position live over its antenna, and no transition on it (R131). -/
theorem aired_granting (places : Places b m e w) (clear : ∀ a, (seat w p).context.antenna = some a →
      (w.routes.antennas.get a).holds = PosSet.empty ∧ liveHolder w p a = none)
    (h : ofSeats (Aired strict air) b m e w) :
    ofSeats (Aired strict (granting p (seat w p).context.antenna air)) b m e w := by
  refine aired_renewed (fun q a live at' _ => ?_) (fun q t a at' _ on none => ?_) h
  · unfold granting
    split
    · rename_i own
      obtain ⟨-, alone⟩ := clear a own
      rw [Option.some.injEq]
      by_contra other
      have found := List.find?_eq_none.1 alone q (List.mem_finRange q)
      have holder : isHolder w a q = true := List.contains_iff_mem.2 ((holders_of_places places a q).2 at')
      have live : Machine.live w q = true := live
      rw [holder, live, decide_eq_true (Ne.symm other)] at found
      exact found rfl
    · assumption
  · unfold granting
    split
    · rename_i own
      obtain ⟨empty, -⟩ := clear a own
      have held := (hold_of_places places a q).2 ⟨t, at', on⟩
      rw [empty] at held
      simp [PosSet.empty] at held
    · exact none

/-- The quiet condition finds no position live over the antennas of the transition (R70). -/
theorem aired_quieting {v : View} {t : Transition} (places : Places b m e w) (q : quiet v w p t = true)
    (h : ofSeats (Aired strict air) b m e w) : ofSeats (Aired strict (quieting t air)) b m e w := by
  obtain ⟨-, calm⟩ := quiet_finds q
  refine aired_renewed (fun q a live at' on => ?_) (fun _ _ a _ _ _ none => ?_) h
  · unfold quieting
    split
    · rename_i own
      have dead := List.all_eq_true.1 (calm a own) q ((holders_of_places places a q).2 at')
      have live : Machine.live w q = true := live
      rw [live] at dead
      cases dead
    · exact on
  · unfold quieting
    split
    · rfl
    · exact none

theorem quieting_none {t : Transition} {a : Ant} (on : t.old = some a ∨ t.target = some a) : quieting t air a = none := if_pos on

theorem granting_own {a : Ant} (at' : (seat w p).context.antenna = some a) :
    granting p (seat w p).context.antenna air a = some p := if_pos at'

end

/-! ### The apply -/

theorem airOk_enablement {air : Ant → Option Pos} {old b : Bank} {m : StationMode} {p : Pos} {x : Seat} (h : AirOk air m p x) :
    AirOk air m p (x.enablement old b p) := by
  have disabled : AirOk air m p (Seat.unheld { x with context := { x.context with state := .disabled } }) :=
    AirOk.unheld (h.goes (Quiets.refl _) nofun (fun _ _ => id) fun t at' past => ⟨t, at', past, rfl, rfl⟩)
  unfold Seat.enablement
  split
  · split
    · exact h
    · refine h.goes (Quiets.refl _) (fun routed => h.sound ?_) (fun _ _ => id) fun t at' past => ⟨t, at', past, rfl, rfl⟩
      change (if x.context.state = .disabled then .idle else x.context.state) = .routed at routed
      split at routed
      · cases routed
      · exact routed
  · split
    · exact disabled
    · split
      · exact disabled
      · rename_i t at'
        refine h.goes (Quiets.refl _) nofun (fun _ _ => id) fun t' now past => ⟨t, at', ?_⟩
        cases now
        exact ⟨past, rfl, rfl⟩
    all_goals exact h

theorem aired_apply {air : Ant → Option Pos} {old : Bank} {v : View} {w : Work}
    (h : ofSeats (Aired True air) old v.mode nobody w.toBlocks) :
    ofSeats (Aired True air) v.bank v.mode nobody (applyAtoD old v w).toBlocks := by
  have loose : ofSeats (Aired False air) old v.mode nobody w.toBlocks := fun p =>
    ⟨⟨fun on => ⟨((h p).1.on on).1, False.elim⟩, (h p).1.still, (h p).1.slot⟩, (h p).2⟩
  have applied : ofSeats (Aired False air) v.bank v.mode nobody (applyAtoD old v w).toBlocks :=
    ofSeats_apply (keepsSeats_aired False air) (fun h => ⟨onAirOk_enablement h.1, airOk_enablement h.2⟩)
      (fun {p x} h => ⟨onAirOk_forced nofun h.1.slot, AirOk.released
        (x := { x with key := keptOff v.bank .commit x.key })
        (h.2.stays (quiets_keptOff v.bank .commit x.key).1 rfl (fun _ => id) rfl rfl) nofun⟩)
      (fun h => ⟨⟨fun on => ⟨(h.1.on on).1, False.elim⟩, h.1.still, h.1.slot⟩,
        h.2.stays (Quiets.refl _) rfl (fun _ => id) rfl rfl⟩) loose
  exact fun p => ⟨⟨fun on => ⟨((applied p).1.on on).1, fun _ => recheckAll_fits v _ p on⟩, (applied p).1.still, (applied p).1.slot⟩,
    (applied p).2⟩

/-! ### The events -/

theorem air_granted {v : View} {w w' : Blocks} {p : Pos} (places : Places v.bank v.mode nobody w)
    (cases : QuietsAt p w w' ∨ (grantTest v w p = none ∧ Rekeys p grantedKey w w')) (air : Air v.bank v.mode nobody w) :
    Air v.bank v.mode nobody w' := by
  obtain ⟨record, -, h⟩ := air
  rcases cases with quiets | ⟨passed, rekeyed⟩
  · exact ⟨record, trivial, ofSeats_quiets (keepsSeats_aired True record) quiets h⟩
  · obtain ⟨-, -, -, clear⟩ := grantTest_passed passed
    exact ⟨granting p (seat w p).context.antenna record, trivial, ofSeats_granted (keepsStarts_aired True _) passed rekeyed
      (fun _ at' _ _ => granting_own at') (aired_granting places clear h)⟩

theorem shared_clear : KeepsShared Clear unforced where
  keyDown accepts alive h := ⟨shared_places.keyDown accepts alive h.1, air_granted h.1 (keyDown_cases accepts) h.2⟩
  walkEntry h := ⟨shared_places.walkEntry h.1, air_granted h.1 walkEntry_cases h.2⟩
  choose admitted loose c := fun ⟨places, air, _, h⟩ => ⟨shared_places.choose admitted loose c places, air, trivial,
    ofSeats_choose (keepsStarts_aired True air) admitted loose c (fun _ _ => trivial) h⟩
  heldEntry := fun ⟨places, air, _, h⟩ => ⟨shared_places.heldEntry places, air, trivial,
    ofSeats_heldEntry (keepsStarts_aired True air) (fun _ _ => trivial) h⟩
  startLatched ended := fun ⟨places, air, _, h⟩ => ⟨shared_places.startLatched ended places, air, trivial,
    ofSeats_startLatched (keepsStarts_aired True air) ended (fun _ _ => trivial) h⟩
  replace at' wait free c target other := fun ⟨places, air, _, h⟩ =>
    ⟨shared_places.replace at' wait free c target other places, air, trivial,
      ofSeats_replace (keepsStarts_aired True air) at' wait free c target other (fun _ _ => trivial) h⟩
  beginBreak {_ _ _ t _} at' wait q old := fun ⟨places, air, _, h⟩ => ⟨shared_places.beginBreak at' wait q old places,
    quieting t air, trivial, ofSeats_beginBreak (keepsStarts_aired True _) at' wait q old (fun _ on _ => quieting_none on)
      (aired_quieting places q h)⟩
  beginMake {_ _ _ t _} at' wait q old target := fun ⟨places, air, _, h⟩ => ⟨shared_places.beginMake at' wait q old target places,
    quieting t air, trivial, ofSeats_beginMake (keepsStarts_aired True _) at' wait q old target (fun _ on _ => quieting_none on)
      (aired_quieting places q h)⟩
  reset current := ⟨shared_places.reset current, fun _ => none, trivial, fun p => by
    rw [reset_seat]
    exact ⟨onAirOk_off nofun nofun nofun, ⟨⟨nofun, nofun⟩, nofun, nofun, nofun, fun _ at' => (nomatch at')⟩⟩⟩
  apply still := fun ⟨places, air, _, h⟩ => ⟨shared_places.apply still places, air, trivial, aired_apply h⟩

theorem keeps_clear : Keeps Clear unforced where
  toKeepsOwn := own_of_both keeps_places.toKeepsOwn (own_of_chosen rfl rfl fun air => own_of_seats (keepsSeats_aired True air))
  toKeepsShared := shared_clear

end Sys2Proof.Proofs.Seats

/-!
SUPPORT. The law of the air over the places says that what is on the air of a state is still and whole (R90, R116, R132), and every
command keeps it: O57.
-/
namespace Sys2Proof.Proofs.Seats
open Sys2Proof Sys2Proof.Machine Sys2Proof.Proofs.Keeping Sys2Proof.Proofs.Following Sys2Proof.Proofs.Moving

theorem isLive_iff (s : State) (p : Pos) : isLive (seat s.blocks p).key = true ↔ s.live p := Bool.or_eq_true_iff

theorem latched_iff (s : State) (p : Pos) : (seat s.blocks p).latched = false ↔
    ∀ k ∈ (s.claims p).effective, (s.sense k.coil).latch = .none := by
  change latchedRoute s.blocks p = false ↔ _
  unfold latchedRoute
  rw [List.any_eq_false]
  simp only [decide_eq_true_iff, not_not]

section
variable {s : State}

theorem airClear_of_clear {m : StationMode} (h : Clear s.bank m nobody s.blocks) (mode : m = s.station.mode) : airClear s := by
  obtain ⟨places, air, -, aired⟩ := h
  have holders (a : Ant) (q : Pos) := holders_of_places places a q
  refine ⟨fun p permit => ?_, fun p routed => (latched_iff s p).1 ((aired p).2.sound routed), fun a p q ne hp hq live live' => ?_,
    fun p t at' past => ?_⟩
  · obtain ⟨onAir, ok⟩ := aired p
    have on : (s.key p).state = .on := ok.steady.1 permit
    obtain ⟨routed, -⟩ := onAir.on on
    exact ⟨mode ▸ ok.on on, routed, onAir.still routed, on⟩
  · have here := (aired p).2.live ((isLive_iff s p).2 live) a ((holders a p).1 hp)
    have there := (aired q).2.live ((isLive_iff s q).2 live') a ((holders a q).1 hq)
    exact ne (Option.some.inj (here.symm.trans there))
  · obtain ⟨dead, calm⟩ := (aired p).2.quiet t at' past
    refine ⟨fun live => (nomatch dead.symm.trans ((isLive_iff s p).2 live)), fun a on q hq live => ?_⟩
    have there := (aired q).2.live ((isLive_iff s q).2 live) a ((holders a q).1 hq)
    exact nomatch (calm a on).symm.trans there

/-- The record of the antennas on the air of a state: the holder of each that is live. -/
def airOf (s : State) : Ant → Option Pos := fun a => (s.antenna a).holders.find? fun q => Machine.live s.blocks q

theorem clear_of_state (quiet : quietUnlessNormal s) (held : heldConsistent s) (consistent : placesConsistent s)
    (onAir : onAirRouted s) (air : airClear s) : Clear s.bank s.station.mode nobody s.blocks := by
  have places : Places s.bank s.station.mode nobody s.blocks := places_of_state held consistent
  obtain ⟨permits, sound, single, calm⟩ := air
  refine ⟨places, airOf s, trivial, fun p => ⟨(onAir_iff s s.station.mode).2 onAir p, quiet.1 p, fun on => ?_,
    fun routed => (latched_iff s p).2 (sound p routed), fun live a at' => ?_, fun t at' past => ?_⟩⟩
  · exact (permits p ((quiet.1 p).2 on)).1
  · have holder := (holders_of_places places a p).2 at'
    have live : Machine.live s.blocks p = true := live
    obtain ⟨q, found⟩ := Option.isSome_iff_exists.1 (List.find?_isSome.2 ⟨p, holder, live⟩)
    have same : q = p := by
      by_contra ne
      have live' : Machine.live s.blocks q = true := List.find?_some found
      exact single a q p ne (List.mem_of_find?_eq_some found) holder ((isLive_iff s q).1 live') ((isLive_iff s p).1 live)
    exact same ▸ found
  · obtain ⟨dead, quiets⟩ := calm p t at' past
    refine ⟨Bool.eq_false_iff.2 (mt (isLive_iff s p).1 dead), fun a on => List.find?_eq_none.2 fun q hq live => ?_⟩
    exact quiets a on q hq ((isLive_iff s q).1 live)

/-- Load completion brings nothing on the air (R181). -/
theorem aired_loaded {b b' : Bank} {m' : StationMode} {e : Prop} {p : Pos} {k : KeyRecord} {y : Bool} {x : Seat}
    (off : k.state ≠ .on) (dead : isLive k = false) (onAir : OnAirOk True b x) (loose : x.context.transition = none) :
    Aired True (fun _ => none) b' m' p e (x.loaded b' p k y) := by
  refine ⟨onAirOk_loaded off onAir, ⟨fun permit => ?_, fun on => absurd on off⟩, fun on => absurd on off,
    fun routed => absurd routed (restState_unrouted b' p), fun live => (nomatch dead.symm.trans live),
    fun t at' => (nomatch loose.symm.trans at')⟩
  have permit : k.permit = true := permit
  rw [isLive, permit] at dead
  cases dead

/-- Every command keeps what is on the air still and whole. -/
theorem step_keeps_airClear {t : State} (quiet : quietUnlessNormal s) (held : heldConsistent s) (consistent : placesConsistent s)
    (onAir : onAirRouted s) (air : airClear s) (run : step s = .next t) : airClear t := by
  have stands : Stands Clear (fun _ => True) s := ⟨fun _ => trivial, clear_of_state quiet held consistent onAir air⟩
  have loads (rest : List Instr) : Stands Clear (fun _ => True) ({ s with pending := rest } : State).loadCompletion := by
    refine stands_loadCompletion keepsPort_any (stands.same rfl rfl rfl rfl) fun starts v st measured valid _ => ?_
    have loaded (p : Pos) := loadBlocks_seat v st measured s.pins.keys valid (Work.start s.blocks) p
    have resting : s.station.mode ≠ .normal := fun normal => nomatch (starts : s.station.mode = .starting).symm.trans normal
    refine ⟨⟨fun _ _ => false, bounded_nowhere _, fun p => ?_⟩, fun _ => none, trivial, fun p => ?_⟩
    · obtain ⟨k, same, -⟩ := loaded p
      rw [same]
      exact placed_loaded quiet resting consistent
    · obtain ⟨k, same, off, dead⟩ := loaded p
      obtain ⟨-, -, loose, -⟩ := (quiet.2 resting).1 p
      rw [same]
      exact aired_loaded off dead ((onAir_iff s s.station.mode).2 onAir p) loose
  obtain ⟨-, kept⟩ := step_keeps keepsPort_any keeps_clear (fun _ h => h) stands loads run
  exact airClear_of_clear kept rfl

end

end Sys2Proof.Proofs.Seats

namespace Sys2Proof.Proofs.OnAir
open Sys2Proof Sys2Proof.Machine Sys2Proof.Proofs.Seats

/-- Settles O57: a grant finds no other position live over its antenna and no transition on it (`aired_granting`), and a transition
leaves its WAIT over antennas that nothing is live on (`aired_quieting`). -/
theorem stepKeepsOnAirRouted : Obligations.StepKeepsOnAirRouted := fun _ _ onAir run =>
  ⟨step_keeps_onAirRouted onAir run, fun quiet held places air => step_keeps_airClear quiet held places onAir air run⟩

end Sys2Proof.Proofs.OnAir
